-- ==== Sys2Proof/Word.lean ====
section
/-! DEFINITION. The word types of the pins and of the timebase (R161, R171, R180). -/

namespace Sys2Proof

/-- A word of a master port: D0 to D15 (R161). -/
abbrev Word := BitVec 16

/-- A byte of a link frame, and a character code (R171, R31). -/
abbrev Byte := BitVec 8

/-- Device time: a 32-bit count of milliseconds, 0 following 2^32 - 1 (R180). -/
abbrev Time := BitVec 32

/-- A text: character codes in reading order (R31). -/
abbrev Text := List Byte

end Sys2Proof
end

