-- ==== Sys2Proof/Syntax.lean ====
section
/-! DEFINITION. The commands of the part, one constructor for each row of spec/opcode_table.json, and the
names their operands are made of. The part has no program: a command is one bus cycle at a master port, one
event on a pin or a link, or one event of a block of the part (95_what_each_step_holds.md). -/

namespace Sys2Proof

/-- The three master ports (00_scope.md, Connections). -/
inductive PortId where
  | feed | supervisor | terminal
  deriving DecidableEq, Repr

/-- When the owning engine takes a request that the port unit hands to it (R162): in the action that
completes the request, or later, while the port is WORKING (R151, R160, R169 give both orders). -/
inductive Taking where
  | now | later
  deriving DecidableEq, Repr

/-- The requests of the request code table (R172, Request codes). -/
inductive Request where
  | tradeReport | quoteReport | sequenceReset | readInstrument | findSymbol
  | defineInstrument | modifyInstrument | removeInstrument
  | openSession | closeSession | rollSession
  | halt | resume | setFastMarket | clearFastMarket | cancelPrint | correctPrint | tapeText
  | definePanel | removePanel | panelDark | panelLight | defineCell | removeCell
  | moduleRestart | lampTestStart | lampTestStop | readLink
  | ribbonRestart | ribbonRate | readRibbon
  | writeDescriptor | writeLine
  | setLocalTable | openPage | closePage | writePageLine | readChangedLine | readLine
  | setNoticeMask | takeNotice
  | configure | goLive | goConfig | setTime
  deriving DecidableEq, Repr

/-- The commands. A row that is a request of a master port is the write, at port `p`, of the word `w` to
REQUEST that completes the request; the words before it are `registerWrite` commands at location 0 (the
table's REGISTER_WRITE row; notes/assumptions/1.md). -/
inductive Instr where
  | tradeReport (p : PortId) (w : Word) (k : Taking)
  | quoteReport (p : PortId) (w : Word) (k : Taking)
  | sequenceReset (p : PortId) (w : Word) (k : Taking)
  | readInstrument (p : PortId) (w : Word) (k : Taking)
  | findSymbol (p : PortId) (w : Word) (k : Taking)
  | defineInstrument (p : PortId) (w : Word) (k : Taking)
  | modifyInstrument (p : PortId) (w : Word) (k : Taking)
  | removeInstrument (p : PortId) (w : Word) (k : Taking)
  | openSession (p : PortId) (w : Word) (k : Taking)
  | closeSession (p : PortId) (w : Word) (k : Taking)
  | rollSession (p : PortId) (w : Word) (k : Taking)
  /-- The next record of a ROLL SESSION is rolled (R20). -/
  | rollRecord
  | halt (p : PortId) (w : Word) (k : Taking)
  | resume (p : PortId) (w : Word) (k : Taking)
  | setFastMarket (p : PortId) (w : Word) (k : Taking)
  | clearFastMarket (p : PortId) (w : Word) (k : Taking)
  | cancelPrint (p : PortId) (w : Word) (k : Taking)
  | correctPrint (p : PortId) (w : Word) (k : Taking)
  | tapeText (p : PortId) (w : Word) (k : Taking)
  | definePanel (p : PortId) (w : Word) (k : Taking)
  | removePanel (p : PortId) (w : Word) (k : Taking)
  | panelDark (p : PortId) (w : Word) (k : Taking)
  | panelLight (p : PortId) (w : Word) (k : Taking)
  | defineCell (p : PortId) (w : Word) (k : Taking)
  | removeCell (p : PortId) (w : Word) (k : Taking)
  | moduleRestart (p : PortId) (w : Word) (k : Taking)
  | lampTestStart (p : PortId) (w : Word) (k : Taking)
  | lampTestStop (p : PortId) (w : Word) (k : Taking)
  | readLink (p : PortId) (w : Word) (k : Taking)
  | ribbonRestart (p : PortId) (w : Word) (k : Taking)
  | ribbonRate (p : PortId) (w : Word) (k : Taking)
  | readRibbon (p : PortId) (w : Word) (k : Taking)
  | writeDescriptor (p : PortId) (w : Word) (k : Taking)
  | writeLine (p : PortId) (w : Word) (k : Taking)
  | setLocalTable (p : PortId) (w : Word) (k : Taking)
  | openPage (p : PortId) (w : Word) (k : Taking)
  | closePage (p : PortId) (w : Word) (k : Taking)
  | writePageLine (p : PortId) (w : Word) (k : Taking)
  | readChangedLine (p : PortId) (w : Word) (k : Taking)
  | readLine (p : PortId) (w : Word) (k : Taking)
  | setNoticeMask (p : PortId) (w : Word) (k : Taking)
  | takeNotice (p : PortId) (w : Word) (k : Taking)
  | configure (p : PortId) (w : Word) (k : Taking)
  | goLive (p : PortId) (w : Word) (k : Taking)
  | goConfig (p : PortId) (w : Word) (k : Taking)
  | setTime (p : PortId) (w : Word) (k : Taking)
  /-- A write cycle of `w` at location `loc` of port `p` (R161). -/
  | registerWrite (p : PortId) (loc : Fin 8) (w : Word) (k : Taking)
  /-- A read cycle at location `loc` of port `p`; the row's own location is 1, REPLY (R161, R163). -/
  | replyRead (p : PortId) (loc : Fin 8)
  | errorStatusWrite (p : PortId) (w : Word)
  | errorMaskWrite (p : PortId) (w : Word)
  | errorSeverityWrite (p : PortId) (w : Word)
  /-- A write of `w` at CONTROL (R169). -/
  | portReset (p : PortId) (w : Word)
  /-- The owning engine completes the request of the WORKING port `p` (R163). -/
  | requestComplete (p : PortId)
  | boardHandoff
  | minuteChange
  | sessionChange
  | tapeStateChange
  | highlightExpiry
  /-- The last byte of the frame on board link `l` has been sent (R101). -/
  | frameSent (l : Fin 4)
  /-- The two bytes of an acknowledgement frame arrive on board link `l` (R102, R171). -/
  | moduleAcknowledgement (l : Fin 4) (ack check : Byte)
  | moduleAckTimeout (l : Fin 4)
  /-- Module `m` of link `l` reaches K/2 since its last sent (R104). -/
  | keepAliveDue (l : Fin 4) (m : Fin 32)
  /-- Module `m` of link `l` reaches one probe interval since its last sent (R104). -/
  | probeDue (l : Fin 4) (m : Fin 32)
  | settleExpiry (l : Fin 4)
  | departedCopyHandoff
  /-- The last byte of the block frame of ribbon `r` has been sent (R127). -/
  | blockFrameSent (r : Fin 2)
  /-- The two bytes of an acknowledgement frame arrive from ribbon unit `u` (R127, R171). -/
  | ribbonAcknowledgement (u : Fin 2) (ack check : Byte)
  | pacingCountEnd (r : Fin 2)
  | ribbonAckTimeout (r : Fin 2)
  /-- The READY input of ribbon unit `u` rises (R118). -/
  | readyRise (u : Fin 2)
  | readyFall (u : Fin 2)
  | lateNoticeExpiry (r : Fin 2)
  | pageHandoff
  | noticeRaise
  | tick
  | dayClockAdvance
  | deviceReset
  | resetRelease
  /-- The write of the word `w` that completes a request whose code is in no row of the request code
  table (R162). -/
  | unlistedRequestCode (p : PortId) (w : Word)
  deriving DecidableEq, Repr

end Sys2Proof
end

