-- ==== Sys2Proof/Decode.lean ====
section
/-! DEFINITION. What a word of spec/opcode_table.json's bits spells. No row of the table gives any bits (each
has an empty list of fields), so no word spells a command; the words of the master ports are taken apart in
Machine/Operands.lean and Machine/Port.lean. -/

namespace Sys2Proof

/-- The command that the table's bits spell with the `nbits` bits of `w`: none, since no row gives bits. -/
def decodeTableWord (_nbits _w : Nat) : Option Instr := none

end Sys2Proof
end

