-- ==== Sys2Proof/Config.lean ====
section
/-! DEFINITION. What the manual fixes for every Velgap 2240 (capacities, limits, the device-reset values of
the configuration items) and the model's free values. -/

namespace Sys2Proof.Config

/-- Records of the instrument table (R1). -/
def instrumentCount : Nat := 2048
/-- Prints a print list holds (R4). -/
def printListLength : Nat := 8
/-- The highest volume; above it the saturation mark is set (R29). -/
def maxVolume : Nat := 999999999
/-- At this trade count the count is saturated (R30). -/
def maxTradeCount : Nat := 65535
/-- The highest size of one trade, and the highest block threshold (R1, R4). -/
def maxShares : Nat := 9999999
/-- The lowest block threshold (R1). -/
def minBlockThreshold : Nat := 100
/-- The highest quote size in round lots (R56). -/
def maxQuoteSize : Nat := 9999
/-- The highest whole-dollar part of a price operand (R23). -/
def maxWhole : Nat := 9999
/-- Entries a tape queue holds (R115). -/
def tapeCapacity : Nat := 256
/-- From this length on a tape queue takes no trade's entry (R50). -/
def tapeTradeLimit : Nat := 248
/-- Cells of the cell table (R80). -/
def cellCount : Nat := 4096
/-- Lines of the line store (R138). -/
def lineCount : Nat := 4096
/-- Slots of the descriptor store (R136). -/
def slotCount : Nat := 1024
/-- Slots of the global table (R136). -/
def globalSlots : Nat := 128
/-- Terminals (R140). -/
def terminalCount : Nat := 64
/-- The settle wait in milliseconds (R105). -/
def settleMs : Nat := 500
/-- The run of the late-notice timer in milliseconds (R122). -/
def lateNoticeMs : Nat := 60000
/-- Operand words a port stores (R162). -/
def storedOperands : Nat := 11
/-- Seconds of a day (R181). -/
def secondsPerDay : Nat := 86400

/-- FREE VALUE, DESIGN CHOICE (notes/assumptions/15.md): the price that a PRINT entry of a tape queue renders
when neither its departed copy, nor its instrument's print list, nor a departed copy on its way names its
print. R115 and R116 leave no such entry in any run, and the manual gives none a text. -/
opaque lostPrintPrice : Nat → Nat → Nat
/-- FREE VALUE, DESIGN CHOICE (notes/assumptions/15.md): the size of the same entry. -/
opaque lostPrintSize : Nat → Nat → Nat
/-- FREE VALUE, DESIGN CHOICE (notes/assumptions/15.md): whether the same entry is a LATE print's. -/
opaque lostPrintLate : Nat → Nat → Bool

end Sys2Proof.Config
end

