-- ==== Sys2Proof/Machine/State.lean ====
section
/-! DEFINITION. The state of the part as plain data, block by block (00_scope.md, Block overview), and the
state after device reset. A field that the manual makes present exactly in one state is held inside that
state (notes/assumptions/27.md). -/

namespace Sys2Proof.Machine

/-- Sparse data by key, in rising order of the keys; a key that is not listed holds the value the
device reset gives its entry (notes/assumptions/24.md). `Table.get` and `Table.put` (Machine/Ops.lean) read
and write it. -/
abbrev Table (α : Type) := List (Nat × α)

/-! ### Quote engine -/

/-- The device modes (R175). -/
inductive DeviceMode where
  | config | live
  deriving DecidableEq, Repr

/-- The session states (R18). -/
inductive Session where
  | closed | opened
  deriving DecidableEq, Repr

/-- The trading states of a record, the halt reason being present exactly when HALTED (R1, R2). -/
inductive TradingState where
  | vacant | active | halted (reason : Nat)
  deriving DecidableEq, Repr

/-- The denominators (R1). -/
inductive Denominator where
  | eighths | sixteenths | thirtySeconds | sixtyFourths
  deriving DecidableEq, Repr

/-- The ribbon sets (R1). -/
inductive RibbonSet where
  | neither | zero | one | both
  deriving DecidableEq, Repr

/-- The tick values (R25); `flat` is NONE. -/
inductive Tick where
  | flat | up | zeroUp | down | zeroDown
  deriving DecidableEq, Repr

/-- The quote conditions (R57). -/
inductive QuoteCondition where
  | firm | nonFirm | crossed
  deriving DecidableEq, Repr

/-- The condition of a print, with the stored tick that a REGULAR print has and a LATE one lacks (R4). -/
inductive PrintKind where
  | regular (tick : Tick)
  | late
  deriving DecidableEq, Repr

/-- A print of a print list (R4); `valid` is false once it is CANCELED. -/
structure Print where
  number : Nat
  kind   : PrintKind
  price  : Nat
  size   : Nat
  valid  : Bool
  deriving DecidableEq, Repr

/-- Last with last size, which are present together (R1, R7). -/
structure Sale where
  price : Nat
  size  : Nat
  deriving DecidableEq, Repr

/-- Anchor last, anchor last size and anchor tick, which are present together (R1, R5). -/
structure AnchorSale where
  price : Nat
  size  : Nat
  tick  : Tick
  deriving DecidableEq, Repr

/-- Open with the opening print number, which are present together (R1, R9). -/
structure Opening where
  price  : Nat
  number : Nat
  deriving DecidableEq, Repr

/-- An instrument record (R1). -/
structure Instrument where
  symbol         : Option Text
  cls            : Option Byte
  trading        : TradingState
  denominator    : Denominator
  ribbonSet      : RibbonSet
  blockThreshold : Option Nat
  prevClose      : Option Nat
  opening        : Option Opening
  high           : Option Nat
  low            : Option Nat
  last           : Option Sale
  anchorHigh     : Option Nat
  anchorLow      : Option Nat
  anchorLast     : Option AnchorSale
  tick           : Tick
  carriedTick    : Tick
  reversal       : Bool
  volume         : Nat
  saturated      : Bool
  tradeCount     : Nat
  bid            : Option Nat
  ask            : Option Nat
  bidSize        : Nat
  askSize        : Nat
  quoteCondition : QuoteCondition
  fast           : Bool
  nextNumber     : Nat
  prints         : List Print
  bindHead       : Option Nat
  viewers        : List Nat
  digitRef0      : Option Nat
  digitRef1      : Option Nat
  deriving DecidableEq, Repr

/-- A record after device reset: the vacant values of R21, binding list head and digit references absent
and viewer set empty. -/
def Instrument.vacant : Instrument where
  symbol := none
  cls := none
  trading := .vacant
  denominator := .eighths
  ribbonSet := .neither
  blockThreshold := none
  prevClose := none
  opening := none
  high := none
  low := none
  last := none
  anchorHigh := none
  anchorLow := none
  anchorLast := none
  tick := .flat
  carriedTick := .flat
  reversal := false
  volume := 0
  saturated := false
  tradeCount := 0
  bid := none
  ask := none
  bidSize := 0
  askSize := 0
  quoteCondition := .firm
  fast := false
  nextNumber := 1
  prints := []
  bindHead := none
  viewers := []
  digitRef0 := none
  digitRef1 := none

/-- An entry of the symbol directory (R10). -/
structure DirEntry where
  symbol : Text
  cls    : Option Byte
  index  : Nat
  deriving DecidableEq, Repr

/-- The quote engine's state (R1, R10, R18, R41). `rolling` holds the indices that the ROLL SESSION being
worked on has still to roll, in ascending order (R20). -/
structure Quote where
  instruments : Table Instrument
  directory   : List DirEntry
  session     : Session
  expectation : Option Nat
  rolling     : List Nat
  deriving DecidableEq, Repr

/-! ### Board engine and link controllers -/

/-- The displayed field kinds of a record (R3, R80). -/
inductive Field where
  | symbol | prevClose | opening | high | low | last | lastSize | netChange | tick | volume
  | bid | ask | bidSize | askSize | status
  deriving DecidableEq, Repr

/-- What a cell shows (R80): a field of an instrument, or a device field, TAPE_STATE with its ribbon. -/
inductive CellField where
  | instrument (f : Field) (index : Nat)
  | clock
  | market
  | tapeState (ribbon : Nat)
  deriving DecidableEq, Repr

/-- A panel descriptor (R77). -/
structure Panel where
  present : Bool
  link    : Nat
  base    : Nat
  limit   : Nat
  dark    : Bool
  deriving DecidableEq, Repr

/-- A descriptor that is not present (R77). -/
def Panel.absent : Panel where
  present := false
  link := 0
  base := 0
  limit := 1
  dark := false

/-- The justifications of a text in its field (R39). -/
inductive Justification where
  | right | left
  deriving DecidableEq, Repr

/-- A cell record (R80). -/
structure Cell where
  bound         : Bool
  address       : Nat
  row           : Nat
  column        : Nat
  width         : Nat
  field         : CellField
  justification : Justification
  onChange      : Bool
  next          : Option Nat
  queued        : Bool
  expiry        : Option Time
  deriving DecidableEq, Repr

/-- A VACANT cell record (R80). -/
def Cell.vacant : Cell where
  bound := false
  address := 0
  row := 1
  column := 1
  width := 1
  field := .instrument .symbol 0
  justification := .right
  onChange := false
  next := none
  queued := false
  expiry := none

/-- The lamp test patterns (R109). -/
inductive LampPattern where
  | allLit | alternate | address | charset
  deriving DecidableEq, Repr

/-- The states of a link, with the settle expiry that SETTLING may hold and the test pattern that TEST
holds (R99). -/
inductive LinkState where
  | off
  | settling (expiry : Option Time)
  | running
  | test (pattern : LampPattern)
  deriving DecidableEq, Repr

/-- The states of a module; it is configured exactly when it is not UNCONFIGURED (R100). -/
inductive ModuleState where
  | unconfigured | up | down
  deriving DecidableEq, Repr

/-- What a module is owed (R100). An owed PATTERN carries the test pattern it is to show
(notes/assumptions/26.md). -/
inductive Owed where
  | nothing
  | blank
  | pattern (p : LampPattern)
  deriving DecidableEq, Repr

/-- An entry of a link's module table (R100). -/
structure Module where
  state          : ModuleState
  rows           : Nat
  columns        : Nat
  lastSent       : Option Time
  owed           : Owed
  restartPending : Bool
  deriving DecidableEq, Repr

/-- A module table entry after device reset (R114, R176). -/
def Module.reset : Module where
  state := .unconfigured
  rows := 4
  columns := 40
  lastSent := none
  owed := .nothing
  restartPending := false

/-- The attribute of a WRITE (R92). -/
structure Attribute where
  highlight : Bool
  blink     : Bool
  deriving DecidableEq, Repr

/-- The messages of a board link, with their operands (R101, R171). -/
inductive Message where
  | write (row column : Nat) (attr : Attribute) (text : Text)
  | hold
  | blank
  | pattern (p : LampPattern)
  deriving DecidableEq, Repr

/-- The purposes of a message (R101). -/
inductive Purpose where
  | write | keepAlive | probe | settleBlank | owedBlank | owedPattern
  deriving DecidableEq, Repr

/-- A message with its module's address, its purpose, and whether the module was UP when it was sent
(R102, R103). -/
structure Sent where
  address : Nat
  message : Message
  purpose : Purpose
  toUp    : Bool
  deriving DecidableEq, Repr

/-- What is on a board link: nothing, a frame going out, or a message whose frame has been sent and whose
acknowledge deadline runs (R101). -/
inductive Line where
  | free
  | sending (m : Sent)
  | inFlight (m : Sent) (deadline : Time)
  deriving DecidableEq, Repr

/-- A link record with its module table (R99, R100). `resetPulses` counts the pulses of the link's LRST
output (R105; the model's own field, notes/assumptions/13.md). -/
structure Link where
  enabled     : Bool
  holdSeconds : Nat
  ackTimeout  : Nat
  state       : LinkState
  line        : Line
  modules     : Table Module
  resetPulses : Nat
  deriving DecidableEq, Repr

/-- A link after device reset (R114, R176). -/
def Link.reset : Link where
  enabled := false
  holdSeconds := 10
  ackTimeout := 50
  state := .off
  line := .free
  modules := []
  resetPulses := 0

/-- The board engine's state (R77, R80, R84, R87, R94) and the four link controllers' (R99). -/
structure Display where
  panels     : Table Panel
  cells      : Table Cell
  deviceHead : Option Nat
  repaint    : Table (List Nat)
  highlights : List Nat
  links      : Table Link
  deriving DecidableEq, Repr

/-! ### Ribbon engine -/

/-- The condition, price and size of a print that has left its print list (R116). -/
structure PrintFace where
  late  : Bool
  price : Nat
  size  : Nat
  deriving DecidableEq, Repr

/-- An entry of a tape queue (R115). -/
inductive TapeEntry where
  | print (index number : Nat) (stamp : Time) (departed : Option PrintFace)
  | notice (text : Text) (stamp : Time) (index : Option Nat)
  deriving DecidableEq, Repr

/-- The block in flight: the deadline is absent until the frame's last byte has been sent, and `acked0`
and `acked1` say which units have acknowledged (R117, R127). -/
structure Block where
  text     : Text
  deadline : Option Time
  acked0   : Bool
  acked1   : Bool
  deriving DecidableEq, Repr

/-- The states of a ribbon, with the block in flight that SENDING holds and the pending block that FAULT
holds (R117). -/
inductive RibbonState where
  | off | idle
  | sending (block : Block)
  | pacing | waiting
  | fault (pendingBlock : Text)
  deriving DecidableEq, Repr

/-- The late modes (R121). -/
inductive LateMode where
  | normal | digitsDeleted | digitsVolumeDeleted
  deriving DecidableEq, Repr

/-- A ribbon record with its tape queue (R115, R117). -/
structure Ribbon where
  enabled    : Bool
  period     : Nat
  ackTimeout : Nat
  state      : RibbonState
  outgoing   : List Text
  pacing     : Nat
  lag        : Time
  lateMode   : LateMode
  lateExpiry : Option Time
  lateOwed   : Bool
  queue      : List TapeEntry
  deriving DecidableEq, Repr

/-- A ribbon after device reset (R135, R176). -/
def Ribbon.reset : Ribbon where
  enabled := false
  period := 80
  ackTimeout := 200
  state := .off
  outgoing := []
  pacing := 0
  lag := 0
  lateMode := .normal
  lateExpiry := none
  lateOwed := false
  queue := []

/-- The ribbon engine's state and the levels of the two READY inputs (R117). -/
structure Tape where
  ribbon0 : Ribbon
  ribbon1 : Ribbon
  ready0  : Bool
  ready1  : Bool
  deriving DecidableEq, Repr

/-! ### Page engine and notice unit -/

/-- What a descriptor describes (R136). -/
inductive DescriptorKind where
  | invalid | page | localTable
  deriving DecidableEq, Repr

/-- A descriptor (R136). -/
structure Descriptor where
  kind    : DescriptorKind
  present : Bool
  rank    : Nat
  base    : Nat
  limit   : Nat
  deriving DecidableEq, Repr

/-- The INVALID descriptor (R136). -/
def Descriptor.invalid : Descriptor where
  kind := .invalid
  present := false
  rank := 0
  base := 0
  limit := 0

/-- The line formats (R138). -/
inductive LineFormat where
  | full | quote | range
  deriving DecidableEq, Repr

/-- The content of a line that is not blank (R138); a blank line is `none`. -/
structure LineContent where
  index  : Nat
  format : LineFormat
  deriving DecidableEq, Repr

/-- A selector: `isLocal` is false for GLOBAL and true for LOCAL (R139). -/
structure Selector where
  isLocal : Bool
  index   : Nat
  deriving DecidableEq, Repr

/-- A local-table cache (R140). -/
structure LocalTable where
  base  : Nat
  limit : Nat
  rank  : Nat
  deriving DecidableEq, Repr

/-- The open page of a context: open selector, snapshot and dirty set in ascending order (R140). -/
structure OpenPage where
  selector : Selector
  snapshot : List (Option LineContent)
  dirty    : List Nat
  deriving DecidableEq, Repr

/-- A terminal context; it is OPEN exactly while `page` is present (R140). -/
structure Context where
  localTable : Option LocalTable
  page       : Option OpenPage
  deriving DecidableEq, Repr

/-- A context after device reset (R140). -/
def Context.reset : Context where
  localTable := none
  page := none

/-- The page engine's state (R136, R138, R140); the viewer sets stand with the instrument records. -/
structure Pages where
  descriptors : Table Descriptor
  lines       : Table (Option LineContent)
  contexts    : Table Context
  deriving DecidableEq, Repr

/-- The notice unit's state (R153): entry masks, global mask, pending set in ascending order, queue. -/
structure Notices where
  masks      : Table Bool
  globalMask : Bool
  waiting    : List Nat
  queue      : List Nat
  deriving DecidableEq, Repr

/-! ### Ports -/

/-- The outcomes of the outcome code table (R173). `noLine` is NONE. -/
inductive Answer where
  | done | duplicate | noLine | empty | held | notLive | notPermitted | malformed
  | unknownInstrument | sessionClosed | tradeHalted | priceGrid | tapeFull | tooOld | notFound
  | inUse | duplicateSymbol | overlap | outOfRange | notPresent | wrongKind | noLocalTable | rank | busy
  deriving DecidableEq, Repr

/-- Where the request of a WORKING port stands: handed to its engine and not yet taken, or taken by the
engine, which holds the reply until it completes the request (R162, R163). -/
inductive Stage where
  | handed (request : Request) (operands : List Word)
  | taken (reply : List Word)
  deriving DecidableEq, Repr

/-- The states of a port with its request or reply buffer (R162, R163). COLLECTING holds word 0, the stored
operands and the count of operands still to come; `discard` is set by a port reset in WORKING (R169). -/
inductive PortState where
  | idle
  | collecting (head : Word) (stored : List Word) (left : Nat)
  | working (stage : Stage) (discard : Bool)
  | reply (words : List Word)
  deriving DecidableEq, Repr

/-- A port unit (R162, R165, R167). `dataOut` is the word that the last read cycle drove on D0 to D15 (the
model's own field, notes/assumptions/12.md). -/
structure Port where
  state    : PortState
  status   : Word
  mask     : Word
  severity : Word
  dataOut  : Word
  deriving DecidableEq, Repr

/-- The text assembly buffer's content (R75). -/
structure AssembledText where
  ribbon : Nat
  text   : Text
  deriving DecidableEq, Repr

/-- The three port units and the S-port's text assembly buffer (R75, R161). -/
structure Ports where
  feed       : Port
  supervisor : Port
  terminal   : Port
  textBuffer : Option AssembledText
  deriving DecidableEq, Repr

/-! ### Timebase, configuration items, handoffs on their way -/

/-- The timebase (R180, R181). -/
structure Timebase where
  time        : Time
  millisecond : Nat
  dayClock    : Nat
  deriving DecidableEq, Repr

/-- The configuration items that no link, module or ribbon record holds (R176). Thresholds and intervals
are in the units of the table. -/
structure Items where
  probeSeconds     : Nat
  highlightSeconds : Nat
  joined           : Bool
  late1            : Nat
  late2            : Nat
  blockThreshold   : Nat
  deriving DecidableEq, Repr

/-- The items after device reset (R176). -/
def Items.reset : Items where
  probeSeconds := 5
  highlightSeconds := 3
  joined := false
  late1 := 60
  late2 := 120
  blockThreshold := 10000

/-- A changed-field set on its way to the board engine (R3, R88). -/
structure BoardChange where
  index    : Nat
  fields   : List Field
  eligible : Bool
  deriving DecidableEq, Repr

/-- A changed-field set on its way to the page engine (R3, R147). -/
structure PageChange where
  index  : Nat
  fields : List Field
  deriving DecidableEq, Repr

/-- A departed copy on its way to the tape queues (R116). -/
structure Departure where
  index  : Nat
  number : Nat
  face   : PrintFace
  deriving DecidableEq, Repr

/-- What one block has handed to another and the other has not yet taken, oldest first
(notes/assumptions/4.md): the rows BOARD_HANDOFF, PAGE_HANDOFF, NOTICE_RAISE, MINUTE_CHANGE,
SESSION_CHANGE, TAPE_STATE_CHANGE, DEPARTED_COPY_HANDOFF and DAY_CLOCK_ADVANCE take them. -/
structure Transit where
  boardChanges   : List BoardChange
  pageChanges    : List PageChange
  raises         : List Nat
  minuteChanges  : Nat
  sessionChanges : Nat
  tapeChanges    : List Nat
  departures     : List Departure
  seconds        : Nat
  deriving DecidableEq, Repr

/-- Nothing on its way. -/
def Transit.none : Transit where
  boardChanges := []
  pageChanges := []
  raises := []
  minuteChanges := 0
  sessionChanges := 0
  tapeChanges := []
  departures := []
  seconds := 0

/-- The part. `pending` is the queue of the commands that wait, first in, first out; `inReset` is set while
RESET is held low (R182). -/
structure State where
  pending  : List Instr
  inReset  : Bool
  mode     : DeviceMode
  ports    : Ports
  quote    : Quote
  display  : Display
  tape     : Tape
  pages    : Pages
  notices  : Notices
  timebase : Timebase
  items    : Items
  transit  : Transit
  deriving DecidableEq, Repr

/-- No command of the part faults: every bus cycle and every event has the effect the manual gives it, and
what the manual ignores is ignored (safe: there is nothing to raise). -/
inductive Fault where
  deriving DecidableEq, Repr

/-- Why a command has no meaning. -/
inductive Refusal where
  /-- Raised by an arm of `exec` whose row has no meaning yet; safe. No arm raises it. -/
  | notModelled (mnemonic : String)
  deriving DecidableEq, Repr

/-- A port after device reset, but for its severities (R170). -/
def Port.reset (severity : Word) : Port where
  state := .idle
  status := 0
  mask := 0
  severity := severity
  dataOut := 0

/-- The ports after device reset: MALFORMED (position 1) is STOPPING at the F-port and every other
severity is ADVISORY (R167, R170); the text assembly buffer is empty (R75). -/
def Ports.reset : Ports where
  feed := Port.reset 2
  supervisor := Port.reset 0
  terminal := Port.reset 0
  textBuffer := none

/-- The quote engine after device reset (R21, R41). -/
def Quote.reset : Quote where
  instruments := []
  directory := []
  session := .closed
  expectation := none
  rolling := []

/-- The board engine and the link controllers after device reset (R97, R114). -/
def Display.reset : Display where
  panels := []
  cells := []
  deviceHead := none
  repaint := []
  highlights := []
  links := []

/-- The ribbon engine after device reset (R135), with the READY inputs at the given levels, which no
reset of the part moves. -/
def Tape.reset (ready0 ready1 : Bool) : Tape where
  ribbon0 := Ribbon.reset
  ribbon1 := Ribbon.reset
  ready0 := ready0
  ready1 := ready1

/-- The page engine after device reset (R152). -/
def Pages.reset : Pages where
  descriptors := []
  lines := []
  contexts := []

/-- The notice unit after device reset: the global mask is set (R160). -/
def Notices.reset : Notices where
  masks := []
  globalMask := true
  waiting := []
  queue := []

/-- The timebase after device reset (R180, R181). -/
def Timebase.reset : Timebase where
  time := 0
  millisecond := 0
  dayClock := 0

/-- The part right after device reset: RESET released, CONFIG, device time 0, every block at its
device-reset values (R182). The READY inputs are low (notes/assumptions/11.md). -/
def State.reset : State where
  pending := []
  inReset := false
  mode := .config
  ports := Ports.reset
  quote := Quote.reset
  display := Display.reset
  tape := Tape.reset false false
  pages := Pages.reset
  notices := Notices.reset
  timebase := Timebase.reset
  items := Items.reset
  transit := Transit.none

end Sys2Proof.Machine
end

