-- ==== Sys2Proof/Machine/Ops.lean ====
section
/-! DEFINITION. The named operations over the tables, the registers and the pins: every other file of the
machine reads and writes the state through them. -/

namespace Sys2Proof

/-- The rank of a port (R164). -/
def PortId.rank : PortId → Nat
  | .supervisor => 0
  | .feed => 1
  | .terminal => 2

/-- The positions that name a condition of the port (R171). -/
def PortId.conditions : PortId → Word
  | .feed => 0x7F
  | .supervisor => 0x0F
  | .terminal => 0x07

end Sys2Proof

namespace Sys2Proof.Machine

/-! ### Tables and sets -/

/-- The entry of a table under a key; `d` is what an unlisted entry holds. -/
def Table.get {α : Type} (d : α) : Table α → Nat → α
  | [], _ => d
  | (k', v) :: t, k => if k' = k then v else Table.get d t k

/-- Place an entry under its key, in rising order of the keys. -/
def Table.place {α : Type} : Table α → Nat → α → Table α
  | [], k, v => [(k, v)]
  | (k', v') :: t, k, v =>
    if k < k' then (k, v) :: (k', v') :: t
    else if k = k' then (k, v) :: t
    else (k', v') :: Table.place t k v

/-- Write an entry of a table, keeping the keys rising and no entry equal to `d`. -/
def Table.put {α : Type} [DecidableEq α] (d : α) (t : Table α) (k : Nat) (v : α) : Table α :=
  if v = d then t.filter fun e => e.1 != k else t.place k v

/-- Every key of the table lies above `b`, the keys rise, and no entry equals `d`. -/
def Table.wfAbove {α : Type} [DecidableEq α] (d : α) : Option Nat → Table α → Bool
  | _, [] => true
  | b, (k, v) :: t => (b.all fun b => decide (b < k)) && !decide (v = d) && Table.wfAbove d (some k) t

/-- The canonical form of a table: keys strictly rising, no entry equal to what an unlisted one holds. -/
def Table.wf {α : Type} [DecidableEq α] (d : α) (t : Table α) : Bool := Table.wfAbove d none t

/-- Every entry of a table changed by `f`, in canonical form. -/
def Table.mapValues {α : Type} [DecidableEq α] (d : α) (f : α → α) (t : Table α) : Table α :=
  (t.map fun e => (e.1, f e.2)).filter fun e => !decide (e.2 = d)

/-- The entries of a table that satisfy `p`, in rising order of their keys. -/
def Table.keys {α : Type} (p : Nat → α → Bool) (t : Table α) : List Nat :=
  (t.filter fun e => p e.1 e.2).map (·.1)

/-- The first entry of a table that satisfies `p`. -/
def Table.first {α : Type} (p : α → Bool) (t : Table α) : Option (Nat × α) :=
  t.find? fun e => p e.2

/-- Insert into a set held in ascending order. -/
def setInsert (n : Nat) : List Nat → List Nat
  | [] => [n]
  | m :: ms => if n < m then n :: m :: ms else if n = m then m :: ms else m :: setInsert n ms

/-- Remove from a set or a list every occurrence of a number. -/
def setErase (n : Nat) (l : List Nat) : List Nat := l.filter fun m => m != n

/-- The first check that holds gives the answer (R12, R14, ... : the checks are taken in order). -/
def firstRefusal (checks : List (Bool × Answer)) : Option Answer :=
  (checks.find? fun c => c.1).map (·.2)

/-! ### Time -/

/-- The difference of two device times, modulo 2^32 (R180). -/
def elapsed (since now : Time) : Nat := (now - since).toNat

/-- Whether device time has reached a timer: the timer lies at most 2^31 - 1 ms behind device time
(R180; notes/assumptions/5.md). -/
def reached (timer now : Time) : Bool := elapsed timer now < 2147483648

/-- Device time plus a number of milliseconds (R180). -/
def later (now : Time) (ms : Nat) : Time := now + BitVec.ofNat 32 ms

/-- Device time. -/
def State.now (s : State) : Time := s.timebase.time

/-! ### Ports -/

/-- The port unit of a port. -/
def State.port (s : State) : PortId → Port
  | .feed => s.ports.feed
  | .supervisor => s.ports.supervisor
  | .terminal => s.ports.terminal

/-- Write the port unit of a port. -/
def State.setPort (p : PortId) (v : Port) (s : State) : State :=
  { s with ports :=
    match p with
    | .feed => { s.ports with feed := v }
    | .supervisor => { s.ports with supervisor := v }
    | .terminal => { s.ports with terminal := v } }

/-- Write the text assembly buffer (R75). -/
def State.setTextBuffer (b : Option AssembledText) (s : State) : State :=
  { s with ports := { s.ports with textBuffer := b } }

/-- The conditions an error status may hold (R165). -/
inductive Condition where
  | overrun | malformed
  | unknownInstrument | priceGrid | tradeHalted | sessionClosed | sequenceGap
  | moduleDown | ribbonFault
  | rank
  deriving DecidableEq, Repr

/-- The position of a condition in the three error words (R171). -/
def Condition.position : Condition → Nat
  | .overrun => 0
  | .malformed => 1
  | .unknownInstrument => 2
  | .priceGrid => 3
  | .tradeHalted => 4
  | .sessionClosed => 5
  | .sequenceGap => 6
  | .moduleDown => 2
  | .ribbonFault => 3
  | .rank => 2

/-- The word that has a 1 in the condition's position alone. -/
def Condition.word (c : Condition) : Word := (1 : Word) <<< c.position

/-- Record a condition in a port's error status (R165). -/
def State.record (p : PortId) (c : Condition) (s : State) : State :=
  s.setPort p { s.port p with status := (s.port p).status ||| c.word }

/-- A port is HELD exactly when its error status holds a condition that is unmasked and STOPPING (R167). -/
def Port.held (v : Port) : Bool := v.status &&& ~~~v.mask &&& v.severity != 0

/-- A port's error status holds an unmasked condition (R168). -/
def Port.calls (v : Port) : Bool := v.status &&& ~~~v.mask != 0

/-- The ATTN output is asserted (R158, R168, R182). -/
def State.attention (s : State) (p : PortId) : Bool :=
  !s.inReset && ((s.port p).calls || (decide (p = .terminal) && !s.notices.queue.isEmpty))

/-! ### Instruments -/

/-- The record of an instrument index. -/
def State.instr (s : State) (i : Nat) : Instrument := Table.get Instrument.vacant s.quote.instruments i

/-- Write the record of an instrument index. -/
def State.setInstr (i : Nat) (v : Instrument) (s : State) : State :=
  { s with quote := { s.quote with instruments := Table.put Instrument.vacant s.quote.instruments i v } }

/-- The record is VACANT (R2). -/
def Instrument.isVacant (v : Instrument) : Bool := decide (v.trading = .vacant)

/-- The record is HALTED (R2). -/
def Instrument.isHalted (v : Instrument) : Bool :=
  match v.trading with
  | .halted _ => true
  | .vacant => false
  | .active => false

/-! ### Ribbons -/

/-- The record of a ribbon; ribbon 1 for every number other than 0. -/
def State.ribbon (s : State) (r : Nat) : Ribbon := if r = 0 then s.tape.ribbon0 else s.tape.ribbon1

/-- Write the record of a ribbon. -/
def State.setRibbon (r : Nat) (v : Ribbon) (s : State) : State :=
  { s with tape := if r = 0 then { s.tape with ribbon0 := v } else { s.tape with ribbon1 := v } }

/-- The ribbon is OFF (R117). -/
def Ribbon.isOff (v : Ribbon) : Bool := decide (v.state = .off)

/-- The ribbons in service: not OFF, and ribbon 0 alone while JOINED (R18, R117). -/
def State.inService (s : State) (r : Nat) : Bool :=
  !(s.ribbon r).isOff && !(s.items.joined && decide (r ≠ 0))

/-- A ribbon is eligible when it is enabled and is not ribbon 1 while JOINED (R117). -/
def State.eligible (s : State) (r : Nat) : Bool :=
  (s.ribbon r).enabled && !(s.items.joined && decide (r ≠ 0))

/-- The gate of a ribbon: its READY input, or both for ribbon 0 while JOINED (R117, R132). -/
def State.gate (s : State) (r : Nat) : Bool :=
  if s.items.joined && decide (r = 0) then s.tape.ready0 && s.tape.ready1
  else if r = 0 then s.tape.ready0 else s.tape.ready1

/-- The ribbons that a ribbon set names, given the pairing (R49). -/
def RibbonSet.named (joined : Bool) : RibbonSet → List Nat
  | .neither => []
  | .zero => [0]
  | .one => if joined then [] else [1]
  | .both => if joined then [0] else [0, 1]

/-- The carrying ribbons of an instrument (R49), ribbon 0 first (notes/assumptions/35.md). -/
def State.carrying (s : State) (v : Instrument) : List Nat :=
  (v.ribbonSet.named s.items.joined).filter fun r => !(s.ribbon r).isOff

/-! ### Handoffs -/

/-- Hand a changed-field set to the board engine and to the page engine, unless it is empty (R3, R54). -/
def State.handOn (index : Nat) (fields : List Field) (eligible : Bool) (s : State) : State :=
  { s with transit :=
    if fields.isEmpty then s.transit
    else { s.transit with
      boardChanges := s.transit.boardChanges ++ [⟨index, fields, eligible⟩]
      pageChanges := s.transit.pageChanges ++ [⟨index, fields⟩] } }

/-- Tell the notice unit that terminals have lines to collect (R143, R147). -/
def State.tell (terminals : List Nat) (s : State) : State :=
  { s with transit := { s.transit with raises := s.transit.raises ++ terminals } }

end Sys2Proof.Machine
end

