-- ==== Sys2Proof/Machine/Operands.lean ====
section
/-! DEFINITION. The words of the master ports: request codes, outcome codes, operands (R161, R171 to R174). -/

namespace Sys2Proof

/-- The request code table (R172, Request codes). -/
def Request.code : Request → Nat
  | .tradeReport => 0x01
  | .quoteReport => 0x02
  | .sequenceReset => 0x03
  | .readInstrument => 0x04
  | .findSymbol => 0x05
  | .defineInstrument => 0x10
  | .modifyInstrument => 0x11
  | .removeInstrument => 0x12
  | .openSession => 0x13
  | .closeSession => 0x14
  | .rollSession => 0x15
  | .halt => 0x18
  | .resume => 0x19
  | .setFastMarket => 0x1A
  | .clearFastMarket => 0x1B
  | .cancelPrint => 0x1C
  | .correctPrint => 0x1D
  | .tapeText => 0x1E
  | .definePanel => 0x20
  | .removePanel => 0x21
  | .panelDark => 0x22
  | .panelLight => 0x23
  | .defineCell => 0x24
  | .removeCell => 0x25
  | .moduleRestart => 0x28
  | .lampTestStart => 0x29
  | .lampTestStop => 0x2A
  | .readLink => 0x2B
  | .ribbonRestart => 0x30
  | .ribbonRate => 0x31
  | .readRibbon => 0x32
  | .writeDescriptor => 0x38
  | .writeLine => 0x39
  | .setLocalTable => 0x40
  | .openPage => 0x41
  | .closePage => 0x42
  | .writePageLine => 0x43
  | .readChangedLine => 0x44
  | .readLine => 0x45
  | .setNoticeMask => 0x48
  | .takeNotice => 0x49
  | .configure => 0x70
  | .goLive => 0x71
  | .goConfig => 0x72
  | .setTime => 0x73

/-- Every request of the table. -/
def Request.all : List Request :=
  [.tradeReport, .quoteReport, .sequenceReset, .readInstrument, .findSymbol, .defineInstrument,
   .modifyInstrument, .removeInstrument, .openSession, .closeSession, .rollSession, .halt, .resume,
   .setFastMarket, .clearFastMarket, .cancelPrint, .correctPrint, .tapeText, .definePanel, .removePanel,
   .panelDark, .panelLight, .defineCell, .removeCell, .moduleRestart, .lampTestStart, .lampTestStop,
   .readLink, .ribbonRestart, .ribbonRate, .readRibbon, .writeDescriptor, .writeLine, .setLocalTable,
   .openPage, .closePage, .writePageLine, .readChangedLine, .readLine, .setNoticeMask, .takeNotice,
   .configure, .goLive, .goConfig, .setTime]

/-- The request of a code, none where the code is in no row of the table (R162). -/
def Request.ofCode (code : Nat) : Option Request := Request.all.find? fun r => r.code == code

/-- The ports at which a request is permitted (R172, Request codes). -/
def Request.permits : Request → PortId → Bool
  | .tradeReport, p => p == .feed
  | .quoteReport, p => p == .feed
  | .sequenceReset, p => p == .feed
  | .readInstrument, _ => true
  | .findSymbol, _ => true
  | .setLocalTable, p => p == .terminal
  | .openPage, p => p == .terminal
  | .closePage, p => p == .terminal || p == .supervisor
  | .writePageLine, p => p == .terminal
  | .readChangedLine, p => p == .terminal
  | .readLine, p => p == .terminal
  | .setNoticeMask, p => p == .terminal
  | .takeNotice, p => p == .terminal
  | .defineInstrument, p => p == .supervisor
  | .modifyInstrument, p => p == .supervisor
  | .removeInstrument, p => p == .supervisor
  | .openSession, p => p == .supervisor
  | .closeSession, p => p == .supervisor
  | .rollSession, p => p == .supervisor
  | .halt, p => p == .supervisor
  | .resume, p => p == .supervisor
  | .setFastMarket, p => p == .supervisor
  | .clearFastMarket, p => p == .supervisor
  | .cancelPrint, p => p == .supervisor
  | .correctPrint, p => p == .supervisor
  | .tapeText, p => p == .supervisor
  | .definePanel, p => p == .supervisor
  | .removePanel, p => p == .supervisor
  | .panelDark, p => p == .supervisor
  | .panelLight, p => p == .supervisor
  | .defineCell, p => p == .supervisor
  | .removeCell, p => p == .supervisor
  | .moduleRestart, p => p == .supervisor
  | .lampTestStart, p => p == .supervisor
  | .lampTestStop, p => p == .supervisor
  | .readLink, p => p == .supervisor
  | .ribbonRestart, p => p == .supervisor
  | .ribbonRate, p => p == .supervisor
  | .readRibbon, p => p == .supervisor
  | .writeDescriptor, p => p == .supervisor
  | .writeLine, p => p == .supervisor
  | .configure, p => p == .supervisor
  | .goLive, p => p == .supervisor
  | .goConfig, p => p == .supervisor
  | .setTime, p => p == .supervisor

end Sys2Proof

namespace Sys2Proof.Machine

/-- The high byte of a word. -/
def hiByte (w : Word) : Byte := w.extractLsb' 8 8

/-- The low byte of a word. -/
def loByte (w : Word) : Byte := w.extractLsb' 0 8

/-- The word of a high byte and a low byte (R171). -/
def wordOf (hi lo : Byte) : Word := hi ++ lo

/-- The outcome code table (R173, Outcome codes). -/
def Answer.code : Answer → Byte
  | .done => 0x00
  | .duplicate => 0x01
  | .noLine => 0x02
  | .empty => 0x03
  | .held => 0x10
  | .notLive => 0x11
  | .notPermitted => 0x12
  | .malformed => 0x13
  | .unknownInstrument => 0x14
  | .sessionClosed => 0x15
  | .tradeHalted => 0x16
  | .priceGrid => 0x17
  | .tapeFull => 0x18
  | .tooOld => 0x19
  | .notFound => 0x1A
  | .inUse => 0x1B
  | .duplicateSymbol => 0x1C
  | .overlap => 0x1D
  | .outOfRange => 0x1E
  | .notPresent => 0x1F
  | .wrongKind => 0x20
  | .noLocalTable => 0x21
  | .rank => 0x22
  | .busy => 0x23

/-- The reply: word 0, with the outcome and the count of the words that follow, then those words (R163). -/
def replyWords (a : Answer) (words : List Word) : List Word :=
  wordOf a.code (BitVec.ofNat 8 words.length) :: words

/-- The operand words of a request, by their place after word 0, as numbers. A place beyond the last
operand reads 0; an engine refuses a wrong word count MALFORMED before an operand counts (notes/assumptions/22.md). -/
def operand (ops : List Word) (i : Nat) : Nat := (ops.getD i 0).toNat

/-- A two-word number, high word first (R172). -/
def operandPair (ops : List Word) (i : Nat) : Nat := 65536 * operand ops i + operand ops (i + 1)

/-- The denominator code (R172). -/
def Denominator.ofCode : Nat → Option Denominator
  | 0 => some .eighths
  | 1 => some .sixteenths
  | 2 => some .thirtySeconds
  | 3 => some .sixtyFourths
  | _ => none

/-- The code of a denominator (R172). -/
def Denominator.code : Denominator → Nat
  | .eighths => 0
  | .sixteenths => 1
  | .thirtySeconds => 2
  | .sixtyFourths => 3

/-- The number of a denominator (R22). -/
def Denominator.value : Denominator → Nat
  | .eighths => 8
  | .sixteenths => 16
  | .thirtySeconds => 32
  | .sixtyFourths => 64

/-- The grid of a denominator in units: 256 divided by it (R24). -/
def Denominator.grid (d : Denominator) : Nat := 256 / d.value

/-- The ribbon set code (R172). -/
def RibbonSet.ofCode : Nat → Option RibbonSet
  | 0 => some .neither
  | 1 => some .zero
  | 2 => some .one
  | 3 => some .both
  | _ => none

/-- The code of a ribbon set (R172). -/
def RibbonSet.code : RibbonSet → Nat
  | .neither => 0
  | .zero => 1
  | .one => 2
  | .both => 3

/-- A price in stored units from whole dollars, numerator and denominator (R22). -/
def priceUnits (whole numerator : Nat) (d : Denominator) : Nat := 256 * whole + numerator * (256 / d.value)

/-- The price operand at a place, converted; none where conversion refuses it (R22, R23). -/
def priceOperand (ops : List Word) (i : Nat) : Option Nat :=
  let whole := operand ops i
  let second := operand ops (i + 1)
  let numerator := second % 256
  match Denominator.ofCode (second / 256 % 16) with
  | none => none
  | some d =>
    if whole ≤ Config.maxWhole ∧ numerator < d.value then some (priceUnits whole numerator d) else none

/-- The present flag of the price operand at a place (R172). -/
def pricePresent (ops : List Word) (i : Nat) : Bool := decide (32768 ≤ operand ops (i + 1))

/-- A price operand that may be left out: none where it is refused, `some none` where it is absent and not
examined (R22, R23). -/
def optionalPrice (ops : List Word) (i : Nat) : Option (Option Nat) :=
  if pricePresent ops i then (priceOperand ops i).map some else some none

/-- The price of TRADE REPORT and the new price of CORRECT PRINT, which conversion refuses at 0 (R23). -/
def salePrice (ops : List Word) (i : Nat) : Option Nat := (priceOperand ops i).filter fun p => p != 0

/-- A block threshold operand: 0 stands for an absent one; none where it is out of range (R12, R172). -/
def thresholdOperand (ops : List Word) (i : Nat) : Option (Option Nat) :=
  let v := operandPair ops i
  if v = 0 then some none
  else if Config.minBlockThreshold ≤ v ∧ v ≤ Config.maxShares then some (some v) else none

/-- A capital letter's code (R172). -/
def isLetter (b : Byte) : Bool := decide (0x41#8 ≤ b ∧ b ≤ 0x5A#8)

/-- The letters of a symbol: 1 to 4 letters, every byte after the first 00h being 00h (R11, R172). -/
def symbolLetters (bytes : List Byte) : Option Text :=
  let letters := bytes.takeWhile fun b => b != 0
  if letters.isEmpty || !letters.all isLetter || !(bytes.drop letters.length).all (fun b => b == 0) then none
  else some letters

/-- The class letter of a symbol operand, absent for 00h; none where it is refused (R172). -/
def classLetter (b : Byte) : Option (Option Byte) :=
  if b = 0 then some none else if isLetter b then some (some b) else none

/-- A symbol operand with its class (R172); none where FIND SYMBOL refuses it MALFORMED (R11). The high
byte of the third word is not examined (notes/assumptions/29.md). -/
def symbolOperand (ops : List Word) (i : Nat) : Option (Text × Option Byte) :=
  let w0 := ops.getD i 0
  let w1 := ops.getD (i + 1) 0
  let w2 := ops.getD (i + 2) 0
  match symbolLetters [hiByte w0, loByte w0, hiByte w1, loByte w1], classLetter (loByte w2) with
  | some s, some c => some (s, c)
  | _, _ => none

/-- A selector operand; none where its table indicator is unknown or its index is out of the table
(R139 step 1, R172). -/
def selectorOperand (ops : List Word) (i : Nat) : Option Selector :=
  match operand ops i, operand ops (i + 1) with
  | 0, n => if n < Config.globalSlots then some ⟨false, n⟩ else none
  | 1, n => if n ≤ 15 then some ⟨true, n⟩ else none
  | _, _ => none

/-- The line format code (R172). -/
def LineFormat.ofCode : Nat → Option LineFormat
  | 0 => some .full
  | 1 => some .quote
  | 2 => some .range
  | _ => none

/-- A line content operand; none where WRITE LINE refuses it MALFORMED (R138, R172). -/
def contentOperand (ops : List Word) (i : Nat) : Option (Option LineContent) :=
  match operand ops i with
  | 0 => some none
  | 1 =>
    match LineFormat.ofCode (operand ops (i + 2)) with
    | some f =>
      if operand ops (i + 1) < Config.instrumentCount then some (some ⟨operand ops (i + 1), f⟩) else none
    | none => none
  | _ => none

/-- The descriptor kind code (R172). -/
def DescriptorKind.ofCode : Nat → Option DescriptorKind
  | 0 => some .invalid
  | 1 => some .page
  | 2 => some .localTable
  | _ => none

/-- A flag operand coded 0 or 1 (R172). -/
def flagOperand (ops : List Word) (i : Nat) : Option Bool :=
  match operand ops i with
  | 0 => some false
  | 1 => some true
  | _ => none

/-- The field of a cell code 0 to 14 (R172). -/
def Field.ofCode : Nat → Option Field
  | 0 => some .symbol
  | 1 => some .prevClose
  | 2 => some .opening
  | 3 => some .high
  | 4 => some .low
  | 5 => some .last
  | 6 => some .lastSize
  | 7 => some .netChange
  | 8 => some .tick
  | 9 => some .volume
  | 10 => some .bid
  | 11 => some .ask
  | 12 => some .bidSize
  | 13 => some .askSize
  | 14 => some .status
  | _ => none

/-- A cell field code with the operand that goes with it: an instrument index, a ribbon number, or a word
that is not examined (R81, R172); none where it is refused. -/
def CellField.ofCode (code extra : Nat) : Option CellField :=
  match code with
  | 16 => some .clock
  | 17 => some .market
  | 18 => if extra ≤ 1 then some (.tapeState extra) else none
  | n =>
    match Field.ofCode n with
    | some f => if extra < Config.instrumentCount then some (.instrument f extra) else none
    | none => none

/-- The lamp test pattern code (R172). -/
def LampPattern.ofCode : Nat → Option LampPattern
  | 0 => some .allLit
  | 1 => some .alternate
  | 2 => some .address
  | 3 => some .charset
  | _ => none

/-- The code of a lamp test pattern (R172). -/
def LampPattern.code : LampPattern → Nat
  | .allLit => 0
  | .alternate => 1
  | .address => 2
  | .charset => 3

/-- The bytes of words, high byte first (R171). -/
def wordBytes : List Word → List Byte
  | [] => []
  | w :: ws => hiByte w :: loByte w :: wordBytes ws

/-- Bytes packed two to a word, high byte first (R171). -/
def packBytes : List Byte → List Word
  | [] => []
  | [b] => [wordOf b 0]
  | b :: c :: bs => wordOf b c :: packBytes bs

/-- The bytes of a number, most significant first (R174, READ INSTRUMENT reply). -/
def numberBytes : Nat → Nat → List Byte
  | 0, _ => []
  | k + 1, n => BitVec.ofNat 8 (n / 256 ^ k) :: numberBytes k n

end Sys2Proof.Machine
end

