-- ==== Sys2Proof/Machine/Frames.lean ====
section
/-! DEFINITION. The frames of the board links and of the ribbon links, byte by byte (R101, R127, R171 and the
tables after R174). -/

namespace Sys2Proof.Machine

/-- The check byte: the sum of the bytes before it, modulo 256 (R101). -/
def checkByte (bytes : List Byte) : Byte := bytes.foldl (· + ·) 0

/-- A frame closed by its check byte. -/
def closeFrame (bytes : List Byte) : List Byte := bytes ++ [checkByte bytes]

/-- The attribute byte of a WRITE: bit 0 HIGHLIGHT, bit 1 blink indication. -/
def Attribute.byte (a : Attribute) : Byte := (if a.highlight then 1 else 0) + (if a.blink then 2 else 0)

/-- The frame of a message to a module. -/
def boardFrame (address : Nat) : Message → List Byte
  | .write row column attr text =>
    closeFrame ([BitVec.ofNat 8 address, 0x01, BitVec.ofNat 8 row, BitVec.ofNat 8 column, attr.byte,
      BitVec.ofNat 8 text.length] ++ text)
  | .hold => closeFrame [BitVec.ofNat 8 address, 0x02]
  | .blank => closeFrame [BitVec.ofNat 8 address, 0x03]
  | .pattern p => closeFrame [BitVec.ofNat 8 address, 0x04, BitVec.ofNat 8 p.code]

/-- The frame of a ribbon block. -/
def blockFrame (text : Text) : List Byte := closeFrame ([0x02, BitVec.ofNat 8 text.length] ++ text)

/-- The module address that an acknowledgement frame carries; none where its check byte is wrong or its
first byte is not 80h plus an address. -/
def ackAddress (ack check : Byte) : Option Nat :=
  if check = checkByte [ack] ∧ 0x80 ≤ ack.toNat ∧ ack.toNat ≤ 0x9F then some (ack.toNat - 0x80) else none

/-- The two bytes are the acknowledgement frame of a ribbon unit. -/
def isRibbonAck (ack check : Byte) : Bool := decide (ack = 0x06 ∧ check = checkByte [ack])

/-- The frame that goes out on a board link's TXD, empty while none does (R101). -/
def Link.frameOut (v : Link) : List Byte :=
  match v.line with
  | .free => []
  | .sending m => boardFrame m.address m.message
  | .inFlight _ _ => []

/-- The frame of a ribbon's block that is going out, empty while none is (R127); `State.ribbonLinkOut` says on which
links. -/
def Ribbon.frameOut (v : Ribbon) : List Byte :=
  match v.state with
  | .sending b => if b.deadline = none then blockFrame b.text else []
  | .off => []
  | .idle => []
  | .pacing => []
  | .waiting => []
  | .fault _ => []

/-- The time a frame takes on its link in microseconds: 0.2 ms a byte (R101, R127). No step
reads it: FRAME_SENT and BLOCK_FRAME_SENT say when a frame has been sent (notes/assumptions/14.md). -/
def frameMicroseconds (bytes : List Byte) : Nat := 200 * bytes.length

end Sys2Proof.Machine
end

