-- ==== Sys2Proof/Machine/Flags.lean ====
section
/-! DEFINITION. The price arithmetic unit's computations on the fields of a record (R24 to R30, R57), what
follows from the print list and the anchors (R5 to R9), and the changed-field set (R3). -/

namespace Sys2Proof.Machine

/-- The grid test (R24). -/
def onGrid (d : Denominator) (price : Nat) : Bool := decide (price % d.grid = 0)

/-- The tick function (R25). -/
def tickFunction (p : Nat) (r : Option Nat) (t : Tick) : Tick :=
  match r with
  | none => .flat
  | some r =>
    if r < p then .up
    else if p < r then .down
    else
      match t with
      | .up => .zeroUp
      | .zeroUp => .zeroUp
      | .down => .zeroDown
      | .zeroDown => .zeroDown
      | .flat => .flat

/-- The family of a tick: `some true` for the up family, `some false` for the down family (R25). -/
def Tick.family : Tick → Option Bool
  | .up => some true
  | .zeroUp => some true
  | .down => some false
  | .zeroDown => some false
  | .flat => none

/-- Reversal of a new tick against the tick it replaces (R27). -/
def reversalOf (new old : Tick) : Bool :=
  match new.family, old.family with
  | some a, some b => a != b
  | _, _ => false

/-- Net change as a sign (true for minus) and a magnitude in units; none where it is absent (R28). -/
def netChange (v : Instrument) : Option (Bool × Nat) :=
  match v.last, v.prevClose with
  | some l, some p => if p ≤ l.price then some (false, l.price - p) else some (true, p - l.price)
  | _, _ => none

/-- Volume with its saturation mark after shares are taken off and shares are put on (R29). -/
def volumeAfter (volume : Nat) (saturated : Bool) (off on : Nat) : Nat × Bool :=
  if saturated then (volume, true)
  else if Config.maxVolume < volume + on - off then (Config.maxVolume, true)
  else (volume + on - off, false)

/-- Trade count after a print is accepted (R30). -/
def countUp (n : Nat) : Nat := if n < Config.maxTradeCount then n + 1 else n

/-- Trade count after a VALID print is canceled (R30). -/
def countDown (n : Nat) : Nat := if n < Config.maxTradeCount then n - 1 else n

/-- The successor of a sequence number or of a print number: 1 follows 65535 (R4, R41). -/
def successor (n : Nat) : Nat := if 65535 ≤ n then 1 else n + 1

/-- The quote condition (R57). -/
def quoteConditionOf (bid ask : Option Nat) (fast : Bool) : QuoteCondition :=
  match bid, ask with
  | some b, some a => if a < b then .crossed else if fast then .nonFirm else .firm
  | _, _ => if fast then .nonFirm else .firm

/-! ### The print list and the anchors -/

/-- A print is REGULAR (R4). -/
def Print.isRegular (p : Print) : Bool :=
  match p.kind with
  | .regular _ => true
  | .late => false

/-- A print is a VALID REGULAR one (R7). -/
def Print.counts (p : Print) : Bool := p.valid && p.isRegular

/-- The stored tick of a print; NONE stands for the stored tick that a LATE print lacks (R4). -/
def Print.storedTick (p : Print) : Tick :=
  match p.kind with
  | .regular t => t
  | .late => .flat

/-- The greater of an anchor and a price; the price where the anchor is absent (R5). -/
def raiseTo (a : Option Nat) (p : Nat) : Option Nat :=
  match a with
  | none => some p
  | some a => some (max a p)

/-- The lesser of an anchor and a price; the price where the anchor is absent (R5). -/
def lowerTo (a : Option Nat) (p : Nat) : Option Nat :=
  match a with
  | none => some p
  | some a => some (min a p)

/-- A print that leaves the list folds into the anchors (R5). -/
def foldAnchor (p : Print) (v : Instrument) : Instrument :=
  if p.valid then
    { v with
      anchorHigh := raiseTo v.anchorHigh p.price
      anchorLow := lowerTo v.anchorLow p.price
      anchorLast :=
        match p.kind with
        | .regular t => some ⟨p.price, p.size, t⟩
        | .late => v.anchorLast }
  else v

/-- The prices that high and low are taken over (R6). -/
def priceCollection (v : Instrument) : List Nat :=
  v.anchorHigh.toList ++ v.anchorLow.toList ++ (v.prints.filter (·.valid)).map (·.price)

/-- The greatest of a list of prices, absent for the empty list (R6). -/
def greatest (l : List Nat) : Option Nat := l.foldl raiseTo none

/-- The least of a list of prices, absent for the empty list (R6). -/
def least (l : List Nat) : Option Nat := l.foldl lowerTo none

/-- High and low brought to the values R6 gives. -/
def bringHighLow (v : Instrument) : Instrument :=
  { v with high := greatest (priceCollection v), low := least (priceCollection v) }

/-- The newest VALID REGULAR print of a list (R65). -/
def newestValidRegular (l : List Print) : Option Print := (l.filter Print.counts).getLast?

/-- Last with last size as R7 derives it. -/
def derivedLast (v : Instrument) : Option Sale :=
  match newestValidRegular v.prints with
  | some p => some ⟨p.price, p.size⟩
  | none => v.anchorLast.map fun a => ⟨a.price, a.size⟩

/-- Tick as R8 derives it. -/
def derivedTick (v : Instrument) : Tick :=
  match newestValidRegular v.prints with
  | some p => p.storedTick
  | none =>
    match v.anchorLast with
    | some a => a.tick
    | none => v.carriedTick

/-- Last, last size, tick and reversal taken afresh after a cancel (R67 step 4). -/
def bringLast (v : Instrument) : Instrument :=
  { v with
    last := derivedLast v
    tick := derivedTick v
    reversal := reversalOf (derivedTick v) v.tick }

/-- A print joins the list; where it holds 8 prints the oldest leaves first and folds (R5). -/
def joinPrint (p : Print) (v : Instrument) : Instrument :=
  match v.prints with
  | [] => { v with prints := [p] }
  | oldest :: rest =>
    if Config.printListLength ≤ v.prints.length then
      { foldAnchor oldest v with prints := rest ++ [p] }
    else
      { v with prints := v.prints ++ [p] }

/-- The print that leaves when another joins (R5, R116). -/
def leavingPrint (v : Instrument) : Option Print :=
  if Config.printListLength ≤ v.prints.length then v.prints.head? else none

/-! ### The changed-field set -/

/-- Every displayed field kind. -/
def Field.all : List Field :=
  [.symbol, .prevClose, .opening, .high, .low, .last, .lastSize, .netChange, .tick, .volume, .bid, .ask,
   .bidSize, .askSize, .status]

/-- Whether a displayed field differs between two values of a record that is VACANT in neither (R3). -/
def fieldDiffers (a b : Instrument) : Field → Bool
  | .symbol => decide (a.symbol ≠ b.symbol ∨ a.cls ≠ b.cls)
  | .prevClose => decide (a.prevClose ≠ b.prevClose)
  | .opening => decide (a.opening.map (·.price) ≠ b.opening.map (·.price))
  | .high => decide (a.high ≠ b.high)
  | .low => decide (a.low ≠ b.low)
  | .last => decide (a.last.map (·.price) ≠ b.last.map (·.price))
  | .lastSize => decide (a.last.map (·.size) ≠ b.last.map (·.size))
  | .netChange =>
    decide (a.last.map (·.price) ≠ b.last.map (·.price) ∨ a.prevClose ≠ b.prevClose)
  | .tick => decide (a.tick ≠ b.tick ∨ a.reversal ≠ b.reversal)
  | .volume => decide (a.volume ≠ b.volume)
  | .bid => decide (a.bid ≠ b.bid)
  | .ask => decide (a.ask ≠ b.ask)
  | .bidSize => decide (a.bid.map (fun _ => a.bidSize) ≠ b.bid.map (fun _ => b.bidSize))
  | .askSize => decide (a.ask.map (fun _ => a.askSize) ≠ b.ask.map (fun _ => b.askSize))
  | .status =>
    decide (a.trading ≠ b.trading ∨ a.fast ≠ b.fast ∨ a.quoteCondition ≠ b.quoteCondition)

/-- Whether a displayed field of a record that is not VACANT is present (R3: every field of a VACANT
record is compared as absent). -/
def fieldPresent (a : Instrument) : Field → Bool
  | .symbol => true
  | .prevClose => a.prevClose.isSome
  | .opening => a.opening.isSome
  | .high => a.high.isSome
  | .low => a.low.isSome
  | .last => a.last.isSome
  | .lastSize => a.last.isSome
  | .netChange => a.last.isSome || a.prevClose.isSome
  | .tick => true
  | .volume => true
  | .bid => a.bid.isSome
  | .ask => a.ask.isSome
  | .bidSize => a.bid.isSome
  | .askSize => a.ask.isSome
  | .status => true

/-- The changed-field set of an action that took a record from `a` to `b` (R3), in the order of
`Field.all`. -/
def changedFields (a b : Instrument) : List Field :=
  Field.all.filter fun f =>
    match a.isVacant, b.isVacant with
    | true, true => false
    | true, false => fieldPresent b f
    | false, true => fieldPresent a f
    | false, false => fieldDiffers a b f

end Sys2Proof.Machine
end

