-- ==== Sys2Proof/Machine/Render.lean ====
section
/-! DEFINITION. Rendering: prices, sizes, ticks and states as texts (R31 to R38), fitting a text into a field
(R39), the texts of the tape (R61, R72, R121 to R126), terminal lines (R150) and cells (R91, R92). -/

namespace Sys2Proof.Machine

/-- The character codes of a text given in ASCII. -/
def ascii (s : String) : Text := s.toList.map fun c => BitVec.ofNat 8 c.toNat

/-- The space. -/
def space : Byte := 0x20

/-- A number in decimal digits without leading zeros (R31). -/
def decimal (n : Nat) : Text := (Nat.toDigits 10 n).map fun c => BitVec.ofNat 8 c.toNat

/-- A number below 100 in two digits (R37). -/
def twoDigits (n : Nat) : Text := decimal (n / 10 % 10) ++ decimal (n % 10)

/-- Blanks over a width (R38). -/
def blanks (width : Nat) : Text := List.replicate width space

/-- A text fitted into its field (R39). -/
def fit (width : Nat) (j : Justification) (text : Text) : Text :=
  if text.length ≤ width then
    match j with
    | .right => blanks (width - text.length) ++ text
    | .left => text ++ blanks (width - text.length)
  else List.replicate width 0x89

/-- A rendered field fitted into its width: an absent value renders as blanks (R38, R39). -/
def fitField (width : Nat) (j : Justification) (text : Option Text) : Text :=
  match text with
  | none => blanks width
  | some t => fit width j t

/-! ### Prices, net change, sizes, tick, status -/

/-- The fraction of a price as it is written after whole digits: nothing for a remainder of 0, the glyph of
an eighth, or a space, n, a slash and d (R32). -/
def fractionText (price : Nat) : Text :=
  let rem := price % 256
  let g := Nat.gcd rem 256
  if rem = 0 then []
  else if 256 / g ≤ 8 then [BitVec.ofNat 8 (0x7F + rem / 32)]
  else space :: decimal (rem / g) ++ ascii "/" ++ decimal (256 / g)

/-- A price in tape form and line form (R32): with whole 0 and a fraction, the fraction alone without a
leading space. -/
def priceText (price : Nat) : Text :=
  if price / 256 = 0 ∧ price % 256 ≠ 0 then (fractionText price).dropWhile fun b => b == space
  else decimal (price / 256) ++ fractionText price

/-- A price in board form: a whole-dollar price keeps one trailing space (R32). -/
def boardPrice (price : Nat) : Text :=
  if price % 256 = 0 then priceText price ++ [space] else priceText price

/-- The shortened form of a price: the units digit of the whole dollars, then the fraction as it is written
after whole digits (R124). -/
def shortPrice (price : Nat) : Text := decimal (price / 256 % 10) ++ fractionText price

/-- Net change in a field of the given width, the magnitude written by `price` (R33). -/
def netChangeText (price : Nat → Text) (width : Nat) (v : Instrument) : Option Text :=
  (netChange v).map fun c =>
    if c.2 = 0 then (if 4 ≤ width then ascii "UNCH" else ascii "0")
    else (if c.1 then ascii "-" else ascii "+") ++ price c.2

/-- TICK (R35). -/
def tickChar : Tick → Byte
  | .up => 0x87
  | .down => 0x88
  | .zeroUp => 0x2B
  | .zeroDown => 0x2D
  | .flat => 0x20

/-- STATUS (R36); none where it renders blanks. -/
def statusText (v : Instrument) : Option Text :=
  if v.isHalted then some (ascii "HALT")
  else if v.fast then some (ascii "FAST")
  else if v.quoteCondition = .crossed then some (ascii "XQ")
  else none

/-- The symbol, followed by a full stop and the class letter where a class is present (R36). -/
def symbolText (v : Instrument) : Text :=
  v.symbol.getD [] ++
    match v.cls with
    | none => []
    | some c => ascii "." ++ [c]

/-- A field of a record that is not VACANT, a price written by `price` in a field of the given width
(R32 to R36); none where it renders blanks (R38). -/
def fieldText (price : Nat → Text) (width : Nat) (v : Instrument) : Field → Option Text
  | .symbol => some (symbolText v)
  | .prevClose => v.prevClose.map price
  | .opening => v.opening.map fun o => price o.price
  | .high => v.high.map price
  | .low => v.low.map price
  | .last => v.last.map fun l => price l.price
  | .lastSize => v.last.map fun l => decimal (l.size / 100)
  | .netChange => netChangeText price width v
  | .tick => some [tickChar v.tick]
  | .volume => some (decimal (v.volume / 100))
  | .bid => v.bid.map price
  | .ask => v.ask.map price
  | .bidSize => v.bid.map fun _ => decimal v.bidSize
  | .askSize => v.ask.map fun _ => decimal v.askSize
  | .status => statusText v

/-! ### Device fields and cells -/

/-- CLOCK (R37). -/
def clockText (dayClock : Nat) : Text :=
  twoDigits (dayClock / 3600) ++ ascii ":" ++ twoDigits (dayClock % 3600 / 60)

/-- MARKET (R37). -/
def marketText : Session → Text
  | .opened => ascii "OPEN"
  | .closed => ascii "CLOSED"

/-- The whole minutes of a lag (R37). -/
def lagMinutes (lag : Time) : Nat := lag.toNat / 60000

/-- TAPE_STATE of a ribbon (R37); none where it renders blanks. -/
def tapeStateText (v : Ribbon) : Option Text :=
  match v.lateMode with
  | .normal => none
  | .digitsDeleted => some (ascii "LATE " ++ decimal (lagMinutes v.lag))
  | .digitsVolumeDeleted => some (ascii "LATE " ++ decimal (lagMinutes v.lag))

/-- The ribbon whose late state a TAPE_STATE cell shows: ribbon 0 while JOINED (R37, R132). -/
def State.lateRibbon (s : State) (r : Nat) : Ribbon := s.ribbon (if s.items.joined then 0 else r)

/-- The text of a cell of a panel that is not dark, over its width (R91 step 1). -/
def State.cellText (s : State) (c : Cell) : Text :=
  fitField c.width c.justification <|
    match c.field with
    | .instrument f i =>
      if (s.instr i).isVacant then none else fieldText boardPrice c.width (s.instr i) f
    | .clock => some (clockText s.timebase.dayClock)
    | .market => some (marketText s.quote.session)
    | .tapeState r => tapeStateText (s.lateRibbon r)

/-- The blink indication of a cell of a panel that is not dark (R92). -/
def State.cellBlinks (s : State) (c : Cell) : Bool :=
  match c.field with
  | .instrument .tick i => !(s.instr i).isVacant && (s.instr i).reversal
  | .instrument _ _ => false
  | .clock => false
  | .market => false
  | .tapeState _ => false

/-- The text and the attribute with which a cell is sent (R91, R92). -/
def State.renderCell (s : State) (dark : Bool) (c : Cell) : Text × Attribute :=
  if dark then (blanks c.width, ⟨false, false⟩)
  else (s.cellText c, ⟨c.expiry.isSome, s.cellBlinks c⟩)

/-! ### Texts of the tape -/

/-- The size text (R72); empty for 100 shares, which is omitted. -/
def sizeText (size : Nat) : Text :=
  if size = 100 then []
  else if size % 100 = 0 ∧ 200 ≤ size ∧ size ≤ 99900 then decimal (size / 100) ++ ascii "s"
  else decimal size ++ ascii "SHS"

/-- A text preceded by a space, or nothing for an empty text (R72, R123). -/
def spaced (t : Text) : Text := if t.isEmpty then [] else space :: t

/-- A halt or resume notice: the symbol, a space and the word (R61, R62). -/
def tradingNotice (v : Instrument) (word : String) : Text := symbolText v ++ [space] ++ ascii word

/-- The "OOS " of a LATE print (R72, R123). -/
def oosText (late : Bool) : Text := if late then ascii "OOS " else []

/-- A cancel or correction notice of a print with the given prefix, condition, price and size (R72). -/
def printNotice (word : String) (v : Instrument) (late : Bool) (price size : Nat) : Text :=
  ascii word ++ [space] ++ oosText late ++ symbolText v ++ spaced (sizeText size) ++ spaced (priceText price)

/-- A PRINT entry's block: whether its size text is shown and whether its price is shortened are given by the
late mode (R123 to R125). -/
def printBlock (v : Instrument) (face : PrintFace) (showSize shorten : Bool) : Text :=
  oosText face.late ++ symbolText v ++ (if showSize then spaced (sizeText face.size) else [])
    ++ [space] ++ (if shorten then shortPrice face.price else priceText face.price)

/-- The mode notice of a change of late mode; none where the mode stays (R121). -/
def modeNotice : LateMode → LateMode → Option Text
  | .normal, .normal => none
  | .normal, .digitsDeleted => some (ascii "DIGITS DELETED")
  | .normal, .digitsVolumeDeleted => some (ascii "DIGITS AND VOLUME DELETED")
  | .digitsDeleted, .normal => some (ascii "FULL TAPE RESUMED")
  | .digitsDeleted, .digitsDeleted => none
  | .digitsDeleted, .digitsVolumeDeleted => some (ascii "DIGITS AND VOLUME DELETED")
  | .digitsVolumeDeleted, .normal => some (ascii "FULL TAPE RESUMED")
  | .digitsVolumeDeleted, .digitsDeleted => some (ascii "VOLUME RESUMED")
  | .digitsVolumeDeleted, .digitsVolumeDeleted => none

/-- The late notice of a lag (R122). -/
def lateNotice (lag : Time) : Text := ascii "TAPE LATE " ++ decimal (lagMinutes lag) ++ ascii " MIN"

/-! ### Terminal lines -/

/-- A field of a terminal line, right-justified in its columns (R150). -/
def lineField (v : Instrument) (width : Nat) (f : Field) : Text :=
  fitField width .right (fieldText priceText width v f)

/-- The symbol columns of a terminal line, left-justified (R150). -/
def lineSymbol (v : Instrument) : Text := fit 6 .left (symbolText v)

/-- The 40 characters of a line of a record that is not VACANT (R150). -/
def lineOfRecord (v : Instrument) : LineFormat → Text
  | .full =>
    lineSymbol v ++ [space] ++ lineField v 9 .last ++ [space] ++ lineField v 8 .netChange ++ [space]
      ++ lineField v 1 .tick ++ [space] ++ lineField v 7 .volume ++ [space] ++ lineField v 4 .status
  | .quote =>
    lineSymbol v ++ [space] ++ lineField v 9 .bid ++ [space] ++ lineField v 9 .ask ++ [space]
      ++ lineField v 4 .bidSize ++ (if v.bid.isSome || v.ask.isSome then ascii "x" else [space])
      ++ lineField v 4 .askSize ++ lineField v 4 .status
  | .range =>
    lineSymbol v ++ [space] ++ lineField v 9 .opening ++ [space] ++ lineField v 9 .high ++ [space]
      ++ lineField v 8 .low ++ [space] ++ lineField v 4 .status

/-- The 40 characters of a snapshot line (R149, R150). -/
def State.lineText (s : State) : Option LineContent → Text
  | none => blanks 40
  | some c =>
    if (s.instr c.index).isVacant then ascii "------" ++ blanks 34 else lineOfRecord (s.instr c.index) c.format

end Sys2Proof.Machine
end

