-- ==== Sys2Proof/Machine/Ribbon.lean ====
section
/-! DEFINITION. The ribbon engine: tape queues, entry starts, late mode, sending and pacing (R115 to R129,
R132), and the meanings of the ribbon events. -/

namespace Sys2Proof.Machine

/-! ### Late mode -/

/-- The late mode that an entry start evaluates, with the thresholds and the lag in milliseconds (R121). -/
def newLateMode (l1 l2 : Nat) (mode : LateMode) (lag : Nat) : LateMode :=
  if l2 ≤ lag then .digitsVolumeDeleted
  else
    match mode with
    | .digitsVolumeDeleted =>
      if l2 / 2 < lag then .digitsVolumeDeleted else if l1 / 2 < lag then .digitsDeleted else .normal
    | .digitsDeleted => if l1 / 2 < lag then .digitsDeleted else .normal
    | .normal => if l1 ≤ lag then .digitsDeleted else .normal

/-- What steps 1 to 3 of an entry start leave: the late mode, the late-notice timer and flag, and the notices
prepared (R119). -/
structure LateStep where
  mode    : LateMode
  expiry  : Option Time
  owed    : Bool
  notices : List Text
  deriving DecidableEq, Repr

/-- The late-notice expiry after the late mode has been evaluated (R122). -/
def lateExpiryAfter (now : Time) (expiry : Option Time) : LateMode → LateMode → Option Time
  | .normal, .normal => expiry
  | .normal, .digitsDeleted => some (later now Config.lateNoticeMs)
  | .normal, .digitsVolumeDeleted => some (later now Config.lateNoticeMs)
  | .digitsDeleted, .normal => none
  | .digitsVolumeDeleted, .normal => none
  | .digitsDeleted, .digitsDeleted => expiry
  | .digitsDeleted, .digitsVolumeDeleted => expiry
  | .digitsVolumeDeleted, .digitsDeleted => expiry
  | .digitsVolumeDeleted, .digitsVolumeDeleted => expiry

/-- Steps 1 to 3 of an entry start at a ribbon (R119, R121, R122). -/
def Ribbon.lateStep (l1 l2 : Nat) (now lag : Time) (v : Ribbon) : LateStep :=
  let mode := newLateMode l1 l2 v.lateMode lag.toNat
  let notice := v.lateOwed && decide (mode ≠ .normal) && decide (60000 ≤ lag.toNat)
  { mode := mode
    expiry := lateExpiryAfter now v.lateExpiry v.lateMode mode
    owed := false
    notices := (modeNotice v.lateMode mode).toList ++ (if notice then [lateNotice lag] else []) }

/-- The whole minutes of the last measured lag changed while the mode after is not NORMAL, or the late mode
changed (R119 step 7). -/
def tapeStateChanges (before after : LateMode) (lagBefore lagAfter : Time) : Bool :=
  decide (before ≠ after) || (decide (after ≠ .normal) && decide (lagMinutes lagBefore ≠ lagMinutes lagAfter))

/-! ### Rendering an entry -/

/-- The arrival stamp of an entry (R115). -/
def TapeEntry.stamp : TapeEntry → Time
  | .print _ _ stamp _ => stamp
  | .notice _ stamp _ => stamp

/-- The instrument index of an entry (R115). -/
def TapeEntry.index : TapeEntry → Option Nat
  | .print index _ _ _ => some index
  | .notice _ _ index => index

/-- The entry is the PRINT entry of a print (R115). -/
def TapeEntry.isPrint (index number : Nat) : TapeEntry → Bool
  | .print i n _ _ => decide (i = index ∧ n = number)
  | .notice _ _ _ => false

/-- The condition, price and size of a print (R116). -/
def Print.face (p : Print) : PrintFace := ⟨!p.isRegular, p.price, p.size⟩

/-- A print of a print list by its number. -/
def Instrument.print (v : Instrument) (number : Nat) : Option Print :=
  v.prints.find? fun p => decide (p.number = number)

/-- What the PRINT entry of a print renders from: its departed copy, or the print in the list, or the copy
that is on its way (R116; notes/assumptions/9.md); no run leaves an entry without all three
(notes/assumptions/15.md). -/
def State.faceOf (s : State) (index number : Nat) (departed : Option PrintFace) : PrintFace :=
  match departed with
  | some f => f
  | none =>
    match (s.instr index).print number with
    | some p => p.face
    | none =>
      match s.transit.departures.find? fun d => decide (d.index = index ∧ d.number = number) with
      | some d => d.face
      | none =>
        ⟨Config.lostPrintLate index number, Config.lostPrintPrice index number,
          Config.lostPrintSize index number⟩

/-- The block threshold in effect for a record (R55). -/
def State.threshold (s : State) (v : Instrument) : Nat := v.blockThreshold.getD s.items.blockThreshold

/-- The digit reference of a ribbon in a record (R124). -/
def Instrument.digitRef (r : Nat) (v : Instrument) : Option Nat := if r = 0 then v.digitRef0 else v.digitRef1

/-- Write the digit reference of a ribbon in a record. -/
def Instrument.setDigitRef (r : Nat) (w : Option Nat) (v : Instrument) : Instrument :=
  if r = 0 then { v with digitRef0 := w } else { v with digitRef1 := w }

/-- The price is written in the shortened form (R124). -/
def shortens (mode : LateMode) (reference : Option Nat) (price : Nat) : Bool :=
  decide (mode ≠ .normal) &&
    match reference with
    | none => false
    | some w => decide (price / 256 / 10 = w / 10)

/-- The size text is not omitted: the late mode is not DVD, or the print is a block trade (R125). -/
def State.showsSize (s : State) (mode : LateMode) (v : Instrument) (size : Nat) : Bool :=
  decide (mode ≠ .digitsVolumeDeleted) || decide (s.threshold v ≤ size)

/-- The block of an entry under a late mode (R123 to R126). -/
def State.entryText (s : State) (r : Nat) (mode : LateMode) : TapeEntry → Text
  | .notice text _ _ => text
  | .print index number _ departed =>
    let v := s.instr index
    let f := s.faceOf index number departed
    printBlock v f (s.showsSize mode v f.size) (shortens mode (v.digitRef r) f.price)

/-- The quote engine's state after the digit reference of an entry has been updated (R124). -/
def State.entryQuote (s : State) (r : Nat) (mode : LateMode) : TapeEntry → Quote
  | .notice _ _ _ => s.quote
  | .print index number _ departed =>
    let v := s.instr index
    let f := s.faceOf index number departed
    if shortens mode (v.digitRef r) f.price then s.quote
    else (s.setInstr index (v.setDigitRef r (some (f.price / 256)))).quote

/-! ### Sending and starting -/

/-- A block is sent (R127). -/
def Ribbon.sendBlock (text : Text) (v : Ribbon) : Ribbon := { v with state := .sending ⟨text, none, false, false⟩ }

/-- The first block of the outgoing list is sent (R127). -/
def Ribbon.sendFirst (v : Ribbon) : Ribbon :=
  match v.outgoing with
  | [] => v
  | b :: bs => { v with outgoing := bs }.sendBlock b

/-- An entry start of the ribbon `r` with the head entry `e` and the rest of its queue (R119), whose lag
is measured as R120 gives. -/
def State.entryStart (r : Nat) (e : TapeEntry) (rest : List TapeEntry) (s : State) : State :=
  let v := s.ribbon r
  let lag := s.now - e.stamp
  let late := v.lateStep (s.items.late1 * 1000) (s.items.late2 * 1000) s.now lag
  let v' : Ribbon :=
    { v with
      lag := lag
      lateMode := late.mode
      lateExpiry := late.expiry
      lateOwed := late.owed
      queue := rest
      outgoing := late.notices ++ [s.entryText r late.mode e] }
  { s with
    tape := (s.setRibbon r v'.sendFirst).tape
    quote := s.entryQuote r late.mode e
    transit :=
      if tapeStateChanges v.lateMode late.mode v.lag lag then
        { s.transit with tapeChanges := s.transit.tapeChanges ++ [r] }
      else s.transit }

/-- A free ribbon acts: it sends, makes an entry start, or becomes IDLE (R118). -/
def State.freed (r : Nat) (s : State) : State :=
  let v := s.ribbon r
  match v.outgoing, v.queue with
  | _ :: _, _ => s.setRibbon r v.sendFirst
  | [], e :: rest => s.entryStart r e rest
  | [], [] => s.setRibbon r { v with state := .idle }

/-- An entry is appended at the tail of a tape queue; an IDLE ribbon starts or waits (R115, R118). -/
def State.appendEntry (r : Nat) (e : TapeEntry) (s : State) : State :=
  let v := s.ribbon r
  let t := s.setRibbon r { v with queue := v.queue ++ [e] }
  match v.state with
  | .idle => if s.gate r then t.freed r else s.setRibbon r { v with queue := v.queue ++ [e], state := .waiting }
  | .off => t
  | .sending _ => t
  | .pacing => t
  | .waiting => t
  | .fault _ => t

/-- A NOTICE entry, stamped with the device time, is appended to each of a list of ribbons (R115), ribbon 0 before
ribbon 1 (the model's choice, notes/assumptions/35.md). -/
def State.appendNotice (rs : List Nat) (text : Text) (index : Option Nat) (s : State) : State :=
  rs.foldl (fun s r => s.appendEntry r (.notice text s.now index)) s

/-- A queued PRINT entry of a print stands in a tape queue (R71). -/
def State.isQueued (s : State) (r index number : Nat) : Bool :=
  (s.ribbon r).queue.any fun e => e.isPrint index number

/-- The PRINT entry of a print is withdrawn from a tape queue (R71, R118). -/
def State.withdraw (r index number : Nat) (s : State) : State :=
  let v := s.ribbon r
  let q := v.queue.filter fun e => !e.isPrint index number
  s.setRibbon r
    { v with
      queue := q
      state := if q.isEmpty && v.outgoing.isEmpty && decide (v.state = .waiting) then .idle else v.state }

/-! ### Completion and faults -/

/-- The ribbon whose record serves a unit: ribbon 0 while JOINED (R132). -/
def State.servedBy (s : State) (u : Nat) : Nat := if s.items.joined then 0 else u

/-- The frame that goes out on TXD of ribbon link `u`, empty while none does: the block of the ribbon that serves the
link's unit, so that while JOINED a block of ribbon 0 goes out on both links at once (R127, R132). -/
def State.ribbonLinkOut (s : State) (u : Nat) : List Byte := (s.ribbon (s.servedBy u)).frameOut

/-- Every unit that was sent the block has acknowledged it (R127). -/
def Block.complete (joined : Bool) (r : Nat) (b : Block) : Bool :=
  if joined then b.acked0 && b.acked1 else if r = 0 then b.acked0 else b.acked1

/-- The acknowledgement of a unit is recorded (R127). -/
def Block.acknowledge (u : Nat) (b : Block) : Block :=
  if u = 0 then { b with acked0 := true } else { b with acked1 := true }

/-- The pacing count of a block (R128). -/
def pacingCount (period : Nat) (text : Text) : Nat := (text.length + 2) * period

/-- The block in flight of a ribbon. -/
def Ribbon.inFlight (v : Ribbon) : Option Block :=
  match v.state with
  | .sending b => some b
  | .off => none
  | .idle => none
  | .pacing => none
  | .waiting => none
  | .fault _ => none

/-- An acknowledgement of unit `u` is recorded at its ribbon; with the last one the block completes (R127,
R128). -/
def Ribbon.acknowledged (joined : Bool) (r u : Nat) (b : Block) (v : Ribbon) : Ribbon :=
  let b' := b.acknowledge u
  if b'.complete joined r then { v with state := .pacing, pacing := pacingCount v.period b.text }
  else { v with state := .sending b' }

/-! ### Meanings of the ribbon events -/

/-- BLOCK_FRAME_SENT (R127): the frame's last byte has been sent, while JOINED on both links at once (R132), and the
deadline of the block in flight is set. -/
def execBlockFrameSent (r : Fin 2) (s : State) : Host.Outcome State Fault Refusal :=
  let v := s.ribbon r
  .next <|
    match v.inFlight with
    | none => s
    | some b =>
      if b.deadline.isSome then s
      else s.setRibbon r { v with state := .sending { b with deadline := some (later s.now v.ackTimeout) } }

/-- RIBBON_ACKNOWLEDGEMENT (R127): the two bytes come from unit `u`. It counts from the end of the frame to the
deadline, the deadline's own millisecond left out (notes/assumptions/6.md, 7.md). -/
def execRibbonAcknowledgement (u : Fin 2) (ack check : Byte) (s : State) : Host.Outcome State Fault Refusal :=
  let r := s.servedBy u
  let v := s.ribbon r
  .next <|
    match v.inFlight with
    | none => s
    | some b =>
      match b.deadline with
      | none => s
      | some t =>
        if isRibbonAck ack check && !reached t s.now then
          s.setRibbon r (v.acknowledged s.items.joined r u b)
        else s

/-- PACING_COUNT_END (R128): the counter of a PACING ribbon has reached 0, whatever the gate is now
(notes/assumptions/8.md). -/
def execPacingCountEnd (r : Fin 2) (s : State) : Host.Outcome State Fault Refusal :=
  let v := s.ribbon r
  .next <| if v.state = .pacing ∧ v.pacing = 0 then s.freed r else s

/-- RIBBON_ACK_TIMEOUT (R129); while no deadline is reached it changes nothing (notes/assumptions/5.md). -/
def execRibbonAckTimeout (r : Fin 2) (s : State) : Host.Outcome State Fault Refusal :=
  let v := s.ribbon r
  .next <|
    match v.inFlight with
    | none => s
    | some b =>
      match b.deadline with
      | none => s
      | some t =>
        if reached t s.now then
          (s.setRibbon r { v with state := .fault b.text }).record .supervisor .ribbonFault
        else s

/-- The levels of the READY inputs with that of unit `u` at `level`. -/
def Tape.setReady (u : Nat) (level : Bool) (t : Tape) : Tape :=
  if u = 0 then { t with ready0 := level } else { t with ready1 := level }

/-- READY_RISE (R118): a gate that rises frees a WAITING ribbon. -/
def execReadyRise (u : Fin 2) (s : State) : Host.Outcome State Fault Refusal :=
  let r := s.servedBy u
  let t := { s with tape := s.tape.setReady u true }
  .next <| if !s.gate r && t.gate r && decide ((s.ribbon r).state = .waiting) then t.freed r else t

/-- READY_FALL (R118): the gate falls and no state changes. -/
def execReadyFall (u : Fin 2) (s : State) : Host.Outcome State Fault Refusal :=
  .next { s with tape := s.tape.setReady u false }

/-- LATE_NOTICE_EXPIRY (R122); while no expiry is reached it changes nothing (notes/assumptions/5.md). -/
def execLateNoticeExpiry (r : Fin 2) (s : State) : Host.Outcome State Fault Refusal :=
  let v := s.ribbon r
  .next <|
    match v.lateExpiry with
    | none => s
    | some t =>
      if reached t s.now then
        s.setRibbon r { v with lateOwed := true, lateExpiry := some (later t Config.lateNoticeMs) }
      else s

/-- An entry after a departed copy has been handed to it (R116). -/
def TapeEntry.depart (d : Departure) : TapeEntry → TapeEntry
  | .print i n stamp copy => .print i n stamp (if i = d.index ∧ n = d.number then some d.face else copy)
  | .notice text stamp index => .notice text stamp index

/-- DEPARTED_COPY_HANDOFF (R116): the oldest departed copy on its way is recorded in both tape queues. A copy that
is on its way across a roll or a new definition of the instrument is kept, and goes to the entry of that number (the
model's choice, notes/assumptions/31.md). -/
def execDepartedCopyHandoff (s : State) : Host.Outcome State Fault Refusal :=
  .next <|
    match s.transit.departures with
    | [] => s
    | d :: rest =>
      { s with
        transit := { s.transit with departures := rest }
        tape :=
          { s.tape with
            ribbon0 := { s.tape.ribbon0 with queue := s.tape.ribbon0.queue.map (TapeEntry.depart d) }
            ribbon1 := { s.tape.ribbon1 with queue := s.tape.ribbon1.queue.map (TapeEntry.depart d) } } }

end Sys2Proof.Machine
end

