-- ==== Sys2Proof/Machine/Quote.lean ====
section
/-! DEFINITION. The quote engine's requests on instruments and reports (R10 to R17, R40 to R58): each is an
engine, which takes the operand words and answers with the outcome, the reply's further words and the state
after its action. -/

namespace Sys2Proof.Machine

/-- What an engine answers: the outcome, the words after word 0 of the reply, and the state after the
action (R163). -/
structure Result where
  answer : Answer
  words  : List Word
  state  : State
  deriving DecidableEq, Repr

/-- An engine's action on a request, from its operand words (R162). -/
abbrev Engine := List Word → State → Result

/-- A refusal changes nothing in the engine (R3, R60). -/
def refuse (a : Answer) (s : State) : Result := ⟨a, [], s⟩

/-- DONE with no further words. -/
def done (s : State) : Result := ⟨.done, [], s⟩

/-- DONE with further words. -/
def doneWith (words : List Word) (s : State) : Result := ⟨.done, words, s⟩

/-- An engine that makes its checks and, where none refuses, acts. -/
def checked (check : List Word → State → Option Answer) (act : Engine) : Engine := fun ops s =>
  match check ops s with
  | some a => refuse a s
  | none => act ops s

/-- A number as a word. -/
def word (n : Nat) : Word := BitVec.ofNat 16 n

/-- The record named by the instrument index at a place. -/
def State.named (s : State) (ops : List Word) (i : Nat) : Instrument := s.instr (operand ops i)

/-- The instrument index at a place is above 2047. -/
def badIndex (ops : List Word) (i : Nat) : Bool := decide (Config.instrumentCount ≤ operand ops i)

/-- Write a record and hand on its changed-field set (R3). -/
def State.change (i : Nat) (v : Instrument) (eligible : Bool) (s : State) : State :=
  (s.setInstr i v).handOn i (changedFields (s.instr i) v) eligible

/-! ### Reading and finding -/

/-- The bytes of an optional price in the READ INSTRUMENT reply (R174, READ INSTRUMENT reply). -/
def priceBytes (p : Option Nat) : List Byte := numberBytes 3 (p.getD 0)

/-- The trading state byte of the READ INSTRUMENT reply. -/
def tradingByte : TradingState → Nat
  | .vacant => 0
  | .active => 64
  | .halted reason => 128 + reason

/-- The quote condition code of the READ INSTRUMENT reply. -/
def QuoteCondition.code : QuoteCondition → Nat
  | .firm => 0
  | .nonFirm => 1
  | .crossed => 2

/-- The tick code of the READ INSTRUMENT reply. -/
def Tick.code : Tick → Nat
  | .flat => 0
  | .up => 1
  | .zeroUp => 2
  | .down => 3
  | .zeroDown => 4

/-- A flag as a bit of a weight. -/
def bit (weight : Nat) (b : Bool) : Nat := if b then weight else 0

/-- The presence byte of the READ INSTRUMENT reply. -/
def presenceByte (v : Instrument) : Nat :=
  bit 64 v.prevClose.isSome + bit 32 v.opening.isSome + bit 16 v.high.isSome + bit 8 v.low.isSome
    + bit 4 v.last.isSome + bit 2 v.bid.isSome + bit 1 v.ask.isSome

/-- The 46 bytes of the READ INSTRUMENT reply (R17, R174). -/
def instrumentBytes (v : Instrument) : List Byte :=
  let symbol := v.symbol.getD []
  symbol ++ List.replicate (4 - symbol.length) 0
    ++ [v.cls.getD 0,
      BitVec.ofNat 8 (tradingByte v.trading),
      BitVec.ofNat 8 (64 * v.denominator.code + 16 * v.ribbonSet.code + 4 * v.quoteCondition.code
        + bit 2 v.fast + bit 1 v.reversal),
      BitVec.ofNat 8 (bit 128 v.saturated + v.tick.code),
      BitVec.ofNat 8 (presenceByte v)]
    ++ priceBytes v.prevClose ++ priceBytes (v.opening.map (·.price)) ++ priceBytes v.high
    ++ priceBytes v.low ++ priceBytes (v.last.map (·.price)) ++ priceBytes v.bid ++ priceBytes v.ask
    ++ numberBytes 3 ((v.last.map (·.size)).getD 0) ++ numberBytes 4 v.volume
    ++ numberBytes 2 v.tradeCount ++ numberBytes 2 v.bidSize ++ numberBytes 2 v.askSize
    ++ numberBytes 2 v.nextNumber ++ [0]

/-- The checks of READ INSTRUMENT (R17). -/
def readInstrumentCheck (ops : List Word) (s : State) : Option Answer :=
  firstRefusal
    [(decide (ops.length ≠ 1) || badIndex ops 0, .malformed),
     ((s.named ops 0).isVacant, .unknownInstrument)]

/-- READ INSTRUMENT (R17). -/
def readInstrumentEngine : Engine :=
  checked readInstrumentCheck fun ops s => doneWith (packBytes (instrumentBytes (s.named ops 0))) s

/-- The index of a symbol and class in the directory (R11). -/
def directoryIndex (d : List DirEntry) (symbol : Text) (cls : Option Byte) : Option Nat :=
  (d.find? fun e => decide (e.symbol = symbol ∧ e.cls = cls)).map (·.index)

/-- FIND SYMBOL (R11). -/
def findSymbolEngine : Engine := fun ops s =>
  match symbolOperand ops 0 with
  | none => refuse .malformed s
  | some (symbol, cls) =>
    if ops.length ≠ 3 then refuse .malformed s
    else
      match directoryIndex s.quote.directory symbol cls with
      | none => refuse .notFound s
      | some i => doneWith [word i] s

/-! ### Defining, modifying, removing -/

/-- Symbol order: letter by letter, a symbol that another continues before it (R10). -/
def symbolBefore : Text → Text → Bool
  | [], [] => false
  | [], _ :: _ => true
  | _ :: _, [] => false
  | a :: as, b :: bs => decide (a < b) || (decide (a = b) && symbolBefore as bs)

/-- Class order: an absent class before any letter (R10). -/
def classBefore : Option Byte → Option Byte → Bool
  | none, none => false
  | none, some _ => true
  | some _, none => false
  | some a, some b => decide (a < b)

/-- The order of the directory (R10). -/
def DirEntry.before (a b : DirEntry) : Bool :=
  symbolBefore a.symbol b.symbol || (decide (a.symbol = b.symbol) && classBefore a.cls b.cls)

/-- Insert a directory entry at its place in the order (R10). -/
def directoryInsert (e : DirEntry) : List DirEntry → List DirEntry
  | [] => [e]
  | f :: fs => if e.before f then e :: f :: fs else f :: directoryInsert e fs

/-- Delete the directory entry of an index (R10). -/
def directoryErase (i : Nat) (d : List DirEntry) : List DirEntry := d.filter fun e => decide (e.index ≠ i)

/-- Write the directory. -/
def State.setDirectory (d : List DirEntry) (s : State) : State := { s with quote := { s.quote with directory := d } }

/-- The checks of DEFINE INSTRUMENT (R12). -/
def defineInstrumentCheck (ops : List Word) (s : State) : Option Answer :=
  match symbolOperand ops 1, Denominator.ofCode (operand ops 4), RibbonSet.ofCode (operand ops 5),
      optionalPrice ops 6, thresholdOperand ops 8 with
  | some (symbol, cls), some d, some _, some close, some _ =>
    firstRefusal
      [(decide (ops.length ≠ 10) || badIndex ops 0, .malformed),
       (!(s.named ops 0).isVacant, .inUse),
       ((directoryIndex s.quote.directory symbol cls).isSome, .duplicateSymbol),
       (close.any fun p => !onGrid d p, .priceGrid)]
  | _, _, _, _, _ => some .malformed

/-- The record that DEFINE INSTRUMENT makes (R13). -/
def definedInstrument (ops : List Word) (v : Instrument) : Instrument :=
  { Instrument.vacant with
    symbol := (symbolOperand ops 1).map (·.1)
    cls := (symbolOperand ops 1).bind (·.2)
    trading := .active
    denominator := (Denominator.ofCode (operand ops 4)).getD .eighths
    ribbonSet := (RibbonSet.ofCode (operand ops 5)).getD .neither
    prevClose := (optionalPrice ops 6).getD none
    blockThreshold := (thresholdOperand ops 8).getD none
    bindHead := v.bindHead
    viewers := v.viewers }

/-- DEFINE INSTRUMENT (R12, R13). -/
def defineInstrumentEngine : Engine :=
  checked defineInstrumentCheck fun ops s =>
    let i := operand ops 0
    let v := definedInstrument ops (s.instr i)
    done ((s.change i v false).setDirectory
      (directoryInsert ⟨v.symbol.getD [], v.cls, i⟩ s.quote.directory))

/-- Every stored price of an instrument (R14 check 5). -/
def storedPrices (v : Instrument) : List Nat :=
  v.prevClose.toList ++ (v.opening.map (·.price)).toList ++ v.high.toList ++ v.low.toList
    ++ (v.last.map (·.price)).toList ++ v.anchorHigh.toList ++ v.anchorLow.toList
    ++ (v.anchorLast.map (·.price)).toList ++ v.bid.toList ++ v.ask.toList ++ v.prints.map (·.price)

/-- An entry of either tape queue was caused by an instrument (R14, R16). -/
def State.onTape (s : State) (i : Nat) : Bool :=
  (s.tape.ribbon0.queue ++ s.tape.ribbon1.queue).any fun e => decide (e.index = some i)

/-- A presence flag of MODIFY INSTRUMENT (R172). -/
def itemPresent (ops : List Word) (k : Nat) : Bool := (ops.getD 1 0).getLsbD k

/-- The item checks of step 1 of MODIFY INSTRUMENT: a present item whose value DEFINE INSTRUMENT would
refuse (R14; an absent item is not examined, notes/assumptions/21.md). -/
def badItem (ops : List Word) : Bool :=
  (itemPresent ops 0 && (RibbonSet.ofCode (operand ops 2)).isNone)
    || (itemPresent ops 1 && (thresholdOperand ops 3).isNone)
    || (itemPresent ops 2 && (Denominator.ofCode (operand ops 5)).isNone)
    || (optionalPrice ops 6).isNone

/-- MODIFY INSTRUMENT holds no item (R14). -/
def noItem (ops : List Word) : Bool :=
  !itemPresent ops 0 && !itemPresent ops 1 && !itemPresent ops 2 && !pricePresent ops 6

/-- The denominator in force after MODIFY INSTRUMENT (R14 check 5). -/
def denominatorAfter (ops : List Word) (v : Instrument) : Denominator :=
  if itemPresent ops 2 then (Denominator.ofCode (operand ops 5)).getD v.denominator else v.denominator

/-- Check 5 of MODIFY INSTRUMENT fails (R14). -/
def offNewGrid (ops : List Word) (v : Instrument) : Bool :=
  let d := denominatorAfter ops v
  (((optionalPrice ops 6).getD none).any fun p => !onGrid d p)
    || (decide (d.value < v.denominator.value) && (storedPrices v).any fun p => !onGrid d p)

/-- The checks of MODIFY INSTRUMENT (R14). -/
def modifyInstrumentCheck (ops : List Word) (s : State) : Option Answer :=
  firstRefusal
    [(decide (ops.length ≠ 8) || badIndex ops 0 || noItem ops || badItem ops, .malformed),
     ((s.named ops 0).isVacant, .unknownInstrument),
     (pricePresent ops 6 && decide (s.quote.session = .opened), .busy),
     (itemPresent ops 0 && s.onTape (operand ops 0), .inUse),
     (offNewGrid ops (s.named ops 0), .priceGrid)]

/-- The record that MODIFY INSTRUMENT leaves (R15). -/
def modifiedInstrument (ops : List Word) (v : Instrument) : Instrument :=
  { v with
    ribbonSet :=
      if itemPresent ops 0 then (RibbonSet.ofCode (operand ops 2)).getD v.ribbonSet else v.ribbonSet
    blockThreshold :=
      if itemPresent ops 1 then (thresholdOperand ops 3).getD v.blockThreshold else v.blockThreshold
    denominator := denominatorAfter ops v
    prevClose := if pricePresent ops 6 then (optionalPrice ops 6).getD v.prevClose else v.prevClose }

/-- MODIFY INSTRUMENT (R14, R15). -/
def modifyInstrumentEngine : Engine :=
  checked modifyInstrumentCheck fun ops s =>
    done (s.change (operand ops 0) (modifiedInstrument ops (s.named ops 0)) false)

/-- The checks of REMOVE INSTRUMENT (R16). -/
def removeInstrumentCheck (ops : List Word) (s : State) : Option Answer :=
  let v := s.named ops 0
  firstRefusal
    [(decide (ops.length ≠ 1) || badIndex ops 0, .malformed),
     (v.isVacant, .unknownInstrument),
     (v.bindHead.isSome || !v.viewers.isEmpty || s.onTape (operand ops 0), .inUse)]

/-- The record that REMOVE INSTRUMENT leaves: the vacant values of R21, which name neither the binding list
head, nor the viewer set, nor the digit references (notes/assumptions/18.md). -/
def Instrument.vacated (v : Instrument) : Instrument :=
  { Instrument.vacant with
    bindHead := v.bindHead
    viewers := v.viewers
    digitRef0 := v.digitRef0
    digitRef1 := v.digitRef1 }

/-- REMOVE INSTRUMENT (R16): no changed-field set is handed on. -/
def removeInstrumentEngine : Engine :=
  checked removeInstrumentCheck fun ops s =>
    let i := operand ops 0
    done ((s.setInstr i (s.instr i).vacated).setDirectory (directoryErase i s.quote.directory))

/-! ### The feed sequence -/

/-- The classes of a report (R42). -/
inductive SequenceClass where
  | expected | gap | duplicate
  deriving DecidableEq, Repr

/-- The distance from one number forward to another in the cycle 1 to 65535 (R42). -/
def cycleDistance (start stop : Nat) : Nat := (stop + 65535 - start) % 65535

/-- The classification of a report with sequence number `n` (R42). -/
def classify (expectation : Option Nat) (n : Nat) : SequenceClass :=
  match expectation with
  | none => .expected
  | some e =>
    if cycleDistance e n = 0 then .expected
    else if cycleDistance e n ≤ 32767 then .gap
    else .duplicate

/-- Write the feed sequence expectation (R41). -/
def State.setExpectation (e : Option Nat) (s : State) : State :=
  { s with quote := { s.quote with expectation := e } }

/-- The condition that a report's refusal records at the F-port (R48, R56); MALFORMED is recorded for every
request alike, in Machine/Port.lean. -/
def Answer.feedCondition : Answer → Option Condition
  | .unknownInstrument => some .unknownInstrument
  | .sessionClosed => some .sessionClosed
  | .tradeHalted => some .tradeHalted
  | .priceGrid => some .priceGrid
  | .done => none
  | .duplicate => none
  | .noLine => none
  | .empty => none
  | .held => none
  | .notLive => none
  | .notPermitted => none
  | .malformed => none
  | .tapeFull => none
  | .tooOld => none
  | .notFound => none
  | .inUse => none
  | .duplicateSymbol => none
  | .overlap => none
  | .outOfRange => none
  | .notPresent => none
  | .wrongKind => none
  | .noLocalTable => none
  | .rank => none
  | .busy => none

/-- Record a condition where there is one. -/
def State.recordSome (p : PortId) (c : Option Condition) (s : State) : State :=
  match c with
  | none => s
  | some c => s.record p c

/-- The sequence effects and the recorded conditions of a report's final outcome (R43, R48). -/
def afterReport (c : SequenceClass) (n : Nat) (r : Result) : Result :=
  if r.answer = .tapeFull then r
  else
    let t := (r.state.setExpectation (some (successor n))).recordSome .feed r.answer.feedCondition
    { r with state := t.recordSome .feed (if c = .gap then some .sequenceGap else none) }

/-- The first two steps of a report (R40, R42, R44), then its own engine with the sequence effects (R43). -/
def reportEngine (body : Engine) : Engine := fun ops s =>
  if s.mode = .config then refuse .notLive s
  else if operand ops 0 = 0 then refuse .malformed s
  else
    match classify s.quote.expectation (operand ops 0) with
    | .duplicate => ⟨.duplicate, [word (s.quote.expectation.getD 0)], s⟩
    | .expected => afterReport .expected (operand ops 0) (body ops s)
    | .gap => afterReport .gap (operand ops 0) (body ops s)

/-- SEQUENCE RESET (R45). -/
def sequenceResetEngine : Engine :=
  checked
    (fun ops s => firstRefusal [(decide (s.mode = .config), .notLive), (decide (ops.length ≠ 1), .malformed)])
    fun ops s =>
      doneWith [ops.getD 0 0]
        (s.setExpectation (if operand ops 0 = 0 then none else some (operand ops 0)))

/-! ### Trades -/

/-- A tape queue of a list of ribbons has reached a length. -/
def State.anyFull (s : State) (rs : List Nat) (length : Nat) : Bool :=
  rs.any fun r => decide (length ≤ (s.ribbon r).queue.length)

/-- Steps 3 to 8 of TRADE REPORT (R46, R47, R48, R50). -/
def tradeCheck (ops : List Word) (s : State) : Option Answer :=
  let v := s.named ops 1
  firstRefusal
    [(decide (ops.length ≠ 7) || badIndex ops 1 || (salePrice ops 2).isNone
        || decide (operandPair ops 4 = 0) || decide (Config.maxShares < operandPair ops 4)
        || (flagOperand ops 6).isNone, .malformed),
     (v.isVacant, .unknownInstrument),
     (decide (s.quote.session = .closed), .sessionClosed),
     (v.isHalted, .tradeHalted),
     (!onGrid v.denominator ((salePrice ops 2).getD 0), .priceGrid),
     (s.anyFull (s.carrying v) Config.tapeTradeLimit, .tapeFull)]

/-- The reference price of a REGULAR print that joins (R26). -/
def tickReference (v : Instrument) : Option Nat :=
  match v.last with
  | some l => some l.price
  | none => v.prevClose

/-- The print that an accepted trade forms (R51 steps 1 and 3, R52). -/
def formPrint (price size : Nat) (late : Bool) (v : Instrument) : Print where
  number := v.nextNumber
  kind := if late then .late else .regular (tickFunction price (tickReference v) v.tick)
  price := price
  size := size
  valid := true

/-- The sale-by-sale fields after a REGULAR print (R51 step 3); a LATE print moves none of them (R52). -/
def showSale (p : Print) (v : Instrument) : Instrument :=
  match p.kind with
  | .late => v
  | .regular t =>
    { v with
      tick := t
      reversal := reversalOf t v.tick
      last := some ⟨p.price, p.size⟩
      opening :=
        match v.opening with
        | some o => some o
        | none => some ⟨p.price, p.number⟩ }

/-- The record after an accepted trade (R51). -/
def acceptPrint (p : Print) (v : Instrument) : Instrument :=
  let sum := volumeAfter v.volume v.saturated 0 p.size
  bringHighLow
    { showSale p (joinPrint p v) with
      nextNumber := successor v.nextNumber
      volume := sum.1
      saturated := sum.2
      tradeCount := countUp v.tradeCount }

/-- The departed copy of a print that left the list goes on its way to the tape queues (R116). -/
def State.depart (i : Nat) (p : Option Print) (s : State) : State :=
  match p with
  | none => s
  | some p =>
    { s with transit := { s.transit with departures := s.transit.departures ++ [⟨i, p.number, p.face⟩] } }

/-- A PRINT entry is appended to each of a list of ribbons (R53), ribbon 0 before ribbon 1 (the model's choice,
notes/assumptions/35.md). -/
def State.appendPrint (rs : List Nat) (i number : Nat) (s : State) : State :=
  rs.foldl (fun s r => s.appendEntry r (.print i number s.now none)) s

/-- Step 9 of TRADE REPORT (R51 to R54). -/
def tradeApply : Engine := fun ops s =>
  let i := operand ops 1
  let v := s.instr i
  let p := formPrint ((salePrice ops 2).getD 0) (operandPair ops 4) ((flagOperand ops 6).getD false) v
  let t := (s.change i (acceptPrint p v) true).depart i (leavingPrint v)
  doneWith [word p.number] (t.appendPrint (s.carrying v) i p.number)

/-- TRADE REPORT (R46). -/
def tradeReportEngine : Engine := reportEngine (checked tradeCheck tradeApply)

/-! ### Quotes -/

/-- A side of a quote is present and off the grid (R56). -/
def sideOffGrid (d : Denominator) (ops : List Word) (i : Nat) : Bool :=
  ((optionalPrice ops i).getD none).any fun p => !onGrid d p

/-- The steps of QUOTE REPORT after the sequence step (R56). -/
def quoteCheck (ops : List Word) (s : State) : Option Answer :=
  let v := s.named ops 1
  firstRefusal
    [(decide (ops.length ≠ 8) || badIndex ops 1 || (optionalPrice ops 2).isNone || (optionalPrice ops 4).isNone
        || decide (Config.maxQuoteSize < operand ops 6) || decide (Config.maxQuoteSize < operand ops 7),
      .malformed),
     (v.isVacant, .unknownInstrument),
     (decide (s.quote.session = .closed), .sessionClosed),
     (sideOffGrid v.denominator ops 2 || sideOffGrid v.denominator ops 4, .priceGrid)]

/-- The record after an accepted quote (R58). -/
def quotedInstrument (ops : List Word) (v : Instrument) : Instrument :=
  let bid := (optionalPrice ops 2).getD none
  let ask := (optionalPrice ops 4).getD none
  { v with
    bid := bid
    ask := ask
    bidSize := operand ops 6
    askSize := operand ops 7
    quoteCondition := quoteConditionOf bid ask v.fast }

/-- QUOTE REPORT (R56, R58). -/
def quoteReportEngine : Engine :=
  reportEngine (checked quoteCheck fun ops s =>
    done (s.change (operand ops 1) (quotedInstrument ops (s.named ops 1)) true))

end Sys2Proof.Machine
end

