-- ==== Sys2Proof/Machine/Floor.lean ====
section
/-! DEFINITION. The quote engine's requests on the session and on the floor: sessions and the roll (R18 to
R20), halts, fast markets, cancels, corrections and supervisor text (R60 to R75). -/

namespace Sys2Proof.Machine

/-! ### The session -/

/-- The ribbons in service (R18), ribbon 0 first (notes/assumptions/35.md). -/
def State.ribbonsInService (s : State) : List Nat := [0, 1].filter fun r => s.inService r

/-- The session state changes, a notice goes to each ribbon in service, and the MARKET cells are to be
queued (R18, R19). -/
def State.changeSession (after : Session) (text : Text) (s : State) : State :=
  let t : State :=
    { s with
      quote := { s.quote with session := after }
      transit := { s.transit with sessionChanges := s.transit.sessionChanges + 1 } }
  t.appendNotice s.ribbonsInService text none

/-- OPEN SESSION (R18). -/
def openSessionEngine : Engine := fun ops s =>
  if ops.length ≠ 0 then refuse .malformed s
  else if s.mode = .config then refuse .notLive s
  else if s.quote.session = .opened then done s
  else if s.anyFull s.ribbonsInService Config.tapeCapacity then refuse .tapeFull s
  else done (s.changeSession .opened (ascii "MARKET OPEN"))

/-- CLOSE SESSION (R19). -/
def closeSessionEngine : Engine := fun ops s =>
  if ops.length ≠ 0 then refuse .malformed s
  else if s.quote.session = .closed then done s
  else if s.anyFull s.ribbonsInService Config.tapeCapacity then refuse .tapeFull s
  else done (s.changeSession .closed (ascii "MARKET CLOSED"))

/-- Write the records still to be rolled (R20). -/
def State.setRolling (l : List Nat) (s : State) : State := { s with quote := { s.quote with rolling := l } }

/-- Either tape queue holds an entry (R20). -/
def State.tapeHolds (s : State) : Bool := !s.tape.ribbon0.queue.isEmpty || !s.tape.ribbon1.queue.isEmpty

/-- ROLL SESSION (R20): the records to roll are listed, in ascending index; ROLL_RECORD rolls each, and the
request completes after the last (notes/assumptions/25.md). -/
def rollSessionEngine : Engine := fun ops s =>
  if ops.length ≠ 0 then refuse .malformed s
  else if s.quote.session = .opened then refuse .busy s
  else if s.tapeHolds then refuse .busy s
  else done (s.setRolling (Table.keys (fun _ v => !v.isVacant) s.quote.instruments))

/-- The record after its roll (R20). -/
def Instrument.rolled (v : Instrument) : Instrument :=
  { v with
    prevClose :=
      match v.last with
      | some l => some l.price
      | none => v.prevClose
    carriedTick := v.tick
    opening := none
    high := none
    low := none
    last := none
    anchorHigh := none
    anchorLow := none
    anchorLast := none
    prints := []
    volume := 0
    saturated := false
    tradeCount := 0
    nextNumber := 1
    fast := false
    quoteCondition := quoteConditionOf v.bid v.ask false }

/-- ROLL_RECORD (R20): the next record is rolled. -/
def execRollRecord (s : State) : Host.Outcome State Fault Refusal :=
  .next <|
    match s.quote.rolling with
    | [] => s
    | i :: rest =>
      let t := s.setRolling rest
      if (s.instr i).isVacant then t else t.change i (s.instr i).rolled false

/-! ### Halting, resuming, fast markets -/

/-- The checks that every floor request on an instrument begins with (R61 to R63). -/
def floorChecks (n : Nat) (bad : Bool) (ops : List Word) (s : State) : List (Bool × Answer) :=
  [(decide (ops.length ≠ n) || badIndex ops 0 || bad, .malformed),
   ((s.named ops 0).isVacant, .unknownInstrument)]

/-- The checks of HALT (R61). -/
def haltCheck (ops : List Word) (s : State) : Option Answer :=
  let v := s.named ops 0
  firstRefusal
    (floorChecks 2 (decide (15 < operand ops 1)) ops s
      ++ [(v.isHalted, .inUse), (s.anyFull (s.carrying v) Config.tapeCapacity, .tapeFull)])

/-- HALT (R61). -/
def haltEngine : Engine :=
  checked haltCheck fun ops s =>
    let i := operand ops 0
    let v := s.instr i
    let t := s.change i { v with trading := .halted (operand ops 1) } false
    done (t.appendNotice (s.carrying v) (tradingNotice v "HALTED") (some i))

/-- The checks of RESUME (R62). -/
def resumeCheck (ops : List Word) (s : State) : Option Answer :=
  let v := s.named ops 0
  firstRefusal
    (floorChecks 1 false ops s
      ++ [(v.isHalted && s.anyFull (s.carrying v) Config.tapeCapacity, .tapeFull)])

/-- RESUME (R62); on an ACTIVE record nothing changes. -/
def resumeEngine : Engine :=
  checked resumeCheck fun ops s =>
    let i := operand ops 0
    let v := s.instr i
    if v.isHalted then
      let t := s.change i { v with trading := .active } false
      done (t.appendNotice (s.carrying v) (tradingNotice v "RESUMED") (some i))
    else done s

/-- The fast-market flag of a record takes a value, and the quote condition follows (R57, R63). -/
def Instrument.withFast (fast : Bool) (v : Instrument) : Instrument :=
  { v with fast := fast, quoteCondition := quoteConditionOf v.bid v.ask fast }

/-- SET FAST MARKET and CLEAR FAST MARKET (R63); a flag that stands as asked is left with all else. -/
def fastMarketEngine (fast : Bool) : Engine :=
  checked (fun ops s => firstRefusal (floorChecks 1 false ops s)) fun ops s =>
    let v := s.named ops 0
    if v.fast = fast then done s else done (s.change (operand ops 0) (v.withFast fast) false)

/-- SET FAST MARKET (R63). -/
def setFastMarketEngine : Engine := fastMarketEngine true

/-- CLEAR FAST MARKET (R63). -/
def clearFastMarketEngine : Engine := fastMarketEngine false

/-! ### Cancels and corrections -/

/-- Why the print of a number is not found; none where a VALID print of the list bears it (R64). -/
def Instrument.missing (v : Instrument) (number : Nat) : Option Answer :=
  match v.print number with
  | some p => if p.valid then none else some .notFound
  | none =>
    match v.prints with
    | [] => some .notFound
    | oldest :: _ =>
      let behind := cycleDistance number oldest.number
      if Config.printListLength ≤ v.prints.length ∧ 1 ≤ behind ∧ behind ≤ 32767 then some .tooOld
      else some .notFound

/-- The print is the opening print (R65). -/
def Instrument.isOpening (v : Instrument) (p : Print) : Bool :=
  v.anchorLast.isNone && decide (v.opening.map (·.number) = some p.number)

/-- The print is the newest VALID REGULAR print (R65). -/
def Instrument.isNewest (v : Instrument) (p : Print) : Bool :=
  decide ((newestValidRegular v.prints).map (·.number) = some p.number)

/-- The prints older than a print in the list. -/
def Instrument.olderThan (v : Instrument) (p : Print) : List Print :=
  v.prints.takeWhile fun q => decide (q.number ≠ p.number)

/-- The prints that follow a print in the list. -/
def Instrument.following (v : Instrument) (p : Print) : List Print :=
  (v.prints.dropWhile fun q => decide (q.number ≠ p.number)).drop 1

/-- A print of the list replaced by another of the same number. -/
def Instrument.replacePrint (v : Instrument) (p : Print) : List Print :=
  v.prints.map fun q => if q.number = p.number then p else q

/-- Open and the opening print number after the cancel of a print (R9, R67 step 5). -/
def openingAfterCancel (p : Print) (v : Instrument) : Option Opening :=
  if v.isOpening p then ((v.following p).find? Print.counts).map fun q => ⟨q.price, q.number⟩ else v.opening

/-- The record after the cancel of a print (R67). -/
def Instrument.cancel (p : Print) (v : Instrument) : Instrument :=
  let fall := volumeAfter v.volume v.saturated p.size 0
  let v' := bringHighLow
    { v with
      prints := v.replacePrint { p with valid := false }
      volume := fall.1
      saturated := fall.2
      tradeCount := countDown v.tradeCount
      opening := openingAfterCancel p v }
  if v.isNewest p then bringLast v' else v'

/-- The tick of a corrected REGULAR print, computed afresh against its predecessor (R26, R69 step 4), also where
price and size stay as they were (the model's choice between R68 and R69, notes/assumptions/30.md). -/
def correctedTick (p : Print) (price : Nat) (v : Instrument) : Tick :=
  match newestValidRegular (v.olderThan p) with
  | some q => tickFunction price (some q.price) q.storedTick
  | none =>
    match v.anchorLast with
    | some a => tickFunction price (some a.price) a.tick
    | none => tickFunction price v.prevClose v.carriedTick

/-- A print after its correction (R69). -/
def correctedPrint (p : Print) (price size : Nat) (v : Instrument) : Print :=
  { p with
    price := price
    size := size
    kind :=
      match p.kind with
      | .regular _ => .regular (correctedTick p price v)
      | .late => .late }

/-- Last, last size, tick and reversal taken from a corrected newest print (R69 step 5; notes/assumptions/30.md). -/
def showCorrection (q : Print) (v : Instrument) : Instrument :=
  { v with
    last := some ⟨q.price, q.size⟩
    tick := q.storedTick
    reversal := reversalOf q.storedTick v.tick }

/-- The record after the correction of a print (R69). -/
def Instrument.correct (p : Print) (price size : Nat) (v : Instrument) : Instrument :=
  let q := correctedPrint p price size v
  let sum := volumeAfter v.volume v.saturated p.size size
  let v' := bringHighLow
    { v with
      prints := v.replacePrint q
      volume := sum.1
      saturated := sum.2
      opening := if v.isOpening p then some ⟨price, p.number⟩ else v.opening }
  if v.isNewest p then showCorrection q v' else v'

/-- A carrying ribbon's queue is full and does not hold the print's entry (R73). -/
def State.noRoom (s : State) (v : Instrument) (i number : Nat) : Bool :=
  (s.carrying v).any fun r =>
    decide (Config.tapeCapacity ≤ (s.ribbon r).queue.length) && !s.isQueued r i number

/-- The tape effect on a ribbon: 0 none, 1 in queue, 2 notice (R71, R174). -/
def State.tapeEffect (s : State) (v : Instrument) (i number r : Nat) : Nat :=
  if (s.carrying v).contains r then (if s.isQueued r i number then 1 else 2) else 0

/-- The tape-effect word (R66, R174). -/
def State.effectWord (s : State) (v : Instrument) (i number : Nat) : Word :=
  word (s.tapeEffect v i number 0 + 4 * s.tapeEffect v i number 1)

/-- The tape step of a cancel or a correction at a list of ribbons (R71), ribbon 0 before ribbon 1 (the model's choice,
notes/assumptions/35.md). -/
def State.tapeStep (rs : List Nat) (i number : Nat) (withdraws : Bool) (text : Text) (s : State) : State :=
  rs.foldl
    (fun s r =>
      if s.isQueued r i number then (if withdraws then s.withdraw r i number else s)
      else s.appendEntry r (.notice text s.now (some i)))
    s

/-- The checks of CANCEL PRINT (R66). -/
def cancelPrintCheck (ops : List Word) (s : State) : Option Answer :=
  let v := s.named ops 0
  match firstRefusal (floorChecks 2 (decide (operand ops 1 = 0)) ops s) with
  | some a => some a
  | none =>
    match v.missing (operand ops 1) with
    | some a => some a
    | none => firstRefusal [(s.noRoom v (operand ops 0) (operand ops 1), .tapeFull)]

/-- CANCEL PRINT (R66, R67, R70, R71). -/
def cancelPrintEngine : Engine :=
  checked cancelPrintCheck fun ops s =>
    let i := operand ops 0
    let v := s.instr i
    match v.print (operand ops 1) with
    | none => done s
    | some p =>
      let t := s.change i (v.cancel p) true
      let text := printNotice "CXL" v (!p.isRegular) p.price p.size
      doneWith [s.effectWord v i p.number] (t.tapeStep (s.carrying v) i p.number true text)

/-- The checks of CORRECT PRINT (R68). -/
def correctPrintCheck (ops : List Word) (s : State) : Option Answer :=
  let v := s.named ops 0
  let bad := decide (operand ops 1 = 0) || (salePrice ops 2).isNone || decide (operandPair ops 4 = 0)
    || decide (Config.maxShares < operandPair ops 4)
  match firstRefusal (floorChecks 6 bad ops s) with
  | some a => some a
  | none =>
    match v.missing (operand ops 1) with
    | some a => some a
    | none =>
      firstRefusal
        [(!onGrid v.denominator ((salePrice ops 2).getD 0), .priceGrid),
         (s.noRoom v (operand ops 0) (operand ops 1), .tapeFull)]

/-- CORRECT PRINT (R68, R69, R70, R71). -/
def correctPrintEngine : Engine :=
  checked correctPrintCheck fun ops s =>
    let i := operand ops 0
    let v := s.instr i
    match v.print (operand ops 1) with
    | none => done s
    | some p =>
      let price := (salePrice ops 2).getD 0
      let size := operandPair ops 4
      let t := s.change i (v.correct p price size) true
      let text := printNotice "CORR" v (!p.isRegular) price size
      doneWith [s.effectWord v i p.number] (t.tapeStep (s.carrying v) i p.number false text)

/-! ### Supervisor text -/

/-- The parts of TAPE TEXT (R74). -/
inductive TextPart where
  | single | first | final
  deriving DecidableEq, Repr

/-- The part code (R172). -/
def TextPart.ofCode : Nat → Option TextPart
  | 0 => some .single
  | 1 => some .first
  | 2 => some .final
  | _ => none

/-- A character of the character table (R74 check 2). -/
def isTapeChar (b : Byte) : Bool :=
  decide ((0x20#8 ≤ b ∧ b ≤ 0x5A#8) ∨ b = 0x73#8 ∨ b = 0x78#8 ∨ (0x80#8 ≤ b ∧ b ≤ 0x89#8))

/-- The ribbon number, part and character count of TAPE TEXT (R172). -/
def textRibbon (ops : List Word) : Nat := operand ops 0 / 4096
/-- The part of TAPE TEXT. -/
def textPart (ops : List Word) : Option TextPart := TextPart.ofCode (operand ops 0 / 256 % 16)
/-- The character count of TAPE TEXT. -/
def textCount (ops : List Word) : Nat := operand ops 0 % 256
/-- The characters of TAPE TEXT (R172). -/
def textChars (ops : List Word) : Text := (wordBytes (ops.drop 1)).take (textCount ops)

/-- The form of TAPE TEXT is refused (R74 check 2, R173). -/
def badText (ops : List Word) : Bool :=
  decide (ops.length ≠ 1 + (textCount ops + 1) / 2) || decide (1 < textRibbon ops) || (textPart ops).isNone
    || decide (textCount ops = 0) || decide (20 < textCount ops) || !(textChars ops).all isTapeChar

/-- The check of the part (R74, R75). -/
def textPartCheck (ops : List Word) (s : State) : Option Answer :=
  let full := s.anyFull [textRibbon ops] Config.tapeCapacity
  match (textPart ops).getD .single with
  | .single => firstRefusal [(full, .tapeFull)]
  | .first => none
  | .final =>
    match s.ports.textBuffer with
    | none => some .notFound
    | some b => firstRefusal [(decide (b.ribbon ≠ textRibbon ops), .outOfRange), (full, .tapeFull)]

/-- The checks of TAPE TEXT (R74). -/
def tapeTextCheck (ops : List Word) (s : State) : Option Answer :=
  match firstRefusal
      [(decide (s.mode = .config), .notLive),
       (badText ops, .malformed),
       (!s.inService (textRibbon ops), .outOfRange)] with
  | some a => some a
  | none => textPartCheck ops s

/-- TAPE TEXT (R74, R75). -/
def tapeTextEngine : Engine :=
  checked tapeTextCheck fun ops s =>
    let r := textRibbon ops
    match (textPart ops).getD .single with
    | .single => done (s.appendNotice [r] (textChars ops) none)
    | .first => done (s.setTextBuffer (some ⟨r, textChars ops⟩))
    | .final =>
      match s.ports.textBuffer with
      | none => done s
      | some b => done ((s.setTextBuffer none).appendNotice [r] (b.text ++ textChars ops) none)

end Sys2Proof.Machine
end

