-- ==== Sys2Proof/Machine/Board.lean ====
section
/-! DEFINITION. The board engine: panels, cells, binding lists, repaint queues, highlights (R77 to R98). Its
operations act on `Display`, which holds the module tables they read. -/

namespace Sys2Proof.Machine

/-! ### Reading and writing the tables -/

/-- The cell record of a cell index. -/
def Display.cell (d : Display) (c : Nat) : Cell := Table.get Cell.vacant d.cells c

/-- Write a cell record. -/
def Display.setCell (c : Nat) (v : Cell) (d : Display) : Display :=
  { d with cells := Table.put Cell.vacant d.cells c v }

/-- The descriptor of a panel. -/
def Display.panel (d : Display) (n : Nat) : Panel := Table.get Panel.absent d.panels n

/-- Write a panel descriptor. -/
def Display.setPanel (n : Nat) (v : Panel) (d : Display) : Display :=
  { d with panels := Table.put Panel.absent d.panels n v }

/-- The record of a board link. -/
def Display.link (d : Display) (l : Nat) : Link := Table.get Link.reset d.links l

/-- Write the record of a board link. -/
def Display.setLink (l : Nat) (v : Link) (d : Display) : Display :=
  { d with links := Table.put Link.reset d.links l v }

/-- The module table entry of an address on a link. -/
def Link.module (v : Link) (m : Nat) : Module := Table.get Module.reset v.modules m

/-- Write a module table entry of a link. -/
def Link.setModule (m : Nat) (e : Module) (v : Link) : Link :=
  { v with modules := Table.put Module.reset v.modules m e }

/-- The repaint queue of a link. -/
def Display.queue (d : Display) (l : Nat) : List Nat := Table.get [] d.repaint l

/-- Write the repaint queue of a link. -/
def Display.setQueue (l : Nat) (q : List Nat) (d : Display) : Display :=
  { d with repaint := Table.put [] d.repaint l q }

/-- The link is OFF (R99). -/
def Link.isOff (v : Link) : Bool := decide (v.state = .off)

/-- The module is configured (R100). -/
def Module.configured (e : Module) : Bool := decide (e.state ≠ .unconfigured)

/-- The module is UP (R100). -/
def Module.isUp (e : Module) : Bool := decide (e.state = .up)

/-- A cell index lies in a panel's range (R77). -/
def Panel.covers (p : Panel) (c : Nat) : Bool := p.present && decide (p.base ≤ c ∧ c < p.base + p.limit)

/-- The present panel whose range holds a cell index (R77). -/
def Display.panelOf (d : Display) (c : Nat) : Option Panel :=
  (Table.first (fun p => p.covers c) d.panels).map (·.2)

/-- The cells that are BOUND, in ascending index. -/
def Display.boundCells (d : Display) : List Nat := Table.keys (fun _ v => v.bound) d.cells

/-- The BOUND cells of a panel's range, in ascending index (R86). -/
def Display.cellsOfPanel (d : Display) (p : Panel) : List Nat :=
  d.boundCells.filter fun c => p.covers c

/-- The link of a cell's panel. -/
def Display.linkOf (d : Display) (c : Nat) : Option Nat := (d.panelOf c).map (·.link)

/-- A cell stands on a module of a link. -/
def Display.onModule (d : Display) (l m c : Nat) : Bool :=
  decide (d.linkOf c = some l) && decide ((d.cell c).address = m)

/-! ### Repaint queues and highlights -/

/-- A cell is paintable: BOUND, its panel's link not OFF, its module UP (R87). -/
def Display.paintable (d : Display) (c : Nat) : Bool :=
  match d.panelOf c with
  | none => false
  | some p =>
    (d.cell c).bound && !(d.link p.link).isOff && ((d.link p.link).module (d.cell c).address).isUp

/-- The cell's panel is dark (R86). -/
def Display.isDark (d : Display) (c : Nat) : Bool :=
  match d.panelOf c with
  | none => false
  | some p => p.dark

/-- A cell that is paintable and not queued is appended at the tail of its link's repaint queue (R87). -/
def Display.enqueue (c : Nat) (d : Display) : Display :=
  match d.panelOf c with
  | none => d
  | some p =>
    if d.paintable c && !(d.cell c).queued then
      (d.setCell c { d.cell c with queued := true }).setQueue p.link (d.queue p.link ++ [c])
    else d

/-- Cells enqueued one after another. -/
def Display.enqueueAll (cs : List Nat) (d : Display) : Display := cs.foldl (fun d c => d.enqueue c) d

/-- A cell leaves the highlight list and its expiry becomes absent (R83, R86, R94). -/
def Display.unhighlight (c : Nat) (d : Display) : Display :=
  { d.setCell c { d.cell c with expiry := none } with highlights := setErase c d.highlights }

/-- A cell is highlighted until `expiry`, at the tail of the highlight list (R89). -/
def Display.highlight (expiry : Time) (c : Nat) (d : Display) : Display :=
  { d.setCell c { d.cell c with expiry := some expiry } with highlights := setErase c d.highlights ++ [c] }

/-! ### Binding lists -/

/-- A binding list from its head, at most 4,096 cells (R84). -/
def Display.walk (d : Display) : Nat → Option Nat → List Nat
  | 0, _ => []
  | _ + 1, none => []
  | fuel + 1, some c => c :: d.walk fuel (d.cell c).next

/-- The cells of the binding list with the given head, the most recently defined first (R84). -/
def Display.bindingList (d : Display) (head : Option Nat) : List Nat := d.walk Config.cellCount head

/-- The cell before `c` in the binding list with the given head (R83). -/
def Display.before (d : Display) (head : Option Nat) (c : Nat) : Option Nat :=
  (d.bindingList head).find? fun b => decide ((d.cell b).next = some c)

/-! ### Handoffs and device-field changes -/

/-- The cell shows one of the changed fields of an instrument (R88 step 1). -/
def CellField.shows (fields : List Field) : CellField → Bool
  | .instrument f _ => fields.contains f
  | .clock => false
  | .market => false
  | .tapeState _ => false

/-- One cell met by a handoff's walk (R88, R89): `expiry` is the highlight expiry of an eligible handoff. -/
def Display.showChange (fields : List Field) (expiry : Option Time) (d : Display) (c : Nat) : Display :=
  if !(d.cell c).field.shows fields || d.isDark c then d
  else if d.paintable c then
    match expiry with
    | some t => if (d.cell c).onChange then (d.enqueue c).highlight t c else d.enqueue c
    | none => d.enqueue c
  else d

/-- A handoff of the quote engine: the walk of the instrument's binding list (R88). -/
def Display.handoff (head : Option Nat) (fields : List Field) (expiry : Option Time) (d : Display) : Display :=
  (d.bindingList head).foldl (fun d c => d.showChange fields expiry c) d

/-- A handoff names what a cell shows: the instrument, and a field of the changed-field set (R88, R93). -/
def BoardChange.names (b : BoardChange) : CellField → Bool
  | .instrument f i => decide (i = b.index) && b.fields.contains f
  | .clock => false
  | .market => false
  | .tapeState _ => false

/-- The highlight expiry that a handoff taken now gives, none where it is not eligible (R89). -/
def State.highlightEnd (s : State) (b : BoardChange) : Option Time :=
  if b.eligible then some (later s.now (s.items.highlightSeconds * 1000)) else none

/-- One handoff on the board engine's own state (R88, R89). -/
def State.takeChange (s : State) (d : Display) (b : BoardChange) : Display :=
  d.handoff (s.instr b.index).bindHead b.fields (s.highlightEnd b)

/-- Every handoff on its way to the board engine is taken, oldest first, before any link chooses (R93;
notes/assumptions/33.md). -/
def State.boardCaughtUp (s : State) : State :=
  { s with
    display := s.transit.boardChanges.foldl s.takeChange s.display
    transit := { s.transit with boardChanges := [] } }

/-- A device-field change: the walk of the device binding list (R90). -/
def Display.deviceChange (named : CellField → Bool) (d : Display) : Display :=
  d.enqueueAll ((d.bindingList d.deviceHead).filter fun c => named (d.cell c).field && !d.isDark c)

/-- The head of the highlight list, when its expiry has been reached (R94). -/
def Display.expired (now : Time) (d : Display) : Option Nat :=
  match d.highlights with
  | [] => none
  | c :: _ =>
    match (d.cell c).expiry with
    | none => none
    | some t => if reached t now then some c else none

/-- A highlight expiry is taken (R94). -/
def Display.expire (now : Time) (d : Display) : Display :=
  match d.expired now with
  | none => d
  | some c => (d.unhighlight c).enqueue c

/-! ### Sweeps and drops -/

/-- The link sweep (R95). -/
def Display.linkSweep (l : Nat) (d : Display) : Display :=
  d.enqueueAll (d.boundCells.filter fun c => decide (d.linkOf c = some l))

/-- The module sweep (R95). -/
def Display.moduleSweep (l m : Nat) (d : Display) : Display :=
  d.enqueueAll (d.boundCells.filter fun c => d.onModule l m c)

/-- The module drop (R95): the module's cells leave the link's repaint queue. -/
def Display.moduleDrop (l m : Nat) (d : Display) : Display :=
  let dropped := (d.queue l).filter fun c => decide ((d.cell c).address = m)
  let kept := (d.queue l).filter fun c => !decide ((d.cell c).address = m)
  (dropped.foldl (fun d c => d.setCell c { d.cell c with queued := false }) d).setQueue l kept

/-- The link takes the head cell of its repaint queue (R91): the cell, with its queued flag cleared. -/
def Display.takeHead (l : Nat) (d : Display) : Option (Nat × Display) :=
  match d.queue l with
  | [] => none
  | c :: cs => some (c, (d.setCell c { d.cell c with queued := false }).setQueue l cs)

/-! ### Defining and removing -/

/-- Two ranges of columns share a column (R81 check 6). -/
def columnsMeet (c1 w1 c2 w2 : Nat) : Bool := decide (c1 < c2 + w2 ∧ c2 < c1 + w1)

/-- Some BOUND cell on the same link, module and row covers a column of the requested field (R81 check 6). -/
def Display.cellOverlap (d : Display) (l m row column width : Nat) : Bool :=
  d.boundCells.any fun c =>
    d.onModule l m c && decide ((d.cell c).row = row)
      && columnsMeet (d.cell c).column (d.cell c).width column width

/-- Some other present panel shares a cell index with the range (R78 check 4). -/
def Display.panelOverlap (d : Display) (n base limit : Nat) : Bool :=
  d.panels.any fun e =>
    decide (e.1 ≠ n) && e.2.present && decide (e.2.base < base + limit ∧ base < e.2.base + e.2.limit)

/-- The guard of R85: a BOUND cell on the module lies outside the geometry the item would give it. -/
def Display.guards (d : Display) (l m : Nat) (configured : Bool) (rows columns : Nat) : Bool :=
  d.boundCells.any fun c =>
    d.onModule l m c &&
      (!configured || decide (rows < (d.cell c).row) ||
        decide (columns < (d.cell c).column + (d.cell c).width - 1))

/-- A panel's dark flag is set or cleared and its cells are visited (R86). -/
def Display.setDark (n : Nat) (dark : Bool) (d : Display) : Display :=
  let cells := d.cellsOfPanel (d.panel n)
  let d := d.setPanel n { d.panel n with dark := dark }
  let d := if dark then cells.foldl (fun d c => d.unhighlight c) d else d
  d.enqueueAll cells

/-- GO CONFIG empties the repaint queues and the highlight list (R96). -/
def Display.quiet (d : Display) : Display :=
  { d with
    repaint := []
    highlights := []
    cells := Table.mapValues Cell.vacant (fun c => { c with queued := false, expiry := none }) d.cells }

end Sys2Proof.Machine
end

