-- ==== Sys2Proof/Machine/Link.lean ====
section
/-! DEFINITION. The link controllers: the arbiter, the completion of messages, bring-up, lamp test (R99 to
R114), and the meanings of the link events. -/

namespace Sys2Proof.Machine

/-- How a cell is rendered when a link takes it: from the panel's dark flag and the cell record (R91). -/
abbrev Renderer := Bool → Cell → Text × Attribute

/-! ### The arbiter -/

/-- A module falls due for a keep-alive: UP, its last sent K x 500 ms or more before device time (R104). -/
def Module.keepAliveDue (holdSeconds : Nat) (now : Time) (e : Module) : Bool :=
  e.isUp &&
    match e.lastSent with
    | none => false
    | some t => decide (holdSeconds * 500 ≤ elapsed t now)

/-- A DOWN module falls due for a probe: owed nothing, its last sent present and at least one probe
interval before device time (R104). -/
def Module.probeDue (probeSeconds : Nat) (now : Time) (e : Module) : Bool :=
  decide (e.state = .down) && decide (e.owed = .nothing) &&
    match e.lastSent with
    | none => false
    | some t => decide (probeSeconds * 1000 ≤ elapsed t now)

/-- A module that the probe class offers (R104 class 2). -/
def Module.toProbe (probeSeconds : Nat) (now : Time) (e : Module) : Bool :=
  e.restartPending || e.probeDue probeSeconds now

/-- The message that carries what a module is owed (R104). -/
def Owed.message : Owed → Option Message
  | .nothing => none
  | .blank => some .blank
  | .pattern p => some (.pattern p)

/-- The message of a keep-alive: what the module is owed, else in TEST the test pattern, else HOLD (R104
class 1, R110). -/
def keepAliveMessage (st : LinkState) (e : Module) : Message :=
  match e.owed with
  | .blank => .blank
  | .pattern p => .pattern p
  | .nothing =>
    match st with
    | .test p => .pattern p
    | .off => .hold
    | .settling _ => .hold
    | .running => .hold

/-- The purpose of a message of the owed class (R101, R104 class 3). -/
def owedPurpose (st : LinkState) (o : Owed) : Purpose :=
  match o with
  | .pattern _ => .owedPattern
  | .nothing => .owedBlank
  | .blank =>
    match st with
    | .settling _ => .settleBlank
    | .off => .owedBlank
    | .running => .owedBlank
    | .test _ => .owedBlank

/-- The arbiter of the link may choose: the link is free, and SETTLING after the settle wait, RUNNING or in
TEST (R104). -/
def Link.mayChoose (v : Link) : Bool :=
  decide (v.line = .free) &&
    match v.state with
    | .off => false
    | .settling expiry => expiry.isNone
    | .running => true
    | .test _ => true

/-- A message is sent to a module: its frame goes out, and what sending clears is cleared (R101). -/
def Display.send (l : Nat) (m : Nat) (message : Message) (purpose : Purpose) (d : Display) : Display :=
  let v := d.link l
  let e := v.module m
  let e' : Module :=
    match purpose with
    | .write => e
    | .keepAlive => { e with owed := .nothing }
    | .probe => { e with restartPending := false }
    | .settleBlank => { e with owed := .nothing }
    | .owedBlank => { e with owed := .nothing }
    | .owedPattern => { e with owed := .nothing }
  d.setLink l { v.setModule m e' with line := .sending ⟨m, message, purpose, e.isUp⟩ }

/-- The repaint class: in RUNNING alone, the WRITE of the head cell of the link's repaint queue, rendered from the
record as it stands (R91, R104 class 4). A handoff on its way that names the cell has been taken before
(`State.handoffsFirst`, R93; the model's choice of the order, notes/assumptions/33.md). -/
def Display.sendCell (render : Renderer) (l : Nat) (d : Display) : Display :=
  if (d.link l).state = .running then
    match d.takeHead l with
    | none => d
    | some (c, d') =>
      let v := d.cell c
      let r := render (d.isDark c) v
      d'.send l v.address (.write v.row v.column r.2 r.1) .write
  else d

/-- The arbiter's choice, by class and then by lowest address (R104). A keep-alive that carries an owed BLANK or PATTERN
has the purpose keep-alive (notes/assumptions/34.md). -/
def Display.arbitrate (render : Renderer) (now : Time) (probeSeconds : Nat) (l : Nat) (d : Display) : Display :=
  let v := d.link l
  if v.mayChoose then
    match Table.first (Module.keepAliveDue v.holdSeconds now) v.modules with
    | some (m, e) => d.send l m (keepAliveMessage v.state e) .keepAlive
    | none =>
      match Table.first (Module.toProbe probeSeconds now) v.modules with
      | some (m, _) => d.send l m .hold .probe
      | none =>
        match Table.first (fun e => e.owed.message.isSome) v.modules with
        | some (m, e) => d.send l m (e.owed.message.getD .blank) (owedPurpose v.state e.owed)
        | none => d.sendCell render l
  else d

/-- After an action of the board engine, the arbiter of every link whose repaint queue was empty before
the action and is not after it makes its choice (R104; notes/assumptions/23.md). -/
def Display.wake (render : Renderer) (now : Time) (probeSeconds : Nat) (was d : Display) : Display :=
  [0, 1, 2, 3].foldl
    (fun d' l =>
      if (was.queue l).isEmpty && !(d.queue l).isEmpty then d'.arbitrate render now probeSeconds l else d')
    d

/-- The cell that the arbiter of the link would take now: the head of its repaint queue, where it may choose and no
class before the repaint class offers a message (R91, R104). -/
def Display.cellInTurn (now : Time) (probeSeconds : Nat) (d : Display) (l : Nat) : Option Nat :=
  let v := d.link l
  if v.mayChoose && decide (v.state = .running)
      && (Table.first (Module.keepAliveDue v.holdSeconds now) v.modules).isNone
      && (Table.first (Module.toProbe probeSeconds now) v.modules).isNone
      && (Table.first (fun e => e.owed.message.isSome) v.modules).isNone then
    (d.queue l).head?
  else none

/-- A handoff on its way names the cell, and its panel is lit (R88 step 1, R93). -/
def State.outstanding (s : State) (c : Nat) : Bool :=
  !s.display.isDark c && s.transit.boardChanges.any fun b => b.names (s.display.cell c).field

/-- One of the links would take a cell ahead of a handoff on its way that names it (R93). -/
def State.overtakes (ls : List Nat) (s : State) : Bool :=
  ls.any fun l => (s.display.cellInTurn s.now s.items.probeSeconds l).any s.outstanding

/-- Where one of the links would take a cell ahead of a handoff on its way that names it, the handoffs are taken first,
so that the one WRITE carries the changed value (R93; the model's choice of the order, notes/assumptions/33.md). -/
def State.handoffsFirst (ls : List Nat) (s : State) : State :=
  let u := if s.overtakes ls then s.boardCaughtUp else s
  { s with display := u.display, transit := u.transit }

/-- The links whose repaint queue was empty and is not any more (R104). -/
def Display.woken (was d : Display) : List Nat :=
  [0, 1, 2, 3].filter fun l => (was.queue l).isEmpty && !(d.queue l).isEmpty

/-- An action of the board engine within the part, with the arbiter choices it brings; a handoff that a link would
overtake comes before them. -/
def State.onBoard (f : Display → Display) (s : State) : State :=
  let t : State := { s with display := f s.display }
  let u := t.handoffsFirst (Display.woken s.display t.display)
  { u with display := Display.wake s.renderCell s.now s.items.probeSeconds s.display u.display }

/-- An action of a link controller that ends in the arbiter's choice on that link; a handoff that the link would
overtake comes before it, with the choices of the other links that it brings. -/
def State.onLink (l : Nat) (f : Display → Display) (s : State) : State :=
  let t : State := { s with display := f s.display }
  let u := t.handoffsFirst [l]
  let others := Display.wake s.renderCell s.now s.items.probeSeconds t.display u.display
  { u with display := others.arbitrate s.renderCell s.now s.items.probeSeconds l }

/-! ### Completion of a message -/

/-- The link is free again. -/
def Display.release (l : Nat) (d : Display) : Display := d.setLink l { d.link l with line := .free }

/-- What a module that has just answered a probe is owed (R102). -/
def owedAfterProbe (st : LinkState) (o : Owed) : Owed :=
  match st with
  | .test p => .pattern p
  | .off => o
  | .settling _ => o
  | .running => o

/-- SETTLING ends in this action: the link is SETTLING and no module of it is owed BLANK (R106). -/
def Link.settled (v : Link) : Bool :=
  (match v.state with
   | .settling _ => true
   | .off => false
   | .running => false
   | .test _ => false) && (Table.first (fun e => decide (e.owed = .blank)) v.modules).isNone

/-- After a settle BLANK has completed: where it was the last, the link is RUNNING and swept (R106). -/
def Display.endSettling (l : Nat) (d : Display) : Display :=
  if (d.link l).settled then (d.setLink l { d.link l with state := .running }).linkSweep l else d

/-- A message completes with its acknowledgement (R102). -/
def Display.acknowledged (l : Nat) (m : Sent) (d : Display) : Display :=
  let d := d.release l
  let v := d.link l
  let e := v.module m.address
  match m.purpose with
  | .write => d
  | .keepAlive => d
  | .owedBlank => d
  | .owedPattern => d
  | .settleBlank =>
    (d.setLink l (v.setModule m.address { e with state := .up, owed := .nothing })).endSettling l
  | .probe =>
    (d.setLink l (v.setModule m.address { e with state := .up, owed := owedAfterProbe v.state e.owed })).moduleSweep
      l m.address

/-- A module becomes DOWN on a timeout: what it is owed is cleared and its cells are dropped (R103). -/
def Display.takeDown (l m : Nat) (d : Display) : Display :=
  (d.setLink l ((d.link l).setModule m { (d.link l).module m with state := .down, owed := .nothing })).moduleDrop l m

/-- A message completes without acknowledgement (R103). -/
def Display.timedOut (l : Nat) (m : Sent) (d : Display) : Display :=
  let d := d.release l
  match m.purpose with
  | .settleBlank => d.endSettling l
  | .probe => if m.toUp then d.takeDown l m.address else d
  | .write => d.takeDown l m.address
  | .keepAlive => d.takeDown l m.address
  | .owedBlank => d.takeDown l m.address
  | .owedPattern => d.takeDown l m.address

/-- A timeout records MODULE_DOWN, but for the probe of a DOWN module (R103). -/
def Sent.recordsDown (m : Sent) : Bool := m.toUp || !decide (m.purpose = .probe)

/-- The message in flight on a link with its deadline (R99). -/
def Link.inFlight (v : Link) : Option (Sent × Time) :=
  match v.line with
  | .free => none
  | .sending _ => none
  | .inFlight m deadline => some (m, deadline)

/-! ### Bring-up, mode changes, lamp test -/

/-- Every entry of the module table that satisfies `p` is owed `o`. -/
def Link.owe (p : Module → Bool) (o : Owed) (v : Link) : Link :=
  { v with modules := Table.mapValues Module.reset (fun e => if p e then { e with owed := o } else e) v.modules }

/-- A configured module of an OFF link (R100). -/
def Module.rest (e : Module) : Module :=
  { e with
    state := if e.configured then .down else .unconfigured
    lastSent := none
    owed := .nothing
    restartPending := false }

/-- GO LIVE takes an enabled link to SETTLING, pulsing its reset line (R105). -/
def Link.goLive (now : Time) (v : Link) : Link :=
  if v.enabled then
    { v with state := .settling (some (later now Config.settleMs)), resetPulses := v.resetPulses + 1 }
  else v

/-- GO CONFIG takes a link to OFF (R107). -/
def Link.goConfig (v : Link) : Link :=
  { v with state := .off, line := .free, modules := Table.mapValues Module.reset Module.rest v.modules }

/-- The settle wait of a link has ended (R105, R106). -/
def Display.settleEnd (l : Nat) (d : Display) : Display :=
  (d.setLink l (Link.owe Module.configured .blank { d.link l with state := .settling none })).endSettling l

/-- The settle expiry of a link, present during its settle wait (R99). -/
def Link.settleExpiry (v : Link) : Option Time :=
  match v.state with
  | .settling expiry => expiry
  | .off => none
  | .running => none
  | .test _ => none

/-- LAMP TEST START on a link that is RUNNING or in TEST (R109). -/
def Link.startTest (p : LampPattern) (v : Link) : Link :=
  Link.owe Module.isUp (.pattern p) { v with state := .test p }

/-- LAMP TEST STOP on a link in TEST (R111). -/
def Display.stopTest (l : Nat) (d : Display) : Display :=
  (d.setLink l (Link.owe Module.isUp .blank { d.link l with state := .running })).linkSweep l

/-! ### Meanings of the link events -/

/-- FRAME_SENT (R101): the last byte of the frame on the link has been sent. -/
def execFrameSent (l : Fin 4) (s : State) : Host.Outcome State Fault Refusal :=
  let v := s.display.link l
  .next <|
    match v.line with
    | .free => s
    | .inFlight _ _ => s
    | .sending m =>
      let e := v.module m.address
      let v' := v.setModule m.address { e with lastSent := some s.now }
      { s with display := s.display.setLink l { v' with line := .inFlight m (later s.now v.ackTimeout) } }

/-- MODULE_ACKNOWLEDGEMENT (R102): it counts from the end of the frame to the deadline, the deadline's own
millisecond left out (notes/assumptions/6.md, 7.md). -/
def execModuleAcknowledgement (l : Fin 4) (ack check : Byte) (s : State) : Host.Outcome State Fault Refusal :=
  .next <|
    match (s.display.link l).inFlight with
    | none => s
    | some (m, deadline) =>
      if ackAddress ack check = some m.address ∧ reached deadline s.now = false then
        s.onLink l fun d => d.acknowledged l m
      else s

/-- MODULE_ACK_TIMEOUT (R103); while no deadline is reached it changes nothing (notes/assumptions/5.md). -/
def execModuleAckTimeout (l : Fin 4) (s : State) : Host.Outcome State Fault Refusal :=
  .next <|
    match (s.display.link l).inFlight with
    | none => s
    | some (m, deadline) =>
      if reached deadline s.now then
        let t := s.onLink l fun d => d.timedOut l m
        if m.recordsDown then t.record .supervisor .moduleDown else t
      else s

/-- KEEP_ALIVE_DUE (R104): the module is due and the arbiter of the free link chooses; a module that is not due
changes nothing (notes/assumptions/5.md). -/
def execKeepAliveDue (l : Fin 4) (m : Fin 32) (s : State) : Host.Outcome State Fault Refusal :=
  let v := s.display.link l
  .next <| if (v.module m).keepAliveDue v.holdSeconds s.now then s.onLink l id else s

/-- PROBE_DUE (R104): the DOWN module is due and the arbiter of the free link chooses; a module that is not due
changes nothing (notes/assumptions/5.md). -/
def execProbeDue (l : Fin 4) (m : Fin 32) (s : State) : Host.Outcome State Fault Refusal :=
  let v := s.display.link l
  .next <| if (v.module m).probeDue s.items.probeSeconds s.now then s.onLink l id else s

/-- SETTLE_EXPIRY (R105); while no expiry is reached it changes nothing (notes/assumptions/5.md). -/
def execSettleExpiry (l : Fin 4) (s : State) : Host.Outcome State Fault Refusal :=
  .next <|
    match (s.display.link l).settleExpiry with
    | none => s
    | some t => if reached t s.now then s.onLink l fun d => d.settleEnd l else s

/-! ### Meanings of the board engine's events -/

/-- BOARD_HANDOFF (R88, R89): the oldest changed-field set on its way is taken. -/
def execBoardHandoff (s : State) : Host.Outcome State Fault Refusal :=
  .next <|
    match s.transit.boardChanges with
    | [] => s
    | b :: rest =>
      { s with transit := { s.transit with boardChanges := rest } }.onBoard fun d => s.takeChange d b

/-- MINUTE_CHANGE (R90): the CLOCK cells are queued. -/
def execMinuteChange (s : State) : Host.Outcome State Fault Refusal :=
  .next <|
    match s.transit.minuteChanges with
    | 0 => s
    | n + 1 =>
      { s with transit := { s.transit with minuteChanges := n } }.onBoard
        fun d => d.deviceChange fun f => decide (f = CellField.clock)

/-- SESSION_CHANGE (R90): the MARKET cells are queued. -/
def execSessionChange (s : State) : Host.Outcome State Fault Refusal :=
  .next <|
    match s.transit.sessionChanges with
    | 0 => s
    | n + 1 =>
      { s with transit := { s.transit with sessionChanges := n } }.onBoard
        fun d => d.deviceChange fun f => decide (f = CellField.market)

/-- The TAPE_STATE cells that a change of a ribbon's late state queues: those naming it, and while JOINED
those naming either ribbon (R90). -/
def CellField.showsTape (joined : Bool) (r : Nat) : CellField → Bool
  | .tapeState n => joined || decide (n = r)
  | .instrument _ _ => false
  | .clock => false
  | .market => false

/-- TAPE_STATE_CHANGE (R90). -/
def execTapeStateChange (s : State) : Host.Outcome State Fault Refusal :=
  .next <|
    match s.transit.tapeChanges with
    | [] => s
    | r :: rest =>
      { s with transit := { s.transit with tapeChanges := rest } }.onBoard
        fun d => d.deviceChange (CellField.showsTape s.items.joined r)

/-- HIGHLIGHT_EXPIRY (R94): the head of the highlight list runs out; while its expiry is not reached the row changes
nothing (notes/assumptions/5.md). -/
def execHighlightExpiry (s : State) : Host.Outcome State Fault Refusal :=
  .next <| s.onBoard fun d => d.expire s.now

end Sys2Proof.Machine
end

