-- ==== Sys2Proof/Machine/BoardRequests.lean ====
section
/-! DEFINITION. The requests on panels and cells (R78 to R86) and on board links (R108 to R112). -/

namespace Sys2Proof.Machine

/-! ### Panels -/

/-- The checks of DEFINE PANEL (R78). -/
def definePanelCheck (ops : List Word) (s : State) : Option Answer :=
  let n := operand ops 0
  let base := operand ops 2
  let limit := operand ops 3
  firstRefusal
    [(decide (ops.length ≠ 4) || decide (63 < n) || decide (3 < operand ops 1)
        || decide (Config.cellCount ≤ base) || decide (limit = 0) || decide (Config.cellCount < limit),
      .malformed),
     ((s.display.panel n).present, .inUse),
     (decide (Config.cellCount < base + limit), .outOfRange),
     (s.display.panelOverlap n base limit, .overlap)]

/-- DEFINE PANEL (R78). -/
def definePanelEngine : Engine :=
  checked definePanelCheck fun ops s =>
    done { s with display := s.display.setPanel (operand ops 0)
                    ⟨true, operand ops 1, operand ops 2, operand ops 3, false⟩ }

/-- The checks that the requests on a present panel begin with (R79, R86). -/
def panelChecks (ops : List Word) (s : State) : List (Bool × Answer) :=
  [(decide (ops.length ≠ 1) || decide (63 < operand ops 0), .malformed),
   (!(s.display.panel (operand ops 0)).present, .notPresent)]

/-- The checks of REMOVE PANEL (R79). -/
def removePanelCheck (ops : List Word) (s : State) : Option Answer :=
  firstRefusal
    (panelChecks ops s
      ++ [(!(s.display.cellsOfPanel (s.display.panel (operand ops 0))).isEmpty, .inUse)])

/-- REMOVE PANEL (R79). -/
def removePanelEngine : Engine :=
  checked removePanelCheck fun ops s =>
    done { s with display := s.display.setPanel (operand ops 0) Panel.absent }

/-- PANEL DARK and PANEL LIGHT (R86); a flag that stands as asked is left with all else. -/
def darkEngine (dark : Bool) : Engine :=
  checked (fun ops s => firstRefusal (panelChecks ops s)) fun ops s =>
    if (s.display.panel (operand ops 0)).dark = dark then done s
    else done (s.onBoard fun d => d.setDark (operand ops 0) dark)

/-- PANEL DARK (R86). -/
def panelDarkEngine : Engine := darkEngine true

/-- PANEL LIGHT (R86). -/
def panelLightEngine : Engine := darkEngine false

/-! ### Cells -/

/-- The justification code (R172). -/
def Justification.ofCode : Nat → Option Justification
  | 0 => some .right
  | 1 => some .left
  | _ => none

/-- The field is an instrument field (R80). -/
def CellField.isInstrument : CellField → Bool
  | .instrument _ _ => true
  | .clock => false
  | .market => false
  | .tapeState _ => false

/-- The geometry operands of DEFINE CELL are refused (R81 check 1). -/
def badCellPlace (ops : List Word) : Bool :=
  decide (Config.cellCount ≤ operand ops 0) || decide (31 < operand ops 1) || decide (operand ops 2 = 0)
    || decide (4 < operand ops 2) || decide (operand ops 3 = 0) || decide (40 < operand ops 3)
    || decide (operand ops 4 = 0) || decide (16 < operand ops 4)

/-- The field, justification and policy operands of DEFINE CELL; none where they are refused (R81 check 1). -/
def cellContent (ops : List Word) : Option (CellField × Justification × Bool) :=
  match CellField.ofCode (operand ops 5) (operand ops 6), Justification.ofCode (operand ops 7),
      flagOperand ops 8 with
  | some f, some j, some onChange => if onChange && !f.isInstrument then none else some (f, j, onChange)
  | _, _, _ => none

/-- Checks 2 to 6 of DEFINE CELL, on the panel that holds the cell's index (R81). -/
def cellPlaceCheck (ops : List Word) (p : Panel) (d : Display) : Option Answer :=
  let m := (d.link p.link).module (operand ops 1)
  firstRefusal
    [((d.cell (operand ops 0)).bound, .inUse),
     (!m.configured, .outOfRange),
     (decide (m.rows < operand ops 2) || decide (m.columns < operand ops 3 + operand ops 4 - 1), .outOfRange),
     (d.cellOverlap p.link (operand ops 1) (operand ops 2) (operand ops 3) (operand ops 4), .overlap)]

/-- The checks of DEFINE CELL (R81). -/
def defineCellCheck (ops : List Word) (s : State) : Option Answer :=
  if ops.length ≠ 9 || badCellPlace ops || (cellContent ops).isNone then some .malformed
  else
    match s.display.panelOf (operand ops 0) with
    | none => some .notPresent
    | some p => cellPlaceCheck ops p s.display

/-- The head of the binding list that a field belongs to (R84). -/
def State.bindingHead (s : State) : CellField → Option Nat
  | .instrument _ i => (s.instr i).bindHead
  | .clock => s.display.deviceHead
  | .market => s.display.deviceHead
  | .tapeState _ => s.display.deviceHead

/-- Write the head of the binding list that a field belongs to (R84). -/
def State.setBindingHead (f : CellField) (h : Option Nat) (s : State) : State :=
  match f with
  | .instrument _ i => s.setInstr i { s.instr i with bindHead := h }
  | .clock => { s with display := { s.display with deviceHead := h } }
  | .market => { s with display := { s.display with deviceHead := h } }
  | .tapeState _ => { s with display := { s.display with deviceHead := h } }

/-- The record that DEFINE CELL binds, before the cell that headed its list (R82). -/
def definedCell (ops : List Word) (next : Option Nat) : Cell :=
  match cellContent ops with
  | none => Cell.vacant
  | some (f, j, onChange) =>
    { bound := true
      address := operand ops 1
      row := operand ops 2
      column := operand ops 3
      width := operand ops 4
      field := f
      justification := j
      onChange := onChange
      next := next
      queued := false
      expiry := none }

/-- A cell is bound, and appended when it is paintable and its panel is not dark (R82). -/
def Display.bind (c : Nat) (v : Cell) (d : Display) : Display :=
  let d' := d.setCell c v
  if d'.isDark c then d' else d'.enqueue c

/-- DEFINE CELL (R81, R82). -/
def defineCellEngine : Engine :=
  checked defineCellCheck fun ops s =>
    let c := operand ops 0
    let f := (definedCell ops none).field
    done ((s.setBindingHead f (some c)).onBoard fun d => d.bind c (definedCell ops (s.bindingHead f)))

/-- The checks of REMOVE CELL (R83). -/
def removeCellCheck (ops : List Word) (s : State) : Option Answer :=
  firstRefusal
    [(decide (ops.length ≠ 1) || decide (Config.cellCount ≤ operand ops 0), .malformed),
     (!(s.display.cell (operand ops 0)).bound, .notPresent)]

/-- The predecessor of a cell in the binding list with the given head takes the cell's next (R83 step 1). -/
def Display.unlink (head : Option Nat) (c : Nat) (d : Display) : Display :=
  match d.before head c with
  | none => d
  | some b => d.setCell b { d.cell b with next := (d.cell c).next }

/-- A cell leaves the repaint queue of its link (R83 step 2). -/
def Display.dequeue (c : Nat) (d : Display) : Display :=
  match d.linkOf c with
  | none => d
  | some l => d.setQueue l (setErase c (d.queue l))

/-- A cell leaves its queue and the highlight list and becomes VACANT (R83). -/
def Display.unbind (head : Option Nat) (c : Nat) (d : Display) : Display :=
  let d' := (d.unlink head c).dequeue c
  { d'.setCell c Cell.vacant with highlights := setErase c d'.highlights }

/-- REMOVE CELL (R83). -/
def removeCellEngine : Engine :=
  checked removeCellCheck fun ops s =>
    let c := operand ops 0
    let v := s.display.cell c
    let head := s.bindingHead v.field
    let t := if head = some c then s.setBindingHead v.field v.next else s
    done { t with display := t.display.unbind head c }

/-! ### Links -/

/-- A link is in its SETTLING state (R99). -/
def Link.isSettling (v : Link) : Bool :=
  match v.state with
  | .settling _ => true
  | .off => false
  | .running => false
  | .test _ => false

/-- The checks that MODULE RESTART and the lamp tests begin with (R108, R109, R111). -/
def linkChecks (n : Nat) (bad : Bool) (ops : List Word) (s : State) : List (Bool × Answer) :=
  [(decide (ops.length ≠ n) || decide (3 < operand ops 0) || bad, .malformed),
   (decide (s.mode = .config), .notLive),
   ((s.display.link (operand ops 0)).isOff, .outOfRange)]

/-- The check that a link is not SETTLING (R108). -/
def settlingCheck (ops : List Word) (s : State) : List (Bool × Answer) :=
  [((s.display.link (operand ops 0)).isSettling, .busy)]

/-- The checks of MODULE RESTART (R108). -/
def moduleRestartCheck (ops : List Word) (s : State) : Option Answer :=
  firstRefusal
    (linkChecks 2 (decide (31 < operand ops 1)) ops s
      ++ [(!((s.display.link (operand ops 0)).module (operand ops 1)).configured, .outOfRange)]
      ++ settlingCheck ops s)

/-- A module's restart pending is set (R108). -/
def Link.askRestart (m : Nat) (v : Link) : Link := v.setModule m { v.module m with restartPending := true }

/-- MODULE RESTART (R108); the probe goes out at once where the link is free. -/
def moduleRestartEngine : Engine :=
  checked moduleRestartCheck fun ops s =>
    let l := operand ops 0
    done (s.onLink l fun d => d.setLink l ((d.link l).askRestart (operand ops 1)))

/-- The checks of LAMP TEST START (R109). -/
def lampTestStartCheck (ops : List Word) (s : State) : Option Answer :=
  firstRefusal (linkChecks 2 (decide (3 < operand ops 1)) ops s ++ settlingCheck ops s)

/-- LAMP TEST START (R109). -/
def lampTestStartEngine : Engine :=
  checked lampTestStartCheck fun ops s =>
    let l := operand ops 0
    let p := (LampPattern.ofCode (operand ops 1)).getD .allLit
    done (s.onLink l fun d => d.setLink l ((d.link l).startTest p))

/-- The checks of LAMP TEST STOP (R111). -/
def lampTestStopCheck (ops : List Word) (s : State) : Option Answer :=
  firstRefusal (linkChecks 1 false ops s ++ settlingCheck ops s)

/-- LAMP TEST STOP (R111); on a RUNNING link nothing changes. -/
def lampTestStopEngine : Engine :=
  checked lampTestStopCheck fun ops s =>
    let l := operand ops 0
    match (s.display.link l).state with
    | .test _ => done (s.onLink l fun d => d.stopTest l)
    | .off => done s
    | .settling _ => done s
    | .running => done s

/-- The link state code with the pattern of the READ LINK reply (R174). -/
def linkStateWord : LinkState → Nat
  | .off => 0
  | .settling _ => 1
  | .running => 2
  | .test p => 3 + 16 * p.code + 128

/-- The module nibble of the READ LINK reply (R174). -/
def Module.nibble (e : Module) : Nat :=
  (match e.state with
   | .unconfigured => 0
   | .up => 1
   | .down => 2) + bit 4 e.restartPending

/-- Four modules of the READ LINK reply, the lowest address in the highest nibble (R174). -/
def Link.nibbles (v : Link) (k : Nat) : Nat :=
  4096 * (v.module (4 * k)).nibble + 256 * (v.module (4 * k + 1)).nibble
    + 16 * (v.module (4 * k + 2)).nibble + (v.module (4 * k + 3)).nibble

/-- The nine words of the READ LINK reply (R112, R174). -/
def linkWords (v : Link) : List Word :=
  word (linkStateWord v.state) :: [0, 1, 2, 3, 4, 5, 6, 7].map fun k => word (v.nibbles k)

/-- READ LINK (R112). -/
def readLinkEngine : Engine :=
  checked
    (fun ops _ => firstRefusal [(decide (ops.length ≠ 1) || decide (3 < operand ops 0), .malformed)])
    fun ops s => doneWith (linkWords (s.display.link (operand ops 0))) s

end Sys2Proof.Machine
end

