-- ==== Sys2Proof/Machine/Page.lean ====
section
/-! DEFINITION. The page engine: stores, selectors, contexts, viewer sets, and the reading of lines (R136 to
R151), and the meaning of PAGE_HANDOFF. -/

namespace Sys2Proof.Machine

/-! ### Reading and writing the stores -/

/-- The descriptor of a slot. -/
def State.descriptor (s : State) (slot : Nat) : Descriptor :=
  Table.get Descriptor.invalid s.pages.descriptors slot

/-- The content of a line of the line store. -/
def State.line (s : State) (n : Nat) : Option LineContent := Table.get none s.pages.lines n

/-- Write a line of the line store (R138). -/
def State.setLine (n : Nat) (c : Option LineContent) (s : State) : State :=
  { s with pages := { s.pages with lines := Table.put none s.pages.lines n c } }

/-- The context of a terminal. -/
def State.context (s : State) (t : Nat) : Context := Table.get Context.reset s.pages.contexts t

/-- Write the context of a terminal. -/
def State.setContext (t : Nat) (c : Context) (s : State) : State :=
  { s with pages := { s.pages with contexts := Table.put Context.reset s.pages.contexts t c } }

/-- A terminal number is above 63. -/
def badTerminal (ops : List Word) : Bool := decide (Config.terminalCount ≤ operand ops 0)

/-- NOT_LIVE of a T-port request, ahead of every other check of its engine (Requests of the page engine,
after R140). -/
def liveOnly (body : Engine) : Engine := fun ops s => if s.mode = .config then refuse .notLive s else body ops s

/-! ### The supervisor's requests -/

/-- The operands of WRITE DESCRIPTOR that its kind makes examined are refused MALFORMED (R137 check 1;
notes/assumptions/20.md). -/
def badDescriptor (ops : List Word) : Bool :=
  let common := decide (Config.slotCount ≤ operand ops 0) || (flagOperand ops 2).isNone
  let ranged := decide (2 < operand ops 3) || decide (operand ops 5 = 0) || decide (16 < operand ops 5)
  match DescriptorKind.ofCode (operand ops 1) with
  | none => true
  | some .invalid => common
  | some .page => common || ranged || decide (Config.lineCount ≤ operand ops 4)
  | some .localTable => common || ranged || decide (Config.slotCount ≤ operand ops 4)

/-- Check 3 of WRITE DESCRIPTOR fails (R137). -/
def descriptorOut (kind : DescriptorKind) (base limit : Nat) : Bool :=
  match kind with
  | .invalid => false
  | .page => decide (Config.lineCount < base + limit)
  | .localTable => decide (base < Config.globalSlots) || decide (Config.slotCount < base + limit)

/-- The kind that WRITE DESCRIPTOR writes. -/
def kindOperand (ops : List Word) : DescriptorKind := (DescriptorKind.ofCode (operand ops 1)).getD .invalid

/-- The checks of WRITE DESCRIPTOR (R137). -/
def writeDescriptorCheck (ops : List Word) : Option Answer :=
  firstRefusal
    [(decide (ops.length ≠ 6) || badDescriptor ops, .malformed),
     (decide (kindOperand ops = .localTable) && decide (Config.globalSlots ≤ operand ops 0), .wrongKind),
     (descriptorOut (kindOperand ops) (operand ops 4) (operand ops 5), .outOfRange)]

/-- The descriptor that WRITE DESCRIPTOR writes (R136, R137). -/
def writtenDescriptor (ops : List Word) : Descriptor :=
  match kindOperand ops with
  | .invalid => Descriptor.invalid
  | .page => ⟨.page, (flagOperand ops 2).getD false, operand ops 3, operand ops 4, operand ops 5⟩
  | .localTable => ⟨.localTable, (flagOperand ops 2).getD false, operand ops 3, operand ops 4, operand ops 5⟩

/-- WRITE DESCRIPTOR (R137). -/
def writeDescriptorEngine : Engine :=
  checked (fun ops _ => writeDescriptorCheck ops) fun ops s =>
    let ds := Table.put Descriptor.invalid s.pages.descriptors (operand ops 0) (writtenDescriptor ops)
    done { s with pages := { s.pages with descriptors := ds } }

/-- The checks of WRITE LINE (R138). -/
def writeLineCheck (ops : List Word) : Option Answer :=
  firstRefusal
    [(decide (ops.length ≠ 4) || decide (Config.lineCount ≤ operand ops 0) || (contentOperand ops 1).isNone,
      .malformed)]

/-- WRITE LINE (R138). -/
def writeLineEngine : Engine :=
  checked (fun ops _ => writeLineCheck ops) fun ops s =>
    done (s.setLine (operand ops 0) ((contentOperand ops 1).getD none))

/-! ### Selectors -/

/-- Steps 2 to 4 of the resolution of a selector: the slot it names (R139). -/
def Selector.slot (c : Context) (x : Selector) : Except Answer Nat :=
  if x.isLocal then
    match c.localTable with
    | none => .error .noLocalTable
    | some t => if t.limit ≤ x.index then .error .outOfRange else .ok (t.base + x.index)
  else .ok x.index

/-- Steps 5 and 6: the descriptor of a slot, when it is a present page (R139). -/
def Descriptor.asPage (d : Descriptor) : Except Answer Descriptor :=
  if !d.present then .error .notPresent
  else if d.kind = .page then .ok d
  else .error .wrongKind

/-- A selector resolved against the descriptor store and a terminal's context (R139). -/
def State.resolve (s : State) (t : Nat) (x : Option Selector) : Except Answer Descriptor :=
  match x with
  | none => .error .malformed
  | some x =>
    match x.slot (s.context t) with
    | .error a => .error a
    | .ok slot => (s.descriptor slot).asPage

/-! ### Opening and closing -/

/-- The checks of SET LOCAL TABLE (R141). -/
def setLocalTableCheck (ops : List Word) (s : State) : Option Answer :=
  let d := s.descriptor (operand ops 1)
  firstRefusal
    [(decide (ops.length ≠ 2) || badTerminal ops || decide (Config.globalSlots ≤ operand ops 1), .malformed),
     (!d.present, .notPresent),
     (decide (d.kind ≠ .localTable), .wrongKind)]

/-- SET LOCAL TABLE (R141). -/
def setLocalTableEngine : Engine :=
  liveOnly (checked setLocalTableCheck fun ops s =>
    let t := operand ops 0
    let d := s.descriptor (operand ops 1)
    done (s.setContext t { s.context t with localTable := some ⟨d.base, d.limit, d.rank⟩ }))

/-- The instrument indices that a snapshot names (R143). -/
def namedIndices (lines : List (Option LineContent)) : List Nat := lines.filterMap fun c => c.map (·.index)

/-- The viewer sets of a list of instruments changed by `f` (R145). -/
def State.changeViewers (f : List Nat → List Nat) (is : List Nat) (s : State) : State :=
  is.foldl (fun s i => s.setInstr i { s.instr i with viewers := f (s.instr i).viewers }) s

/-- The open page of a terminal is closed; a CLOSED terminal is left as it is (R144). -/
def State.closePage (t : Nat) (s : State) : State :=
  match (s.context t).page with
  | none => s
  | some p =>
    (s.changeViewers (setErase t) (namedIndices p.snapshot)).setContext t { s.context t with page := none }

/-- The offsets of the lines of a snapshot that are not blank, in ascending order. -/
def writtenOffsets (lines : List (Option LineContent)) : List Nat :=
  (List.range lines.length).filter fun k => (lines.getD k none).isSome

/-- The lines of a page (R143 step 2). -/
def State.pageLines (s : State) (d : Descriptor) : List (Option LineContent) :=
  (List.range d.limit).map fun k => s.line (d.base + k)

/-- A page is opened at a terminal (R143). -/
def State.openPage (t : Nat) (x : Selector) (d : Descriptor) (s : State) : State :=
  let lines := s.pageLines d
  let dirty := writtenOffsets lines
  let closed := s.closePage t
  let joined := closed.changeViewers (setInsert t) (namedIndices lines)
  let opened := joined.setContext t { closed.context t with page := some ⟨x, lines, dirty⟩ }
  if dirty.isEmpty then opened else opened.tell [t]

/-- OPEN PAGE (R142, R143). -/
def openPageEngine : Engine :=
  liveOnly fun ops s =>
    if ops.length ≠ 3 || badTerminal ops then refuse .malformed s
    else
      match selectorOperand ops 1, s.resolve (operand ops 0) (selectorOperand ops 1) with
      | some x, .ok d => done (s.openPage (operand ops 0) x d)
      | _, .error a => refuse a s
      | none, .ok _ => refuse .malformed s

/-- The checks and the action of CLOSE PAGE at either port (R144). -/
def closePageBody : Engine :=
  checked (fun ops _ => firstRefusal [(decide (ops.length ≠ 1) || badTerminal ops, .malformed)]) fun ops s =>
    done (s.closePage (operand ops 0))

/-- CLOSE PAGE (R144): NOT_LIVE in CONFIG at the T-port alone. -/
def closePageEngine (p : PortId) : Engine := if p = .terminal then liveOnly closePageBody else closePageBody

/-! ### Writing lines through a page -/

/-- Check 1 of WRITE PAGE LINE fails (R146). -/
def badPageLine (ops : List Word) : Bool :=
  decide (ops.length ≠ 7) || badTerminal ops || decide (15 < operand ops 3) || (contentOperand ops 4).isNone

/-- The rank of the local-table cache stands in the way of the T-port (R146 check 4). -/
def cacheRankLow (c : Context) (x : Selector) : Bool :=
  x.isLocal && c.localTable.any fun t => decide (t.rank < PortId.terminal.rank)

/-- The checks of WRITE PAGE LINE after the resolution of its selector (R146). -/
def pageLineCheck (ops : List Word) (c : Context) (x : Selector) (d : Descriptor) : Option Answer :=
  firstRefusal
    [(decide (d.limit ≤ operand ops 3), .outOfRange),
     (decide (d.rank < PortId.terminal.rank) || cacheRankLow c x, .rank)]

/-- WRITE PAGE LINE (R146); a refusal RANK records RANK at the T-port. -/
def writePageLineEngine : Engine :=
  liveOnly fun ops s =>
    if badPageLine ops then refuse .malformed s
    else
      match selectorOperand ops 1, s.resolve (operand ops 0) (selectorOperand ops 1) with
      | some x, .ok d =>
        match pageLineCheck ops (s.context (operand ops 0)) x d with
        | some .rank => refuse .rank (s.record .terminal .rank)
        | some a => refuse a s
        | none => done (s.setLine (d.base + operand ops 3) ((contentOperand ops 4).getD none))
      | _, .error a => refuse a s
      | none, .ok _ => refuse .malformed s

/-! ### Changes reaching pages -/

/-- The field kinds a format shows (R147). -/
def LineFormat.fields : LineFormat → List Field
  | .full => [.symbol, .last, .netChange, .tick, .volume, .status]
  | .quote => [.symbol, .bid, .ask, .bidSize, .askSize, .status]
  | .range => [.symbol, .opening, .high, .low, .status]

/-- A snapshot line is marked by a handoff: it names the instrument and its format shows a changed field
(R147). -/
def LineContent.marked (b : PageChange) (c : LineContent) : Bool :=
  decide (c.index = b.index) && c.format.fields.any fun f => b.fields.contains f

/-- The dirty set of a page after a handoff's marks (R147). -/
def OpenPage.markedDirty (b : PageChange) (p : OpenPage) : List Nat :=
  (List.range p.snapshot.length).filter fun k =>
    p.dirty.contains k || (p.snapshot.getD k none).any fun c => c.marked b

/-- A handoff at one terminal of the viewer set; the notice unit is told of a dirty set that was empty
(R147). -/
def State.markTerminal (b : PageChange) (s : State) (t : Nat) : State :=
  match (s.context t).page with
  | none => s
  | some p =>
    let dirty := p.markedDirty b
    let marked := s.setContext t { s.context t with page := some { p with dirty := dirty } }
    if p.dirty.isEmpty && !dirty.isEmpty then marked.tell [t] else marked

/-- One handoff at the page engine: the marks at every terminal of the viewer set (R147). -/
def State.takePageChange (b : PageChange) (s : State) : State :=
  (s.instr b.index).viewers.foldl (State.markTerminal b) s

/-- Handoffs taken one after another, those of `rest` staying on their way until their turn (R147). -/
def State.takePageChanges : List PageChange → State → State
  | [], s => s
  | b :: rest, s =>
    State.takePageChanges rest
      (State.takePageChange b { s with transit := { s.transit with pageChanges := rest } })

/-- Every handoff on its way to the page engine is taken, oldest first (R151; notes/assumptions/33.md). -/
def State.pagesCaughtUp (s : State) : State := State.takePageChanges s.transit.pageChanges s

/-- PAGE_HANDOFF (R147): the oldest changed-field set on its way is taken. -/
def execPageHandoff (s : State) : Host.Outcome State Fault Refusal :=
  .next <|
    match s.transit.pageChanges with
    | [] => s
    | b :: rest => State.takePageChange b { s with transit := { s.transit with pageChanges := rest } }

/-! ### Reading lines -/

/-- The words of the READ CHANGED LINE and READ LINE replies (R148, R174). -/
def State.lineWords (s : State) (p : OpenPage) (offset left : Nat) : List Word :=
  wordOf (if p.selector.isLocal then 1 else 0) (BitVec.ofNat 8 p.selector.index)
    :: wordOf (BitVec.ofNat 8 offset) (BitVec.ofNat 8 left)
    :: packBytes (s.lineText (p.snapshot.getD offset none))

/-- The line that READ CHANGED LINE returns next, and what taking it leaves; none with an empty dirty set or a CLOSED
terminal (R148). -/
def State.takeLine (t : Nat) (s : State) : Option Result :=
  match (s.context t).page with
  | none => none
  | some p =>
    match p.dirty with
    | [] => none
    | k :: rest =>
      some (doneWith (s.lineWords p k rest.length)
        (s.setContext t { s.context t with page := some { p with dirty := rest } }))

/-- A read of changed lines would return a line ahead of a handoff on its way that marks it (R151). -/
def State.readOvertakes (t : Nat) (s : State) : Bool :=
  (s.context t).page.any fun p =>
    p.dirty.head?.any fun k =>
      (p.snapshot.getD k none).any fun c => s.transit.pageChanges.any fun b => c.marked b

/-- The action of READ CHANGED LINE on a good terminal number (R148). Where it would return a line ahead of a handoff
on its way that marks it, the handoffs are taken first, so that the line holds the changed values and is marked once
(R151; the model's choice of the order, notes/assumptions/33.md). -/
def State.readChanged (t : Nat) (s : State) : Result :=
  ((if s.readOvertakes t then s.pagesCaughtUp else s).takeLine t).getD (refuse .noLine s)

/-- READ CHANGED LINE (R148). -/
def readChangedLineEngine : Engine :=
  liveOnly (checked (fun ops _ => firstRefusal [(decide (ops.length ≠ 1) || badTerminal ops, .malformed)])
    fun ops s => s.readChanged (operand ops 0))

/-- READ LINE (R149). -/
def readLineEngine : Engine :=
  liveOnly (checked
    (fun ops _ =>
      firstRefusal [(decide (ops.length ≠ 2) || badTerminal ops || decide (15 < operand ops 1), .malformed)])
    fun ops s =>
      match (s.context (operand ops 0)).page with
      | none => refuse .notPresent s
      | some p =>
        if p.snapshot.length ≤ operand ops 1 then refuse .outOfRange s
        else doneWith (s.lineWords p (operand ops 1) p.dirty.length) s)

end Sys2Proof.Machine
end

