-- ==== Sys2Proof/Machine/Notice.lean ====
section
/-! DEFINITION. The notice unit: masks, pending set, notice queue (R153 to R157), and the meaning of
NOTICE_RAISE. -/

namespace Sys2Proof.Machine

/-- The entry mask of a terminal (R153). -/
def Notices.mask (n : Notices) (t : Nat) : Bool := Table.get false n.masks t

/-- A terminal is masked (R153). -/
def Notices.masked (n : Notices) (t : Nat) : Bool := n.globalMask || n.mask t

/-- A raise is taken (R154). -/
def Notices.raise (t : Nat) (n : Notices) : Notices :=
  if n.queue.contains t || n.waiting.contains t then n
  else if n.masked t then { n with waiting := setInsert t n.waiting }
  else { n with queue := n.queue ++ [t] }

/-- An entry mask takes a value (R155); a pending terminal that the clearing leaves unmasked is released
(R156). -/
def Notices.setEntry (t : Nat) (value : Bool) (n : Notices) : Notices :=
  if n.mask t = value then n
  else
    let n' := { n with masks := Table.put false n.masks t value }
    if !value && !n.globalMask && n.waiting.contains t then
      { n' with waiting := setErase t n.waiting, queue := n.queue ++ [t] }
    else n'

/-- The global mask takes a value (R155); every pending terminal that the clearing leaves unmasked is
released, in ascending terminal number (R156). -/
def Notices.setGlobal (value : Bool) (n : Notices) : Notices :=
  if n.globalMask = value then n
  else if value then { n with globalMask := true }
  else
    { n with
      globalMask := false
      waiting := n.waiting.filter fun t => n.mask t
      queue := n.queue ++ n.waiting.filter fun t => !n.mask t }

/-- Write the notice unit's state. -/
def State.setNotices (n : Notices) (s : State) : State := { s with notices := n }

/-- Check 3 of SET NOTICE MASK fails (R155). -/
def badMask (ops : List Word) : Bool :=
  decide (ops.length ≠ 3) || (flagOperand ops 2).isNone ||
    match flagOperand ops 0 with
    | none => true
    | some true => false
    | some false => decide (Config.terminalCount ≤ operand ops 1)

/-- The notice unit after SET NOTICE MASK (R155, R156). -/
def Notices.setMask (ops : List Word) (n : Notices) : Notices :=
  let value := (flagOperand ops 2).getD false
  if (flagOperand ops 0).getD false then n.setGlobal value else n.setEntry (operand ops 1) value

/-- SET NOTICE MASK (R155). -/
def setNoticeMaskEngine : Engine :=
  liveOnly (checked (fun ops _ => firstRefusal [(badMask ops, .malformed)]) fun ops s =>
    let n := s.notices.setMask ops
    doneWith [word n.queue.length] (s.setNotices n))

/-- The action of TAKE NOTICE (R157). -/
def State.takeHead (s : State) : Result :=
  match s.notices.queue with
  | [] => refuse .empty s
  | t :: rest => doneWith [word t, word rest.length] (s.setNotices { s.notices with queue := rest })

/-- TAKE NOTICE (R157). -/
def takeNoticeEngine : Engine :=
  liveOnly (checked (fun ops _ => firstRefusal [(decide (ops.length ≠ 0), .malformed)]) fun _ s => s.takeHead)

/-- NOTICE_RAISE (R154): the oldest raise on its way is taken. -/
def execNoticeRaise (s : State) : Host.Outcome State Fault Refusal :=
  .next <|
    match s.transit.raises with
    | [] => s
    | t :: rest => { s with transit := { s.transit with raises := rest }, notices := s.notices.raise t }

end Sys2Proof.Machine
end

