-- ==== Sys2Proof/Machine/RibbonRequests.lean ====
section
/-! DEFINITION. The requests on ribbons (R130, R131, R133). -/

namespace Sys2Proof.Machine

/-- The character periods of a ribbon in milliseconds (R117). -/
def isCharacterPeriod (n : Nat) : Bool := [50, 60, 75, 80, 100, 120].contains n

/-- The pending block of a ribbon in FAULT (R117). -/
def Ribbon.pendingBlock (v : Ribbon) : Option Text :=
  match v.state with
  | .fault b => some b
  | .off => none
  | .idle => none
  | .sending _ => none
  | .pacing => none
  | .waiting => none

/-- The checks of RIBBON RESTART (R130). -/
def ribbonRestartCheck (ops : List Word) (s : State) : Option Answer :=
  firstRefusal
    [(decide (ops.length ≠ 1) || decide (1 < operand ops 0), .malformed),
     (decide (s.mode = .config), .notLive),
     ((s.ribbon (operand ops 0)).pendingBlock.isNone, .outOfRange)]

/-- A ribbon leaves FAULT with its pending block (R130). -/
def Ribbon.restart (gate : Bool) (b : Text) (v : Ribbon) : Ribbon :=
  if gate then v.sendBlock b else { v with state := .waiting, outgoing := b :: v.outgoing }

/-- RIBBON RESTART (R130). -/
def ribbonRestartEngine : Engine :=
  checked ribbonRestartCheck fun ops s =>
    let r := operand ops 0
    match (s.ribbon r).pendingBlock with
    | none => done s
    | some b => done (s.setRibbon r ((s.ribbon r).restart (s.gate r) b))

/-- The checks of RIBBON RATE (R131). -/
def ribbonRateCheck (ops : List Word) (s : State) : Option Answer :=
  firstRefusal
    [(decide (ops.length ≠ 2) || decide (1 < operand ops 0) || !isCharacterPeriod (operand ops 1), .malformed),
     (decide (s.mode = .config), .notLive),
     ((s.ribbon (operand ops 0)).isOff, .outOfRange)]

/-- RIBBON RATE (R131). -/
def ribbonRateEngine : Engine :=
  checked ribbonRateCheck fun ops s =>
    let r := operand ops 0
    done (s.setRibbon r { s.ribbon r with period := operand ops 1 })

/-- The state code of a ribbon in the READ RIBBON reply (R174). -/
def RibbonState.code : RibbonState → Nat
  | .off => 0
  | .idle => 1
  | .sending _ => 2
  | .pacing => 3
  | .waiting => 4
  | .fault _ => 5

/-- The late mode code (R174). -/
def LateMode.code : LateMode → Nat
  | .normal => 0
  | .digitsDeleted => 1
  | .digitsVolumeDeleted => 2

/-- The five words of the READ RIBBON reply (R133, R174). -/
def ribbonWords (joined : Bool) (v : Ribbon) : List Word :=
  [word (v.state.code + bit 16 joined + 64 * v.lateMode.code + bit 256 v.lateOwed),
   word v.queue.length, word v.period, v.lag.extractLsb' 16 16, v.lag.extractLsb' 0 16]

/-- READ RIBBON (R133). -/
def readRibbonEngine : Engine :=
  checked
    (fun ops _ => firstRefusal [(decide (ops.length ≠ 1) || decide (1 < operand ops 0), .malformed)])
    fun ops s => doneWith (ribbonWords s.items.joined (s.ribbon (operand ops 0))) s

end Sys2Proof.Machine
end

