-- ==== Sys2Proof/Machine/Mode.lean ====
section
/-! DEFINITION. Mode control, the configuration items and the timebase (R175 to R182), and the meanings of
TICK, DAY_CLOCK_ADVANCE, DEVICE_RESET and RESET_RELEASE. -/

namespace Sys2Proof.Machine

/-! ### CONFIGURE -/

/-- The high byte of an operand as a number. -/
def operandHi (ops : List Word) (i : Nat) : Nat := operand ops i / 256

/-- The low byte of an operand as a number. -/
def operandLo (ops : List Word) (i : Nat) : Nat := operand ops i % 256

/-- A number lies in a range, both ends included. -/
def within (low high n : Nat) : Bool := decide (low ≤ n ∧ n ≤ high)

/-- The items of CONFIGURE by their codes (R176). -/
inductive Item where
  | link | module | probeInterval | highlightInterval | ribbon | pairing | lateThresholds | blockThreshold
  deriving DecidableEq, Repr

/-- The item codes (R176). -/
def Item.ofCode : Nat → Option Item
  | 1 => some .link
  | 2 => some .module
  | 3 => some .probeInterval
  | 4 => some .highlightInterval
  | 5 => some .ribbon
  | 6 => some .pairing
  | 7 => some .lateThresholds
  | 8 => some .blockThreshold
  | _ => none

/-- The values of an item are refused MALFORMED (R176 check 2). -/
def Item.malformed (ops : List Word) : Item → Bool
  | .link => decide (3 < operand ops 1) || (flagOperand ops 2).isNone
  | .module => decide (3 < operandHi ops 1) || decide (31 < operandLo ops 1) || (flagOperand ops 2).isNone
  | .probeInterval => false
  | .highlightInterval => false
  | .ribbon => decide (1 < operandHi ops 1) || decide (1 < operandLo ops 1)
  | .pairing => (flagOperand ops 1).isNone
  | .lateThresholds => false
  | .blockThreshold => false

/-- The values of an item lie in their ranges (R176 check 4). -/
def Item.inRange (ops : List Word) : Item → Bool
  | .link => within 2 30 (operandHi ops 3) && [20, 50, 100, 200].contains (operandLo ops 3)
  | .module =>
    decide (operand ops 2 = 0) || (within 1 4 (operandHi ops 3) && within 8 40 (operandLo ops 3))
  | .probeInterval => within 1 10 (operand ops 1)
  | .highlightInterval => within 1 15 (operand ops 1)
  | .ribbon => isCharacterPeriod (operand ops 2) && [50, 100, 200, 500, 1000].contains (operand ops 3)
  | .pairing => true
  | .lateThresholds => within 10 600 (operand ops 1) && within (operand ops 1 + 1) 900 (operand ops 2)
  | .blockThreshold => within Config.minBlockThreshold Config.maxShares (operandPair ops 1)

/-- The guard of R85 refuses an item (R176 check 5). -/
def Item.guarded (ops : List Word) (d : Display) : Item → Bool
  | .module =>
    d.guards (operandHi ops 1) (operandLo ops 1) (operand ops 2 != 0) (operandHi ops 3) (operandLo ops 3)
  | .link => false
  | .probeInterval => false
  | .highlightInterval => false
  | .ribbon => false
  | .pairing => false
  | .lateThresholds => false
  | .blockThreshold => false

/-- The checks of CONFIGURE (R176). -/
def configureCheck (ops : List Word) (s : State) : Option Answer :=
  match Item.ofCode (operand ops 0) with
  | none => some .malformed
  | some i =>
    firstRefusal
      [(decide (ops.length ≠ 4) || i.malformed ops, .malformed),
       (decide (s.mode = .live), .busy),
       (!i.inRange ops, .outOfRange),
       (i.guarded ops s.display, .inUse)]

/-- A module entry after its item (R100, R177). -/
def Module.configure (configured : Bool) (rows columns : Nat) (e : Module) : Module :=
  { state := if configured then .down else .unconfigured
    rows := if configured then rows else e.rows
    columns := if configured then columns else e.columns
    lastSent := none
    owed := .nothing
    restartPending := false }

/-- The board engine's and link controllers' state after an item (R177). -/
def Item.display (ops : List Word) (d : Display) : Item → Display
  | .link =>
    let v := d.link (operand ops 1)
    d.setLink (operand ops 1)
      { v with enabled := operand ops 2 != 0, holdSeconds := operandHi ops 3, ackTimeout := operandLo ops 3 }
  | .module =>
    let v := d.link (operandHi ops 1)
    let m := operandLo ops 1
    let e := (v.module m).configure (operand ops 2 != 0) (operandHi ops 3) (operandLo ops 3)
    d.setLink (operandHi ops 1) (v.setModule m e)
  | .probeInterval => d
  | .highlightInterval => d
  | .ribbon => d
  | .pairing => d
  | .lateThresholds => d
  | .blockThreshold => d

/-- The device-wide items after an item (R177). -/
def Item.items (ops : List Word) (x : Items) : Item → Items
  | .link => x
  | .module => x
  | .ribbon => x
  | .probeInterval => { x with probeSeconds := operand ops 1 }
  | .highlightInterval => { x with highlightSeconds := operand ops 1 }
  | .pairing => { x with joined := operand ops 1 != 0 }
  | .lateThresholds => { x with late1 := operand ops 1, late2 := operand ops 2 }
  | .blockThreshold => { x with blockThreshold := operandPair ops 1 }

/-- The ribbon engine's state after an item (R177). -/
def Item.tape (ops : List Word) (s : State) : Item → Tape
  | .ribbon =>
    let r := operandHi ops 1
    (s.setRibbon r { s.ribbon r with
      enabled := operandLo ops 1 != 0, period := operand ops 2, ackTimeout := operand ops 3 }).tape
  | .link => s.tape
  | .module => s.tape
  | .probeInterval => s.tape
  | .highlightInterval => s.tape
  | .pairing => s.tape
  | .lateThresholds => s.tape
  | .blockThreshold => s.tape

/-- The part after an item (R177). -/
def State.configure (i : Item) (ops : List Word) (s : State) : State :=
  { s with display := i.display ops s.display, items := i.items ops s.items, tape := i.tape ops s }

/-- CONFIGURE (R176, R177). -/
def configureEngine : Engine :=
  checked configureCheck fun ops s =>
    match Item.ofCode (operand ops 0) with
    | none => done s
    | some i => done (s.configure i ops)

/-! ### GO LIVE and GO CONFIG -/

/-- Every board link changed by `f`. -/
def Display.mapLinks (f : Link → Link) (d : Display) : Display :=
  [0, 1, 2, 3].foldl (fun d l => d.setLink l (f (d.link l))) d

/-- Some board link is enabled, or some ribbon is eligible (R178). -/
def State.hasOutlet (s : State) : Bool :=
  ([0, 1, 2, 3].any fun l => (s.display.link l).enabled) || ([0, 1].any fun r => s.eligible r)

/-- A ribbon at GO LIVE (R135, R178). -/
def Ribbon.goLive (eligible : Bool) (v : Ribbon) : Ribbon := { v with state := if eligible then .idle else .off }

/-- The device becomes LIVE (R105, R178). -/
def State.goLive (s : State) : State :=
  { s with
    mode := .live
    display := s.display.mapLinks (Link.goLive s.now)
    tape :=
      { s.tape with
        ribbon0 := s.tape.ribbon0.goLive (s.eligible 0)
        ribbon1 := s.tape.ribbon1.goLive (s.eligible 1) } }

/-- GO LIVE (R178). -/
def goLiveEngine : Engine := fun ops s =>
  if ops.length ≠ 0 then refuse .malformed s
  else if s.mode = .live then done s
  else if s.hasOutlet then done s.goLive
  else refuse .busy s

/-- A ribbon that neither is OFF nor IDLE stands in the way of GO CONFIG (R179). -/
def Ribbon.busy (v : Ribbon) : Bool :=
  match v.state with
  | .off => false
  | .idle => false
  | .sending _ => true
  | .pacing => true
  | .waiting => true
  | .fault _ => true

/-- A ribbon at GO CONFIG (R135). -/
def Ribbon.goConfig (v : Ribbon) : Ribbon :=
  { Ribbon.reset with enabled := v.enabled, period := v.period, ackTimeout := v.ackTimeout }

/-- The device becomes CONFIG (R96, R107, R135, R179). -/
def State.goConfig (s : State) : State :=
  { s with
    mode := .config
    display := (s.display.mapLinks fun v => if v.isOff then v else v.goConfig).quiet
    tape := { s.tape with ribbon0 := s.tape.ribbon0.goConfig, ribbon1 := s.tape.ribbon1.goConfig } }

/-- GO CONFIG (R179). -/
def goConfigEngine : Engine := fun ops s =>
  if ops.length ≠ 0 then refuse .malformed s
  else if s.mode = .config then done s
  else if s.quote.session = .opened then refuse .busy s
  else if s.tapeHolds || s.tape.ribbon0.busy || s.tape.ribbon1.busy then refuse .busy s
  else done s.goConfig

/-! ### The timebase -/

/-- The day clock a second later (R181). -/
def nextSecond (dayClock : Nat) : Nat := if Config.secondsPerDay ≤ dayClock + 1 then 0 else dayClock + 1

/-- The day clock takes a value; a change of its whole minutes is handed on (R181). -/
def State.setDayClock (value : Nat) (s : State) : State :=
  { s with
    timebase := { s.timebase with dayClock := value }
    transit :=
      if value / 60 = s.timebase.dayClock / 60 then s.transit
      else { s.transit with minuteChanges := s.transit.minuteChanges + 1 } }

/-- The day clock advances once for each of a number of seconds (R181). -/
def State.advance : Nat → State → State
  | 0, s => s
  | n + 1, s => State.advance n (s.setDayClock (nextSecond s.timebase.dayClock))

/-- Write the number of completed seconds that the day clock has still to take (notes/assumptions/10.md). -/
def State.setSeconds (n : Nat) (s : State) : State := { s with transit := { s.transit with seconds := n } }

/-- The part after SET TIME: the seconds completed by TICKs already taken come first (R181;
notes/assumptions/10.md). -/
def State.setTime (value : Nat) (s : State) : State :=
  let t := ((s.advance s.transit.seconds).setSeconds 0).setDayClock value
  { t with timebase := { t.timebase with millisecond := 0 } }

/-- SET TIME (R181). -/
def setTimeEngine : Engine :=
  checked
    (fun ops _ =>
      firstRefusal
        [(decide (ops.length ≠ 2), .malformed),
         (decide (Config.secondsPerDay ≤ operandPair ops 0), .outOfRange)])
    fun ops s => done (s.setTime (operandPair ops 0))

/-- A ribbon's pacing counter at a TICK (R128). -/
def Ribbon.count (gate : Bool) (v : Ribbon) : Ribbon := if gate then { v with pacing := v.pacing - 1 } else v

/-- TICK (R128, R180): not counted while RESET is low (R182). The second it completes is left to
DAY_CLOCK_ADVANCE (notes/assumptions/10.md), and a pacing counter that it takes to 0 to PACING_COUNT_END, the ribbon
staying PACING until then (the model's choice, notes/assumptions/32.md). -/
def execTick (s : State) : Host.Outcome State Fault Refusal :=
  .next <|
    if s.inReset then s
    else
      let full := decide (1000 ≤ s.timebase.millisecond + 1)
      { s with
        timebase :=
          { s.timebase with
            time := s.timebase.time + 1
            millisecond := if full then 0 else s.timebase.millisecond + 1 }
        transit := if full then { s.transit with seconds := s.transit.seconds + 1 } else s.transit
        tape :=
          { s.tape with
            ribbon0 := s.tape.ribbon0.count (s.gate 0)
            ribbon1 := s.tape.ribbon1.count (s.gate 1) } }

/-- DAY_CLOCK_ADVANCE (R181). -/
def execDayClockAdvance (s : State) : Host.Outcome State Fault Refusal :=
  .next <|
    match s.transit.seconds with
    | 0 => s
    | n + 1 => (s.setSeconds n).setDayClock (nextSecond s.timebase.dayClock)

/-! ### Device reset -/

/-- The part at its device-reset values, RESET held low or released; the queue of commands and the levels of
the READY inputs are no state of a block (R182). -/
def State.atReset (low : Bool) (s : State) : State :=
  { State.reset with pending := s.pending, inReset := low, tape := Tape.reset s.tape.ready0 s.tape.ready1 }

/-- DEVICE_RESET (R182): RESET falls. -/
def execDeviceReset (s : State) : Host.Outcome State Fault Refusal := .next (s.atReset true)

/-- RESET_RELEASE (R182): RESET rises; with RESET already high there is nothing to release
(notes/assumptions/28.md). -/
def execResetRelease (s : State) : Host.Outcome State Fault Refusal :=
  .next (if s.inReset then s.atReset false else s)

end Sys2Proof.Machine
end

