-- ==== Sys2Proof/Machine/Port.lean ====
section
/-! DEFINITION. The master ports: framing of requests, the port unit's checks, the handing of requests to
their engines, replies, error registers and port reset (R161 to R170). -/

namespace Sys2Proof.Machine

/-! ### Requests -/

/-- The owning engine of a request at a port (R162). -/
def engineOf (p : PortId) : Request → Engine
  | .tradeReport => tradeReportEngine
  | .quoteReport => quoteReportEngine
  | .sequenceReset => sequenceResetEngine
  | .readInstrument => readInstrumentEngine
  | .findSymbol => findSymbolEngine
  | .defineInstrument => defineInstrumentEngine
  | .modifyInstrument => modifyInstrumentEngine
  | .removeInstrument => removeInstrumentEngine
  | .openSession => openSessionEngine
  | .closeSession => closeSessionEngine
  | .rollSession => rollSessionEngine
  | .halt => haltEngine
  | .resume => resumeEngine
  | .setFastMarket => setFastMarketEngine
  | .clearFastMarket => clearFastMarketEngine
  | .cancelPrint => cancelPrintEngine
  | .correctPrint => correctPrintEngine
  | .tapeText => tapeTextEngine
  | .definePanel => definePanelEngine
  | .removePanel => removePanelEngine
  | .panelDark => panelDarkEngine
  | .panelLight => panelLightEngine
  | .defineCell => defineCellEngine
  | .removeCell => removeCellEngine
  | .moduleRestart => moduleRestartEngine
  | .lampTestStart => lampTestStartEngine
  | .lampTestStop => lampTestStopEngine
  | .readLink => readLinkEngine
  | .ribbonRestart => ribbonRestartEngine
  | .ribbonRate => ribbonRateEngine
  | .readRibbon => readRibbonEngine
  | .writeDescriptor => writeDescriptorEngine
  | .writeLine => writeLineEngine
  | .setLocalTable => setLocalTableEngine
  | .openPage => openPageEngine
  | .closePage => closePageEngine p
  | .writePageLine => writePageLineEngine
  | .readChangedLine => readChangedLineEngine
  | .readLine => readLineEngine
  | .setNoticeMask => setNoticeMaskEngine
  | .takeNotice => takeNoticeEngine
  | .configure => configureEngine
  | .goLive => goLiveEngine
  | .goConfig => goConfigEngine
  | .setTime => setTimeEngine

/-- What a word written to REQUEST makes of the words before it (R162, R163). -/
inductive Framing where
  | overrun
  | collecting (head : Word) (stored : List Word) (left : Nat)
  | complete (head : Word) (operands : List Word)
  deriving DecidableEq, Repr

/-- Word 0 of a new request (R162). -/
def Framing.start (w : Word) : Framing :=
  if loByte w = 0 then .complete w [] else .collecting w [] (loByte w).toNat

/-- The next operand of a request: the first 11 are stored (R162). -/
def Framing.take (head : Word) (stored : List Word) (left : Nat) (w : Word) : Framing :=
  let stored' := if stored.length < Config.storedOperands then stored ++ [w] else stored
  if left ≤ 1 then .complete head stored' else .collecting head stored' (left - 1)

/-- A word written to REQUEST (R162, R163). -/
def Port.framed (w : Word) (v : Port) : Framing :=
  match v.state with
  | .idle => Framing.start w
  | .reply _ => Framing.start w
  | .collecting head stored left => Framing.take head stored left w
  | .working _ _ => .overrun

/-- Write the state of a port. -/
def State.setPortState (p : PortId) (x : PortState) (s : State) : State :=
  s.setPort p { s.port p with state := x }

/-- The request code of word 0 (R162). -/
def requestOf (head : Word) : Option Request := Request.ofCode (hiByte head).toNat

/-- The port unit's checks on a complete request: the request that passes them, or the refusal (R162). -/
def State.portCheck (s : State) (p : PortId) (head : Word) : Except Answer Request :=
  if (s.port p).held then .error .held
  else
    match requestOf head with
    | none => .error .malformed
    | some r =>
      if Config.storedOperands < (loByte head).toNat then .error .malformed
      else if r.permits p then .ok r
      else .error .notPermitted

/-- MALFORMED is recorded at the port whose request was refused with it (R165). -/
def State.recordMalformed (p : PortId) (a : Answer) (s : State) : State :=
  if a = .malformed then s.record p .malformed else s

/-- A refusal of the port unit: its reply is ready at once (R162). -/
def State.refuseAt (p : PortId) (a : Answer) (s : State) : State :=
  (s.recordMalformed p a).setPortState p (.reply (replyWords a []))

/-- The engine takes a request and holds its reply until it completes it (R163; notes/assumptions/3.md). -/
def State.takeRequest (p : PortId) (e : Engine) (ops : List Word) (discard : Bool) (s : State) : State :=
  let r := e ops s
  (r.state.recordMalformed p r.answer).setPortState p
    (.working (.taken (replyWords r.answer r.words)) discard)

/-- A request that passed the port unit is handed to its engine, which takes it in this action or later
(R162; notes/assumptions/2.md). -/
def State.hand (p : PortId) (r : Request) (e : Engine) (ops : List Word) (k : Taking) (s : State) : State :=
  match k with
  | .now => s.takeRequest p e ops false
  | .later => s.setPortState p (.working (.handed r ops) false)

/-- A write of a word at REQUEST (R162, R163). -/
def State.requestWrite (p : PortId) (w : Word) (k : Taking) (s : State) : State :=
  match (s.port p).framed w with
  | .overrun => s.record p .overrun
  | .collecting head stored left => s.setPortState p (.collecting head stored left)
  | .complete head ops =>
    match s.portCheck p head with
    | .error a => s.refuseAt p a
    | .ok r => s.hand p r (engineOf p r) ops k

/-- A request's own row: where the word completes that request and the port unit passes it, its engine `e`
is handed it; any other word at REQUEST does what the bus does with it (notes/assumptions/1.md). -/
def State.requestRow (r : Request) (e : Engine) (p : PortId) (w : Word) (k : Taking) (s : State) : State :=
  if s.inReset then s
  else
    match (s.port p).framed w with
    | .overrun => s.requestWrite p w k
    | .collecting _ _ _ => s.requestWrite p w k
    | .complete head ops =>
      match s.portCheck p head with
      | .error _ => s.requestWrite p w k
      | .ok r' => if r' = r then s.hand p r e ops k else s.requestWrite p w k

/-! ### Error registers -/

/-- A write of ERROR STATUS (R166). -/
def State.clearConditions (p : PortId) (w : Word) (s : State) : State :=
  s.setPort p { s.port p with status := (s.port p).status &&& ~~~w }

/-- A write of ERROR MASK (R167). -/
def State.setMaskWord (p : PortId) (w : Word) (s : State) : State :=
  s.setPort p { s.port p with mask := w &&& p.conditions }

/-- A write of ERROR SEVERITY (R167). -/
def State.setSeverityWord (p : PortId) (w : Word) (s : State) : State :=
  s.setPort p { s.port p with severity := w &&& p.conditions }

/-! ### Port reset -/

/-- The state of a port after its reset (R169). -/
def PortState.reset : PortState → PortState
  | .idle => .idle
  | .collecting _ _ _ => .idle
  | .working stage _ => .working stage true
  | .reply _ => .idle

/-- The port is WORKING (R162). -/
def PortState.isWorking : PortState → Bool
  | .idle => false
  | .collecting _ _ _ => false
  | .working _ _ => true
  | .reply _ => false

/-- The T-port reset closes every terminal context and clears the viewer sets, the notice queue and the
pending set (R152, R160); raises on their way are undone with them (notes/assumptions/19.md). -/
def State.closeTerminals (s : State) : State :=
  { s with
    pages := { s.pages with contexts := [] }
    quote :=
      { s.quote with
        instruments :=
          Table.mapValues Instrument.vacant (fun v => { v with viewers := [] }) s.quote.instruments }
    notices := { s.notices with waiting := [], queue := [] }
    transit := { s.transit with raises := [] } }

/-- What a port reset unsets at the F-port and empties at the S-port (R41, R75, R169). -/
def State.resetFurther (p : PortId) (s : State) : State :=
  match p with
  | .feed => s.setExpectation none
  | .supervisor => s.setTextBuffer none
  | .terminal => s

/-- A port reset (R169). -/
def State.resetPort (p : PortId) (s : State) : State :=
  let v := s.port p
  let t := s.setPort p { v with state := v.state.reset, status := 0 }
  match p with
  | .feed => if v.state.isWorking then t else t.resetFurther .feed
  | .supervisor => if v.state.isWorking then t else t.resetFurther .supervisor
  | .terminal => t.closeTerminals

/-! ### Bus cycles -/

/-- A write cycle (R161). -/
def State.busWrite (p : PortId) (loc : Fin 8) (w : Word) (k : Taking) (s : State) : State :=
  if s.inReset then s
  else
    match loc with
    | 0 => s.requestWrite p w k
    | 3 => s.clearConditions p w
    | 4 => s.setMaskWord p w
    | 5 => s.setSeverityWord p w
    | 6 => if w.getLsbD 0 then s.resetPort p else s
    | _ => s

/-- The port state code of STATUS (R171). -/
def PortState.code : PortState → Nat
  | .idle => 0
  | .collecting _ _ _ => 1
  | .working _ _ => 2
  | .reply _ => 3

/-- The reply words remaining (R163, R171). -/
def PortState.remaining : PortState → Nat
  | .idle => 0
  | .collecting _ _ _ => 0
  | .working _ _ => 0
  | .reply words => words.length

/-- The STATUS word (R171). -/
def State.statusWord (s : State) (p : PortId) : Word :=
  let v := s.port p
  word (v.state.code + bit 4 v.held + bit 8 (s.attention p) + 256 * v.state.remaining)

/-- The word that a read cycle at a location returns (R161, R163, R182). -/
def State.readWord (s : State) (p : PortId) (loc : Fin 8) : Word :=
  if s.inReset then 0xFFFF
  else
    match loc with
    | 1 =>
      match (s.port p).state with
      | .reply (w :: _) => w
      | .reply [] => 0xFFFF
      | .idle => 0xFFFF
      | .collecting _ _ _ => 0xFFFF
      | .working _ _ => 0xFFFF
    | 2 => s.statusWord p
    | 3 => (s.port p).status
    | 4 => (s.port p).mask
    | 5 => (s.port p).severity
    | _ => 0xFFFF

/-- The port after a read of REPLY: the read of the last word takes it to IDLE (R163). -/
def PortState.afterReply : PortState → PortState
  | .reply [] => .idle
  | .reply [_] => .idle
  | .reply (_ :: w :: ws) => .reply (w :: ws)
  | .idle => .idle
  | .collecting head stored left => .collecting head stored left
  | .working stage discard => .working stage discard

/-- A read cycle: its word stands on D0 to D15 (R161; notes/assumptions/12.md). -/
def State.busRead (p : PortId) (loc : Fin 8) (s : State) : State :=
  let v := s.port p
  s.setPort p
    { v with
      dataOut := s.readWord p loc
      state := if loc = 1 && !s.inReset then v.state.afterReply else v.state }

/-! ### Completion -/

/-- A ROLL SESSION at this port has still records to roll (R20). -/
def State.rollsOn (s : State) (p : PortId) : Bool := decide (p = .supervisor) && !s.quote.rolling.isEmpty

/-- The port takes the completion of its request: the reply is stored, or after a reset of the port
discarded with the effects that the reset left for this action (R163, R169). -/
def State.completeWith (p : PortId) (words : List Word) (discard : Bool) (s : State) : State :=
  if discard then (s.setPortState p .idle).resetFurther p else s.setPortState p (.reply words)

/-- A taken request is completed, once the roll it may have begun has ended (R20, R163). -/
def State.finish (p : PortId) (s : State) : State :=
  if s.rollsOn p then s
  else
    match (s.port p).state with
    | .working (.taken words) discard => s.completeWith p words discard
    | .working (.handed _ _) _ => s
    | .idle => s
    | .collecting _ _ _ => s
    | .reply _ => s

/-- The engine takes the request that was handed to it, where it has not (R162). -/
def State.takeHanded (p : PortId) (s : State) : State :=
  match (s.port p).state with
  | .working (.handed r ops) discard => s.takeRequest p (engineOf p r) ops discard
  | .working (.taken _) _ => s
  | .idle => s
  | .collecting _ _ _ => s
  | .reply _ => s

/-! ### Meanings of the port's own rows -/

/-- REGISTER_WRITE (R161 to R163). -/
def execRegisterWrite (p : PortId) (loc : Fin 8) (w : Word) (k : Taking) (s : State) :
    Host.Outcome State Fault Refusal := .next (s.busWrite p loc w k)

/-- REPLY_READ (R163). -/
def execReplyRead (p : PortId) (loc : Fin 8) (s : State) : Host.Outcome State Fault Refusal :=
  .next (s.busRead p loc)

/-- ERROR_STATUS_WRITE (R166). -/
def execErrorStatusWrite (p : PortId) (w : Word) (s : State) : Host.Outcome State Fault Refusal :=
  .next (if s.inReset then s else s.clearConditions p w)

/-- ERROR_MASK_WRITE (R167). -/
def execErrorMaskWrite (p : PortId) (w : Word) (s : State) : Host.Outcome State Fault Refusal :=
  .next (if s.inReset then s else s.setMaskWord p w)

/-- ERROR_SEVERITY_WRITE (R167). -/
def execErrorSeverityWrite (p : PortId) (w : Word) (s : State) : Host.Outcome State Fault Refusal :=
  .next (if s.inReset then s else s.setSeverityWord p w)

/-- PORT_RESET (R169): a word with bit 0 clear is ignored. -/
def execPortReset (p : PortId) (w : Word) (s : State) : Host.Outcome State Fault Refusal :=
  .next (if s.inReset || !w.getLsbD 0 then s else s.resetPort p)

/-- REQUEST_COMPLETE (R163). -/
def execRequestComplete (p : PortId) (s : State) : Host.Outcome State Fault Refusal :=
  .next ((s.takeHanded p).finish p)

/-- UNLISTED_REQUEST_CODE (R162): the word completes a request whose code is in no row of the table; any
other word at REQUEST does what the bus does with it (notes/assumptions/1.md). -/
def execUnlistedRequestCode (p : PortId) (w : Word) (s : State) : Host.Outcome State Fault Refusal :=
  .next <|
    if s.inReset then s
    else
      match (s.port p).framed w with
      | .overrun => s.requestWrite p w .later
      | .collecting _ _ _ => s.requestWrite p w .later
      | .complete head _ =>
        match requestOf head with
        | none => s.refuseAt p (if (s.port p).held then .held else .malformed)
        | some _ => s.requestWrite p w .later

end Sys2Proof.Machine
end

