-- ==== Sys2Proof/Machine/Requests.lean ====
section
/-! DEFINITION. The meanings of the rows that are requests: the write of the word that completes the request
(R162), with the engine whose rule the row names. -/

namespace Sys2Proof.Machine

/-- TRADE_REPORT (R46). -/
def execTradeReport (p : PortId) (w : Word) (k : Taking) (s : State) : Host.Outcome State Fault Refusal :=
  .next (s.requestRow .tradeReport tradeReportEngine p w k)

/-- QUOTE_REPORT (R56). -/
def execQuoteReport (p : PortId) (w : Word) (k : Taking) (s : State) : Host.Outcome State Fault Refusal :=
  .next (s.requestRow .quoteReport quoteReportEngine p w k)

/-- SEQUENCE_RESET (R45). -/
def execSequenceReset (p : PortId) (w : Word) (k : Taking) (s : State) : Host.Outcome State Fault Refusal :=
  .next (s.requestRow .sequenceReset sequenceResetEngine p w k)

/-- READ_INSTRUMENT (R17). -/
def execReadInstrument (p : PortId) (w : Word) (k : Taking) (s : State) : Host.Outcome State Fault Refusal :=
  .next (s.requestRow .readInstrument readInstrumentEngine p w k)

/-- FIND_SYMBOL (R11). -/
def execFindSymbol (p : PortId) (w : Word) (k : Taking) (s : State) : Host.Outcome State Fault Refusal :=
  .next (s.requestRow .findSymbol findSymbolEngine p w k)

/-- DEFINE_INSTRUMENT (R12). -/
def execDefineInstrument (p : PortId) (w : Word) (k : Taking) (s : State) : Host.Outcome State Fault Refusal :=
  .next (s.requestRow .defineInstrument defineInstrumentEngine p w k)

/-- MODIFY_INSTRUMENT (R14). -/
def execModifyInstrument (p : PortId) (w : Word) (k : Taking) (s : State) : Host.Outcome State Fault Refusal :=
  .next (s.requestRow .modifyInstrument modifyInstrumentEngine p w k)

/-- REMOVE_INSTRUMENT (R16). -/
def execRemoveInstrument (p : PortId) (w : Word) (k : Taking) (s : State) : Host.Outcome State Fault Refusal :=
  .next (s.requestRow .removeInstrument removeInstrumentEngine p w k)

/-- OPEN_SESSION (R18). -/
def execOpenSession (p : PortId) (w : Word) (k : Taking) (s : State) : Host.Outcome State Fault Refusal :=
  .next (s.requestRow .openSession openSessionEngine p w k)

/-- CLOSE_SESSION (R19). -/
def execCloseSession (p : PortId) (w : Word) (k : Taking) (s : State) : Host.Outcome State Fault Refusal :=
  .next (s.requestRow .closeSession closeSessionEngine p w k)

/-- ROLL_SESSION (R20). -/
def execRollSession (p : PortId) (w : Word) (k : Taking) (s : State) : Host.Outcome State Fault Refusal :=
  .next (s.requestRow .rollSession rollSessionEngine p w k)

/-- HALT (R61). -/
def execHalt (p : PortId) (w : Word) (k : Taking) (s : State) : Host.Outcome State Fault Refusal :=
  .next (s.requestRow .halt haltEngine p w k)

/-- RESUME (R62). -/
def execResume (p : PortId) (w : Word) (k : Taking) (s : State) : Host.Outcome State Fault Refusal :=
  .next (s.requestRow .resume resumeEngine p w k)

/-- SET_FAST_MARKET (R63). -/
def execSetFastMarket (p : PortId) (w : Word) (k : Taking) (s : State) : Host.Outcome State Fault Refusal :=
  .next (s.requestRow .setFastMarket setFastMarketEngine p w k)

/-- CLEAR_FAST_MARKET (R63). -/
def execClearFastMarket (p : PortId) (w : Word) (k : Taking) (s : State) : Host.Outcome State Fault Refusal :=
  .next (s.requestRow .clearFastMarket clearFastMarketEngine p w k)

/-- CANCEL_PRINT (R66). -/
def execCancelPrint (p : PortId) (w : Word) (k : Taking) (s : State) : Host.Outcome State Fault Refusal :=
  .next (s.requestRow .cancelPrint cancelPrintEngine p w k)

/-- CORRECT_PRINT (R68). -/
def execCorrectPrint (p : PortId) (w : Word) (k : Taking) (s : State) : Host.Outcome State Fault Refusal :=
  .next (s.requestRow .correctPrint correctPrintEngine p w k)

/-- TAPE_TEXT (R74). -/
def execTapeText (p : PortId) (w : Word) (k : Taking) (s : State) : Host.Outcome State Fault Refusal :=
  .next (s.requestRow .tapeText tapeTextEngine p w k)

/-- DEFINE_PANEL (R78). -/
def execDefinePanel (p : PortId) (w : Word) (k : Taking) (s : State) : Host.Outcome State Fault Refusal :=
  .next (s.requestRow .definePanel definePanelEngine p w k)

/-- REMOVE_PANEL (R79). -/
def execRemovePanel (p : PortId) (w : Word) (k : Taking) (s : State) : Host.Outcome State Fault Refusal :=
  .next (s.requestRow .removePanel removePanelEngine p w k)

/-- PANEL_DARK (R86). -/
def execPanelDark (p : PortId) (w : Word) (k : Taking) (s : State) : Host.Outcome State Fault Refusal :=
  .next (s.requestRow .panelDark panelDarkEngine p w k)

/-- PANEL_LIGHT (R86). -/
def execPanelLight (p : PortId) (w : Word) (k : Taking) (s : State) : Host.Outcome State Fault Refusal :=
  .next (s.requestRow .panelLight panelLightEngine p w k)

/-- DEFINE_CELL (R81). -/
def execDefineCell (p : PortId) (w : Word) (k : Taking) (s : State) : Host.Outcome State Fault Refusal :=
  .next (s.requestRow .defineCell defineCellEngine p w k)

/-- REMOVE_CELL (R83). -/
def execRemoveCell (p : PortId) (w : Word) (k : Taking) (s : State) : Host.Outcome State Fault Refusal :=
  .next (s.requestRow .removeCell removeCellEngine p w k)

/-- MODULE_RESTART (R108). -/
def execModuleRestart (p : PortId) (w : Word) (k : Taking) (s : State) : Host.Outcome State Fault Refusal :=
  .next (s.requestRow .moduleRestart moduleRestartEngine p w k)

/-- LAMP_TEST_START (R109). -/
def execLampTestStart (p : PortId) (w : Word) (k : Taking) (s : State) : Host.Outcome State Fault Refusal :=
  .next (s.requestRow .lampTestStart lampTestStartEngine p w k)

/-- LAMP_TEST_STOP (R111). -/
def execLampTestStop (p : PortId) (w : Word) (k : Taking) (s : State) : Host.Outcome State Fault Refusal :=
  .next (s.requestRow .lampTestStop lampTestStopEngine p w k)

/-- READ_LINK (R112). -/
def execReadLink (p : PortId) (w : Word) (k : Taking) (s : State) : Host.Outcome State Fault Refusal :=
  .next (s.requestRow .readLink readLinkEngine p w k)

/-- RIBBON_RESTART (R130). -/
def execRibbonRestart (p : PortId) (w : Word) (k : Taking) (s : State) : Host.Outcome State Fault Refusal :=
  .next (s.requestRow .ribbonRestart ribbonRestartEngine p w k)

/-- RIBBON_RATE (R131). -/
def execRibbonRate (p : PortId) (w : Word) (k : Taking) (s : State) : Host.Outcome State Fault Refusal :=
  .next (s.requestRow .ribbonRate ribbonRateEngine p w k)

/-- READ_RIBBON (R133). -/
def execReadRibbon (p : PortId) (w : Word) (k : Taking) (s : State) : Host.Outcome State Fault Refusal :=
  .next (s.requestRow .readRibbon readRibbonEngine p w k)

/-- WRITE_DESCRIPTOR (R137). -/
def execWriteDescriptor (p : PortId) (w : Word) (k : Taking) (s : State) : Host.Outcome State Fault Refusal :=
  .next (s.requestRow .writeDescriptor writeDescriptorEngine p w k)

/-- WRITE_LINE (R138). -/
def execWriteLine (p : PortId) (w : Word) (k : Taking) (s : State) : Host.Outcome State Fault Refusal :=
  .next (s.requestRow .writeLine writeLineEngine p w k)

/-- SET_LOCAL_TABLE (R141). -/
def execSetLocalTable (p : PortId) (w : Word) (k : Taking) (s : State) : Host.Outcome State Fault Refusal :=
  .next (s.requestRow .setLocalTable setLocalTableEngine p w k)

/-- OPEN_PAGE (R143). -/
def execOpenPage (p : PortId) (w : Word) (k : Taking) (s : State) : Host.Outcome State Fault Refusal :=
  .next (s.requestRow .openPage openPageEngine p w k)

/-- CLOSE_PAGE (R144). -/
def execClosePage (p : PortId) (w : Word) (k : Taking) (s : State) : Host.Outcome State Fault Refusal :=
  .next (s.requestRow .closePage (closePageEngine p) p w k)

/-- WRITE_PAGE_LINE (R146). -/
def execWritePageLine (p : PortId) (w : Word) (k : Taking) (s : State) : Host.Outcome State Fault Refusal :=
  .next (s.requestRow .writePageLine writePageLineEngine p w k)

/-- READ_CHANGED_LINE (R148). -/
def execReadChangedLine (p : PortId) (w : Word) (k : Taking) (s : State) : Host.Outcome State Fault Refusal :=
  .next (s.requestRow .readChangedLine readChangedLineEngine p w k)

/-- READ_LINE (R149). -/
def execReadLine (p : PortId) (w : Word) (k : Taking) (s : State) : Host.Outcome State Fault Refusal :=
  .next (s.requestRow .readLine readLineEngine p w k)

/-- SET_NOTICE_MASK (R155). -/
def execSetNoticeMask (p : PortId) (w : Word) (k : Taking) (s : State) : Host.Outcome State Fault Refusal :=
  .next (s.requestRow .setNoticeMask setNoticeMaskEngine p w k)

/-- TAKE_NOTICE (R157). -/
def execTakeNotice (p : PortId) (w : Word) (k : Taking) (s : State) : Host.Outcome State Fault Refusal :=
  .next (s.requestRow .takeNotice takeNoticeEngine p w k)

/-- CONFIGURE (R176). -/
def execConfigure (p : PortId) (w : Word) (k : Taking) (s : State) : Host.Outcome State Fault Refusal :=
  .next (s.requestRow .configure configureEngine p w k)

/-- GO_LIVE (R178). -/
def execGoLive (p : PortId) (w : Word) (k : Taking) (s : State) : Host.Outcome State Fault Refusal :=
  .next (s.requestRow .goLive goLiveEngine p w k)

/-- GO_CONFIG (R179). -/
def execGoConfig (p : PortId) (w : Word) (k : Taking) (s : State) : Host.Outcome State Fault Refusal :=
  .next (s.requestRow .goConfig goConfigEngine p w k)

/-- SET_TIME (R181). -/
def execSetTime (p : PortId) (w : Word) (k : Taking) (s : State) : Host.Outcome State Fault Refusal :=
  .next (s.requestRow .setTime setTimeEngine p w k)

end Sys2Proof.Machine
end

