-- ==== Sys2Proof/Machine/Dispatch.lean ====
section
/-! DEFINITION. The one table from commands to meanings. -/

namespace Sys2Proof.Machine

/-- The effect of a command on everything but the queue. -/
def exec (i : Instr) (s : State) : Host.Outcome State Fault Refusal :=
  match i with
  | .tradeReport p w k => Sys2Proof.Machine.execTradeReport p w k s
  | .quoteReport p w k => Sys2Proof.Machine.execQuoteReport p w k s
  | .sequenceReset p w k => Sys2Proof.Machine.execSequenceReset p w k s
  | .readInstrument p w k => Sys2Proof.Machine.execReadInstrument p w k s
  | .findSymbol p w k => Sys2Proof.Machine.execFindSymbol p w k s
  | .defineInstrument p w k => Sys2Proof.Machine.execDefineInstrument p w k s
  | .modifyInstrument p w k => Sys2Proof.Machine.execModifyInstrument p w k s
  | .removeInstrument p w k => Sys2Proof.Machine.execRemoveInstrument p w k s
  | .openSession p w k => Sys2Proof.Machine.execOpenSession p w k s
  | .closeSession p w k => Sys2Proof.Machine.execCloseSession p w k s
  | .rollSession p w k => Sys2Proof.Machine.execRollSession p w k s
  | .rollRecord => Sys2Proof.Machine.execRollRecord s
  | .halt p w k => Sys2Proof.Machine.execHalt p w k s
  | .resume p w k => Sys2Proof.Machine.execResume p w k s
  | .setFastMarket p w k => Sys2Proof.Machine.execSetFastMarket p w k s
  | .clearFastMarket p w k => Sys2Proof.Machine.execClearFastMarket p w k s
  | .cancelPrint p w k => Sys2Proof.Machine.execCancelPrint p w k s
  | .correctPrint p w k => Sys2Proof.Machine.execCorrectPrint p w k s
  | .tapeText p w k => Sys2Proof.Machine.execTapeText p w k s
  | .definePanel p w k => Sys2Proof.Machine.execDefinePanel p w k s
  | .removePanel p w k => Sys2Proof.Machine.execRemovePanel p w k s
  | .panelDark p w k => Sys2Proof.Machine.execPanelDark p w k s
  | .panelLight p w k => Sys2Proof.Machine.execPanelLight p w k s
  | .defineCell p w k => Sys2Proof.Machine.execDefineCell p w k s
  | .removeCell p w k => Sys2Proof.Machine.execRemoveCell p w k s
  | .moduleRestart p w k => Sys2Proof.Machine.execModuleRestart p w k s
  | .lampTestStart p w k => Sys2Proof.Machine.execLampTestStart p w k s
  | .lampTestStop p w k => Sys2Proof.Machine.execLampTestStop p w k s
  | .readLink p w k => Sys2Proof.Machine.execReadLink p w k s
  | .ribbonRestart p w k => Sys2Proof.Machine.execRibbonRestart p w k s
  | .ribbonRate p w k => Sys2Proof.Machine.execRibbonRate p w k s
  | .readRibbon p w k => Sys2Proof.Machine.execReadRibbon p w k s
  | .writeDescriptor p w k => Sys2Proof.Machine.execWriteDescriptor p w k s
  | .writeLine p w k => Sys2Proof.Machine.execWriteLine p w k s
  | .setLocalTable p w k => Sys2Proof.Machine.execSetLocalTable p w k s
  | .openPage p w k => Sys2Proof.Machine.execOpenPage p w k s
  | .closePage p w k => Sys2Proof.Machine.execClosePage p w k s
  | .writePageLine p w k => Sys2Proof.Machine.execWritePageLine p w k s
  | .readChangedLine p w k => Sys2Proof.Machine.execReadChangedLine p w k s
  | .readLine p w k => Sys2Proof.Machine.execReadLine p w k s
  | .setNoticeMask p w k => Sys2Proof.Machine.execSetNoticeMask p w k s
  | .takeNotice p w k => Sys2Proof.Machine.execTakeNotice p w k s
  | .configure p w k => Sys2Proof.Machine.execConfigure p w k s
  | .goLive p w k => Sys2Proof.Machine.execGoLive p w k s
  | .goConfig p w k => Sys2Proof.Machine.execGoConfig p w k s
  | .setTime p w k => Sys2Proof.Machine.execSetTime p w k s
  | .registerWrite p loc w k => Sys2Proof.Machine.execRegisterWrite p loc w k s
  | .replyRead p loc => Sys2Proof.Machine.execReplyRead p loc s
  | .errorStatusWrite p w => Sys2Proof.Machine.execErrorStatusWrite p w s
  | .errorMaskWrite p w => Sys2Proof.Machine.execErrorMaskWrite p w s
  | .errorSeverityWrite p w => Sys2Proof.Machine.execErrorSeverityWrite p w s
  | .portReset p w => Sys2Proof.Machine.execPortReset p w s
  | .requestComplete p => Sys2Proof.Machine.execRequestComplete p s
  | .boardHandoff => Sys2Proof.Machine.execBoardHandoff s
  | .minuteChange => Sys2Proof.Machine.execMinuteChange s
  | .sessionChange => Sys2Proof.Machine.execSessionChange s
  | .tapeStateChange => Sys2Proof.Machine.execTapeStateChange s
  | .highlightExpiry => Sys2Proof.Machine.execHighlightExpiry s
  | .frameSent l => Sys2Proof.Machine.execFrameSent l s
  | .moduleAcknowledgement l ack check => Sys2Proof.Machine.execModuleAcknowledgement l ack check s
  | .moduleAckTimeout l => Sys2Proof.Machine.execModuleAckTimeout l s
  | .keepAliveDue l m => Sys2Proof.Machine.execKeepAliveDue l m s
  | .probeDue l m => Sys2Proof.Machine.execProbeDue l m s
  | .settleExpiry l => Sys2Proof.Machine.execSettleExpiry l s
  | .departedCopyHandoff => Sys2Proof.Machine.execDepartedCopyHandoff s
  | .blockFrameSent r => Sys2Proof.Machine.execBlockFrameSent r s
  | .ribbonAcknowledgement u ack check => Sys2Proof.Machine.execRibbonAcknowledgement u ack check s
  | .pacingCountEnd r => Sys2Proof.Machine.execPacingCountEnd r s
  | .ribbonAckTimeout r => Sys2Proof.Machine.execRibbonAckTimeout r s
  | .readyRise u => Sys2Proof.Machine.execReadyRise u s
  | .readyFall u => Sys2Proof.Machine.execReadyFall u s
  | .lateNoticeExpiry r => Sys2Proof.Machine.execLateNoticeExpiry r s
  | .pageHandoff => Sys2Proof.Machine.execPageHandoff s
  | .noticeRaise => Sys2Proof.Machine.execNoticeRaise s
  | .tick => Sys2Proof.Machine.execTick s
  | .dayClockAdvance => Sys2Proof.Machine.execDayClockAdvance s
  | .deviceReset => Sys2Proof.Machine.execDeviceReset s
  | .resetRelease => Sys2Proof.Machine.execResetRelease s
  | .unlistedRequestCode p w => Sys2Proof.Machine.execUnlistedRequestCode p w s

end Sys2Proof.Machine
end

