-- ==== Sys2Proof/Safety.lean ====
section
/-! DEFINITION. The words in which the statements about the part are made: when a request reaches its engine,
what an answered request leaves at its port, and the invariants of a run. -/

namespace Sys2Proof

/-- The command that is the row of a request (R172, Request codes). -/
def Request.row : Request → PortId → Word → Taking → Instr
  | .tradeReport => .tradeReport
  | .quoteReport => .quoteReport
  | .sequenceReset => .sequenceReset
  | .readInstrument => .readInstrument
  | .findSymbol => .findSymbol
  | .defineInstrument => .defineInstrument
  | .modifyInstrument => .modifyInstrument
  | .removeInstrument => .removeInstrument
  | .openSession => .openSession
  | .closeSession => .closeSession
  | .rollSession => .rollSession
  | .halt => .halt
  | .resume => .resume
  | .setFastMarket => .setFastMarket
  | .clearFastMarket => .clearFastMarket
  | .cancelPrint => .cancelPrint
  | .correctPrint => .correctPrint
  | .tapeText => .tapeText
  | .definePanel => .definePanel
  | .removePanel => .removePanel
  | .panelDark => .panelDark
  | .panelLight => .panelLight
  | .defineCell => .defineCell
  | .removeCell => .removeCell
  | .moduleRestart => .moduleRestart
  | .lampTestStart => .lampTestStart
  | .lampTestStop => .lampTestStop
  | .readLink => .readLink
  | .ribbonRestart => .ribbonRestart
  | .ribbonRate => .ribbonRate
  | .readRibbon => .readRibbon
  | .writeDescriptor => .writeDescriptor
  | .writeLine => .writeLine
  | .setLocalTable => .setLocalTable
  | .openPage => .openPage
  | .closePage => .closePage
  | .writePageLine => .writePageLine
  | .readChangedLine => .readChangedLine
  | .readLine => .readLine
  | .setNoticeMask => .setNoticeMask
  | .takeNotice => .takeNotice
  | .configure => .configure
  | .goLive => .goLive
  | .goConfig => .goConfig
  | .setTime => .setTime

end Sys2Proof

namespace Sys2Proof.Machine

/-! ### Requests -/

/-- The word `w` written at REQUEST of port `p` completes a request that passes the port unit's checks: the
request is `r` and `ops` are its operand words (R162). -/
def State.receives (s : State) (p : PortId) (w : Word) (r : Request) (ops : List Word) : Prop :=
  s.inReset = false ∧ ∃ head, (s.port p).framed w = .complete head ops ∧ s.portCheck p head = .ok r

/-- The state after an engine has answered the request of port `p` with the outcome `a` and the further words
`ws`: MALFORMED is recorded for that outcome (R165), and the port stays WORKING, the engine holding the reply
until it completes the request (R163; notes/assumptions/3.md). -/
def State.answered (p : PortId) (a : Answer) (ws : List Word) (s : State) : State :=
  (s.recordMalformed p a).setPortState p (.working (.taken (replyWords a ws)) false)

/-- Words written one after another at REQUEST of port `p`, each request taken as it completes (R162). -/
def State.writes (p : PortId) : List Word → State → State
  | [], s => s
  | w :: ws, s => State.writes p ws (s.busWrite p 0 w .now)

/-- The number whose bytes, most significant first, are given (R171). -/
def bytesValue (bytes : List Byte) : Nat := bytes.foldl (fun n b => 256 * n + b.toNat) 0

/-! ### Invariants -/

/-- The three error words of a port hold settings only in the positions that name its conditions (R165,
R167, R171). -/
def Port.errorWordsNamed (p : PortId) (v : Port) : Prop :=
  v.status &&& ~~~p.conditions = 0 ∧ v.mask &&& ~~~p.conditions = 0 ∧ v.severity &&& ~~~p.conditions = 0

/-- The error words of every port hold settings only in named positions. -/
def State.errorWordsNamed (s : State) : Prop := ∀ p, (s.port p).errorWordsNamed p

/-- The notice unit's lists: a terminal stands once in the notice queue or once in the pending set, which is in
ascending order, not in both, and a pending terminal is masked (R153 to R156). -/
def Notices.ordered (n : Notices) : Prop :=
  n.queue.Nodup ∧ n.waiting.Pairwise (· < ·) ∧ (∀ t ∈ n.queue, t ∉ n.waiting) ∧ ∀ t ∈ n.waiting, n.masked t = true

/-- A tape queue holds at most 256 entries (R115). -/
def State.tapesFit (s : State) : Prop :=
  s.tape.ribbon0.queue.length ≤ Config.tapeCapacity ∧ s.tape.ribbon1.queue.length ≤ Config.tapeCapacity

/-- What the device mode fixes: the session is OPEN only in LIVE, and in CONFIG every ribbon and every board
link is OFF (R18, R107, R135, R178, R179). -/
def State.modeKept (s : State) : Prop :=
  s.mode = .config →
    s.quote.session = .closed ∧ s.tape.ribbon0.state = .off ∧ s.tape.ribbon1.state = .off ∧
      ∀ l < 4, (s.display.link l).state = .off

/-- The ranges of the timebase (R180, R181). -/
def State.timeInRange (s : State) : Prop :=
  s.timebase.millisecond < 1000 ∧ s.timebase.dayClock < Config.secondsPerDay

/-- What follows from a record's print list and anchors stands in its fields: high, low, last, tick and quote
condition; the list holds at most 8 prints, whose numbers follow one another up to the next print number (R4 to
R8, R57). -/
structure Instrument.derived (v : Instrument) : Prop where
  high : v.high = greatest (priceCollection v)
  low : v.low = least (priceCollection v)
  last : v.last = derivedLast v
  tick : v.tick = derivedTick v
  condition : v.quoteCondition = quoteConditionOf v.bid v.ask v.fast
  length : v.prints.length ≤ Config.printListLength
  next : 1 ≤ v.nextNumber ∧ v.nextNumber ≤ 65535
  numbers : ∀ p ∈ v.prints, 1 ≤ p.number ∧ p.number ≤ 65535
  chain : ∀ (k : Nat) (p q : Print), v.prints[k]? = some p → v.prints[k + 1]? = some q →
    q.number = successor p.number
  newest : ∀ p, v.prints.getLast? = some p → v.nextNumber = successor p.number

/-- Every record of the instrument table holds what follows from its print list. -/
def State.recordsDerived (s : State) : Prop :=
  Table.wf Instrument.vacant s.quote.instruments = true ∧ ∀ i, (s.instr i).derived

/-- A terminal stands in an instrument's viewer set exactly when its open page's snapshot names the instrument, and
a dirty set names lines of its snapshot, each once, in ascending order (R140, R145). -/
def State.viewersFollowPages (s : State) : Prop :=
  Table.wf Instrument.vacant s.quote.instruments = true ∧
  (∀ i t, t ∈ (s.instr i).viewers ↔
    ∃ p f, (s.context t).page = some p ∧ some ⟨i, f⟩ ∈ p.snapshot) ∧
  (∀ i, (s.instr i).viewers.Pairwise (· < ·)) ∧
  ∀ t p, (s.context t).page = some p → p.dirty.Pairwise (· < ·) ∧ ∀ k ∈ p.dirty, k < p.snapshot.length

/-- Every present price of a record that is not VACANT is in the range of R1 and lies on the record's grid (R1). -/
def Instrument.pricesOnGrid (v : Instrument) : Prop :=
  v.trading ≠ .vacant → ∀ x ∈ storedPrices v, x ≤ 2559999 ∧ x % v.denominator.grid = 0

/-- The symbol directory is in its order and holds one entry for each record that is not VACANT, with that record's
symbol and class (R10). -/
def State.directoryKept (s : State) : Prop :=
  s.quote.directory.Pairwise (fun a b => a.before b = true) ∧
  (∀ e, e ∈ s.quote.directory ↔
    (s.instr e.index).trading ≠ .vacant ∧ (s.instr e.index).symbol = some e.symbol ∧ (s.instr e.index).cls = e.cls) ∧
  ∀ i, (s.instr i).trading ≠ .vacant → i < 2048 ∧ (s.instr i).symbol.isSome = true

/-- The invariants of the port units, the notice unit, the tape queues, the device mode, the timebase, the symbol
directory and the stored prices together. -/
structure State.wellKept (s : State) : Prop where
  errors : s.errorWordsNamed
  notices : s.notices.ordered
  tapes : s.tapesFit
  mode : s.modeKept
  time : s.timeInRange
  records : Table.wf Instrument.vacant s.quote.instruments = true
  directory : s.directoryKept
  grid : ∀ i, (s.instr i).pricesOnGrid

/-! ### The board -/

/-- The cells of the list are linked by their next fields from the head, and the last of them has none (R84). -/
def Display.strung (d : Display) : Option Nat → List Nat → Prop
  | none, [] => True
  | none, _ :: _ => False
  | some _, [] => False
  | some c, b :: l => c = b ∧ d.strung (d.cell c).next l

/-- The cell field is a field of the instrument: the cell belongs to that instrument's binding list (R84). -/
def CellField.ofInstrument (i : Nat) : CellField → Bool
  | .instrument _ j => decide (j = i)
  | .clock => false
  | .market => false
  | .tapeState _ => false

/-- The binding list with the given head ends, and holds each BOUND cell whose field its owner has, once, and no
other cell (R84). -/
def Display.lists (d : Display) (head : Option Nat) (owns : CellField → Bool) : Prop :=
  d.strung head (d.bindingList head) ∧ (d.bindingList head).Nodup ∧
    ∀ c, c ∈ d.bindingList head ↔ (d.cell c).bound = true ∧ owns (d.cell c).field = true

/-- The tables of the board engine and of the links are in canonical form. -/
structure Display.canonical (d : Display) : Prop where
  cells : Table.wf Cell.vacant d.cells = true
  panels : Table.wf Panel.absent d.panels = true
  modules : ∀ e ∈ d.links, Table.wf Module.reset e.2.modules = true

/-- Present panels lie in their ranges and share no cell index (R77). -/
structure Display.panelsKept (d : Display) : Prop where
  range : ∀ n, (d.panel n).present = true →
    n < 64 ∧ (d.panel n).link ≤ 3 ∧ 1 ≤ (d.panel n).limit ∧ (d.panel n).base + (d.panel n).limit ≤ 4096
  apart : ∀ n m c, (d.panel n).covers c = true → (d.panel m).covers c = true → n = m

/-- A VACANT cell holds the vacant values. A BOUND cell lies in a present panel's range and within the geometry of
its module, which is configured, and shares no column with another BOUND cell of the module and row (R80). -/
structure Display.cellsKept (d : Display) : Prop where
  vacant : ∀ c, (d.cell c).bound = false → d.cell c = Cell.vacant
  placed : ∀ c, (d.cell c).bound = true → c < 4096 ∧ ∃ p, d.panelOf c = some p ∧
    let e := (d.link p.link).module (d.cell c).address
    e.state ≠ .unconfigured ∧ (d.cell c).row ≤ e.rows ∧ (d.cell c).column + (d.cell c).width - 1 ≤ e.columns
  apart : ∀ b c, b ≠ c → (d.cell b).bound = true → (d.cell c).bound = true → d.linkOf b = d.linkOf c →
    (d.cell b).address = (d.cell c).address → (d.cell b).row = (d.cell c).row →
      (d.cell b).column + (d.cell b).width ≤ (d.cell c).column ∨
        (d.cell c).column + (d.cell c).width ≤ (d.cell b).column

/-- A cell's queued flag is set exactly where it stands in a repaint queue: once, in the queue of its link, and it
is paintable (R80, R87). -/
structure Display.queuesKept (d : Display) : Prop where
  once : ∀ l, (d.queue l).Nodup
  queued : ∀ c l, c ∈ d.queue l ↔ (d.cell c).queued = true ∧ d.linkOf c = some l
  paintable : ∀ c, (d.cell c).queued = true → d.paintable c = true

/-- A cell stands in the highlight list, once, exactly where its highlight expiry is present (R80, R94). -/
def Display.highlightsKept (d : Display) : Prop :=
  d.highlights.Nodup ∧ ∀ c, c ∈ d.highlights ↔ (d.cell c).expiry.isSome = true

/-- The invariants of the panel table, the cell table, the repaint queues, the highlight list and the binding
lists. -/
structure State.boardKept (s : State) : Prop where
  records : Table.wf Instrument.vacant s.quote.instruments = true
  tables : s.display.canonical
  panels : s.display.panelsKept
  cells : s.display.cellsKept
  queues : s.display.queuesKept
  highlights : s.display.highlightsKept
  instruments : ∀ i, s.display.lists (s.instr i).bindHead (CellField.ofInstrument i)
  device : s.display.lists s.display.deviceHead fun f => !f.isInstrument

end Sys2Proof.Machine
end

