-- ==== Sys2Proof/Certificates/Slice0/Obligations.lean ====
section
/-! DEFINITION. The statements about the part, for the provers. The operand words of a request are read with
`operand`, `operandPair`, `priceOperand`, ... of Machine/Operands.lean (R172); `State.receives` and
`State.answered` are of Safety.lean. -/

open Sys2Proof Sys2Proof.Machine

/-! ### The step and the master ports -/

/-- The step takes the command at the front of the queue and is its meaning on the state with the queue's rest;
on an empty queue the part stays as it is (the model's choice, notes/assumptions/16.md). -/
def Obligations.StepTakesTheFrontCommand : Prop :=
  (∀ (c : Instr) (rest : List Instr) (s : State),
    s.pending = c :: rest → step s = exec c { s with pending := rest }) ∧
  ∀ s : State, s.pending = [] → step s = .next s

/-- Every command answers with a next state; it leaves the queue of commands as it is, and only DEVICE_RESET
and RESET_RELEASE move the RESET level (R182). -/
def Obligations.CommandsRunAndLeaveTheQueue : Prop :=
  ∀ (c : Instr) (s : State), ∃ t, exec c s = .next t ∧ t.pending = s.pending ∧
    (c ≠ .deviceReset → c ≠ .resetRelease → t.inReset = s.inReset)

/-- R161, R162, R163, R182: REGISTER_WRITE. At REQUEST a word that does not complete a request is collected, the
first 11 operands being stored; in WORKING it is discarded and records OVERRUN. A write at REPLY, at STATUS, at
address 7, or at CONTROL with bit 0 clear changes nothing, and while RESET is low every write is ignored. (A write
at an error register, or at CONTROL with bit 0 set, has a row of its own.) -/
def Obligations.RegisterWriteByLocation : Prop :=
  ∀ (s : State) (p : PortId) (w : Word) (k : Taking),
    exec (.registerWrite p 1 w k) s = .next s ∧ exec (.registerWrite p 2 w k) s = .next s ∧
    exec (.registerWrite p 7 w k) s = .next s ∧
    (w.getLsbD 0 = false → exec (.registerWrite p 6 w k) s = .next s) ∧
    (s.inReset = true → ∀ loc, exec (.registerWrite p loc w k) s = .next s) ∧
    exec (.registerWrite p 3 w k) s = exec (.errorStatusWrite p w) s ∧
    exec (.registerWrite p 4 w k) s = exec (.errorMaskWrite p w) s ∧
    exec (.registerWrite p 5 w k) s = exec (.errorSeverityWrite p w) s ∧
    exec (.registerWrite p 6 w k) s = exec (.portReset p w) s ∧
    (s.inReset = false →
    (((s.port p).state = .idle ∨ ∃ ws, (s.port p).state = .reply ws) → loByte w ≠ 0 →
      exec (.registerWrite p 0 w k) s = .next (s.setPortState p (.collecting w [] (loByte w).toNat))) ∧
    (∀ head stored left, (s.port p).state = .collecting head stored left → 2 ≤ left →
      exec (.registerWrite p 0 w k) s = .next (s.setPortState p
        (.collecting head (if stored.length < 11 then stored ++ [w] else stored) (left - 1)))) ∧
    ∀ stage discard, (s.port p).state = .working stage discard →
      exec (.registerWrite p 0 w k) s =
        .next (s.setPort p { s.port p with status := (s.port p).status ||| 1 }))

/-- R162: a request of n operands, 1 to 11, written word by word at an IDLE port that is not HELD leaves the
port COLLECTING its last operand, and the write of that operand completes the request for its engine; a request
without operands is complete with its word 0.

R172: word 0 names the request whose code is its high byte; the codes are those of the request code table.

R162: a request that passes is handed to its engine, and the port becomes WORKING. Where the engine takes it
later, only the port changes, and it takes the request when it completes it; the write at REQUEST and the
request's own row do the same (the rows are the model's choice, notes/assumptions/1.md to 3.md). -/
def Obligations.RequestsReachTheirEngines : Prop :=
  (∀ (head : Word) (r : Request), requestOf head = some r ↔ (head.extractLsb' 8 8).toNat = r.code) ∧
  [Request.tradeReport, .quoteReport, .sequenceReset, .readInstrument, .findSymbol, .defineInstrument,
    .modifyInstrument, .removeInstrument, .openSession, .closeSession, .rollSession, .halt, .resume, .setFastMarket,
    .clearFastMarket, .cancelPrint, .correctPrint, .tapeText, .definePanel, .removePanel, .panelDark, .panelLight,
    .defineCell, .removeCell, .moduleRestart, .lampTestStart, .lampTestStop, .readLink, .ribbonRestart, .ribbonRate,
    .readRibbon, .writeDescriptor, .writeLine, .setLocalTable, .openPage, .closePage, .writePageLine,
    .readChangedLine, .readLine, .setNoticeMask, .takeNotice, .configure, .goLive, .goConfig, .setTime].map
      Request.code =
    [0x01, 0x02, 0x03, 0x04, 0x05, 0x10, 0x11, 0x12, 0x13, 0x14, 0x15, 0x18, 0x19, 0x1A, 0x1B, 0x1C, 0x1D, 0x1E,
      0x20, 0x21, 0x22, 0x23, 0x24, 0x25, 0x28, 0x29, 0x2A, 0x2B, 0x30, 0x31, 0x32, 0x38, 0x39, 0x40, 0x41, 0x42,
      0x43, 0x44, 0x45, 0x48, 0x49, 0x70, 0x71, 0x72, 0x73] ∧
  (∀ (s : State) (p : PortId) (r : Request) (head : Word),
    s.inReset = false → (s.port p).state = .idle → (s.port p).held = false →
    requestOf head = some r → r.permits p = true →
      (loByte head = 0 → s.receives p head r []) ∧
      ∀ (ops : List Word) (last : Word), ops.length < 11 → (loByte head).toNat = ops.length + 1 →
        State.writes p (head :: ops) s = s.setPortState p (.collecting head ops 1) ∧
        (s.setPortState p (.collecting head ops 1)).receives p last r (ops ++ [last])) ∧
  (∀ (s : State) (p : PortId) (w : Word) (r : Request) (ops : List Word), s.receives p w r ops →
    exec (r.row p w .later) s = .next (s.setPortState p (.working (.handed r ops) false)) ∧
    (∀ k, exec (.registerWrite p 0 w k) s = exec (r.row p w k) s) ∧
    exec (r.row p w .now) s = .next (s.takeRequest p (engineOf p r) ops false) ∧
    ∀ (u : State) (discard : Bool), (u.port p).state = .working (.handed r ops) discard →
      exec (.requestComplete p) u = exec (.requestComplete p) (u.takeRequest p (engineOf p r) ops discard))

/-- R162: the port unit's checks on a complete request, in order: HELD, MALFORMED (recorded), NOT_PERMITTED. The
port becomes REPLY with the reply of one word. UNLISTED_REQUEST_CODE is the word that completes a request whose
code is in no row of the table. R172: the ports at which each request is permitted. -/
def Obligations.PortUnitRefusals : Prop :=
  (∀ r : Request, let feedOnly := [Request.tradeReport, .quoteReport, .sequenceReset]
    let anywhere := [Request.readInstrument, .findSymbol]
    let terminalOnly := [Request.setLocalTable, .openPage, .writePageLine, .readChangedLine, .readLine,
      .setNoticeMask, .takeNotice]
    (r.permits .feed = true ↔ r ∈ feedOnly ∨ r ∈ anywhere) ∧
    (r.permits .terminal = true ↔ r ∈ terminalOnly ∨ r ∈ anywhere ∨ r = .closePage) ∧
    (r.permits .supervisor = true ↔ r ∉ feedOnly ∧ r ∉ terminalOnly)) ∧
  ∀ (s : State) (p : PortId) (w head : Word) (k : Taking) (ops : List Word), s.inReset = false →
    (s.port p).framed w = .complete head ops →
      ((s.port p).held = true →
        exec (.registerWrite p 0 w k) s = .next (s.setPortState p (.reply [0x1000]))) ∧
      ((s.port p).held = false → requestOf head = none ∨ 11 < (loByte head).toNat →
        exec (.registerWrite p 0 w k) s =
          .next ((s.record p .malformed).setPortState p (.reply [0x1300]))) ∧
      (∀ r, (s.port p).held = false → requestOf head = some r → (loByte head).toNat ≤ 11 →
        r.permits p = false →
          exec (.registerWrite p 0 w k) s = .next (s.setPortState p (.reply [0x1200]))) ∧
      (requestOf head = none → exec (.unlistedRequestCode p w) s = exec (.registerWrite p 0 w k) s)

/-- R163: each read of REPLY in REPLY returns the next word, the read of the last taking the port to IDLE; in any
other state it returns FFFFh and changes nothing. The word read stands in `dataOut`
(notes/assumptions/12.md).

R161, R171, R182: the words of the other locations. STATUS holds the port state (0 IDLE, 1 COLLECTING, 2 WORKING,
3 REPLY), HELD, the attention line and the reply words remaining, and 0 in every other bit; while RESET is low every
read returns FFFFh. -/
def Obligations.ReadCycles : Prop :=
  (∀ (s : State) (p : PortId), s.inReset = false →
    (∀ w v ws, (s.port p).state = .reply (w :: v :: ws) →
      exec (.replyRead p 1) s =
        .next (s.setPort p { s.port p with dataOut := w, state := .reply (v :: ws) })) ∧
    (∀ w, (s.port p).state = .reply [w] →
      exec (.replyRead p 1) s = .next (s.setPort p { s.port p with dataOut := w, state := .idle })) ∧
    ((∀ ws, (s.port p).state ≠ .reply ws) →
      exec (.replyRead p 1) s = .next (s.setPort p { s.port p with dataOut := 0xFFFF }))) ∧
  (∀ (s : State) (p : PortId) (loc : Fin 8),
    (loc ≠ 1 ∨ s.inReset = true →
      exec (.replyRead p loc) s = .next (s.setPort p { s.port p with dataOut := s.readWord p loc })) ∧
    (s.inReset = true → s.readWord p loc = 0xFFFF) ∧
    (s.inReset = false →
      s.readWord p 0 = 0xFFFF ∧ s.readWord p 6 = 0xFFFF ∧ s.readWord p 7 = 0xFFFF ∧
      s.readWord p 3 = (s.port p).status ∧ s.readWord p 4 = (s.port p).mask ∧
      s.readWord p 5 = (s.port p).severity ∧
      (s.readWord p 2).getLsbD 2 = (s.port p).held ∧ (s.readWord p 2).getLsbD 3 = s.attention p ∧
      ((s.readWord p 2).extractLsb' 0 2).toNat = (match (s.port p).state with
        | .idle => 0
        | .collecting _ _ _ => 1
        | .working _ _ => 2
        | .reply _ => 3) ∧
      ((∀ ws, (s.port p).state = .reply ws → ws.length ≤ 24) →
        ∀ k, 4 ≤ k → k < 8 ∨ 13 ≤ k → (s.readWord p 2).getLsbD k = false) ∧
      (∀ ws, (s.port p).state = .reply ws → ws.length ≤ 24 →
        ((s.readWord p 2).extractLsb' 8 5).toNat = ws.length) ∧
      ((∀ ws, (s.port p).state ≠ .reply ws) → ((s.readWord p 2).extractLsb' 8 5).toNat = 0)))

/-- R166: a word written to ERROR STATUS clears each condition whose position holds 1 and leaves the others. A 1
in a position that names no condition has no effect. The attention line and HELD follow from what is left, and a
recording before the write is cleared with it, one after it stands. -/
def Obligations.ErrorStatusWriteClears : Prop :=
  ∀ (s : State) (p : PortId) (w : Word) (c : Condition), s.inReset = false → (s.port p).errorWordsNamed p →
    ∃ t, exec (.errorStatusWrite p w) s = .next t ∧
      t = s.setPort p { s.port p with status := (t.port p).status } ∧
      (∀ k, (t.port p).status.getLsbD k = ((s.port p).status.getLsbD k && !w.getLsbD k)) ∧
      exec (.errorStatusWrite p (w &&& p.conditions)) s = .next t ∧
      ((∀ k, (s.port p).status.getLsbD k = true → (s.port p).mask.getLsbD k = false → w.getLsbD k = true) →
        (t.port p).calls = false) ∧
      ((∀ k, (s.port p).status.getLsbD k = true → (s.port p).mask.getLsbD k = false →
          (s.port p).severity.getLsbD k = true → w.getLsbD k = true) → (t.port p).held = false) ∧
      (w.getLsbD c.position = true → ∃ u, exec (.errorStatusWrite p w) (s.record p c) = .next u ∧
        (u.port p).status.getLsbD c.position = false) ∧
      ((t.record p c).port p).status.getLsbD c.position = true

/-- R167: a word written to ERROR MASK or ERROR SEVERITY replaces all of the port's settings together, positions
that name no condition being ignored; the port is HELD exactly when a recorded condition is both unmasked and
STOPPING.

R158, R168: the attention line of a port is asserted exactly while its error status holds an unmasked condition, that
of the T-port also while the notice queue is not empty.

R165, R171: the positions of the conditions in the error words, and that a recording sets the condition's position
alone. -/
def Obligations.MaskAndSeverityWrites : Prop :=
  ([Condition.overrun, .malformed, .unknownInstrument, .priceGrid, .tradeHalted, .sessionClosed, .sequenceGap].map
      Condition.position = [0, 1, 2, 3, 4, 5, 6] ∧
    [Condition.moduleDown, .ribbonFault].map Condition.position = [2, 3] ∧ Condition.rank.position = 2 ∧
    (∀ k, PortId.feed.conditions.getLsbD k = true ↔ k < 7) ∧
    (∀ k, PortId.supervisor.conditions.getLsbD k = true ↔ k < 4) ∧
    ∀ k, PortId.terminal.conditions.getLsbD k = true ↔ k < 3) ∧
  (∀ (s : State) (p : PortId) (c : Condition), ∃ status : Word,
    s.record p c = s.setPort p { s.port p with status := status } ∧
    ∀ k, status.getLsbD k = ((s.port p).status.getLsbD k || decide (k = c.position))) ∧
  (∀ (s : State) (p : PortId), s.inReset = false →
    (s.attention p = true ↔
      (∃ k, (s.port p).status.getLsbD k = true ∧ (s.port p).mask.getLsbD k = false) ∨
        p = .terminal ∧ s.notices.queue ≠ [])) ∧
  ∀ (s : State) (p : PortId) (w : Word), s.inReset = false →
    exec (.errorMaskWrite p w) s = .next (s.setPort p { s.port p with mask := w &&& p.conditions }) ∧
    exec (.errorSeverityWrite p w) s = .next (s.setPort p { s.port p with severity := w &&& p.conditions }) ∧
    ((s.port p).held = true ↔ ∃ k, (s.port p).status.getLsbD k = true ∧ (s.port p).mask.getLsbD k = false ∧
      (s.port p).severity.getLsbD k = true)

/-- R169, R41, R75: the reset of the F-port or of the S-port. The error status is cleared, mask and severity are
kept, a WORKING port stays WORKING with its reply to be discarded, any other becomes IDLE; the feed sequence
expectation is unset and the text assembly buffer emptied, unless the port is WORKING.

R152, R160, R169: the reset of the T-port closes every terminal context, clears the viewer sets and with
them nothing else of the records, and empties the notice queue and the pending set; masks are kept. That raises
on their way are undone is the model's choice (notes/assumptions/19.md). -/
def Obligations.PortResets : Prop :=
  (∀ (s : State) (w : Word), s.inReset = false → w.getLsbD 0 = true →
    (∀ stage discard, (s.port .feed).state = .working stage discard →
      exec (.portReset .feed w) s =
        .next (s.setPort .feed { s.port .feed with state := .working stage true, status := 0 })) ∧
    ((∀ stage discard, (s.port .feed).state ≠ .working stage discard) →
      exec (.portReset .feed w) s =
        .next ((s.setPort .feed { s.port .feed with state := .idle, status := 0 }).setExpectation none)) ∧
    (∀ stage discard, (s.port .supervisor).state = .working stage discard →
      exec (.portReset .supervisor w) s =
        .next (s.setPort .supervisor
          { s.port .supervisor with state := .working stage true, status := 0 })) ∧
    ((∀ stage discard, (s.port .supervisor).state ≠ .working stage discard) →
      exec (.portReset .supervisor w) s =
        .next ((s.setPort .supervisor
          { s.port .supervisor with state := .idle, status := 0 }).setTextBuffer none))) ∧
  (∀ (s : State) (w : Word), s.inReset = false → w.getLsbD 0 = true →
    Table.wf Instrument.vacant s.quote.instruments = true →
    ∃ t, exec (.portReset .terminal w) s = .next t ∧
      (t.port .terminal).status = 0 ∧ (t.port .terminal).mask = (s.port .terminal).mask ∧
      (t.port .terminal).severity = (s.port .terminal).severity ∧
      (t.port .terminal).state = (match (s.port .terminal).state with
        | .working stage _ => .working stage true
        | .idle => .idle
        | .collecting _ _ _ => .idle
        | .reply _ => .idle) ∧
      t.port .feed = s.port .feed ∧ t.port .supervisor = s.port .supervisor ∧
      t.ports.textBuffer = s.ports.textBuffer ∧
      (∀ n, t.context n = Context.reset) ∧
      (∀ i, t.instr i = { s.instr i with viewers := [] }) ∧
      t.notices = { s.notices with queue := [], waiting := [] } ∧
      t.transit = { s.transit with raises := [] } ∧
      t.pages = { s.pages with contexts := t.pages.contexts } ∧
      t.quote = { s.quote with instruments := t.quote.instruments } ∧
      t.mode = s.mode ∧ t.display = s.display ∧ t.tape = s.tape ∧ t.timebase = s.timebase ∧
      t.items = s.items ∧ t.pending = s.pending ∧ t.inReset = false)

/-- R163, R169, R20: REQUEST_COMPLETE. The reply of a taken request is stored and the port becomes REPLY; after a
reset of the port the reply is discarded, the port becomes IDLE, and the effects that the reset left are made;
while a roll goes on at the S-port the request is not complete; without a request nothing changes. -/
def Obligations.RequestCompletion : Prop :=
  ∀ (s : State) (p : PortId) (words : List Word) (discard : Bool),
    ((s.port p).state = .working (.taken words) discard →
      (p = .supervisor → s.quote.rolling = []) →
        (discard = false → exec (.requestComplete p) s = .next (s.setPortState p (.reply words))) ∧
        (discard = true → p = .feed →
          exec (.requestComplete p) s = .next ((s.setPortState p .idle).setExpectation none)) ∧
        (discard = true → p = .supervisor →
          exec (.requestComplete p) s = .next ((s.setPortState p .idle).setTextBuffer none)) ∧
        (discard = true → p = .terminal →
          exec (.requestComplete p) s = .next (s.setPortState p .idle))) ∧
    ((s.port p).state = .working (.taken words) discard → p = .supervisor → s.quote.rolling ≠ [] →
      exec (.requestComplete p) s = .next s) ∧
    ((∀ stage d, (s.port p).state ≠ .working stage d) → exec (.requestComplete p) s = .next s)

/-- R174: NONE, EMPTY and every refusal other than DUPLICATE have a count of 0 in word 0, DUPLICATE has a count of
1: of every request at its engine, and of the port unit's own refusals. The high byte of word 0 is the code that the
table of outcome codes gives. R165: a refusal MALFORMED, and no other, records MALFORMED at the port. -/
def Obligations.RefusalReplyCounts : Prop :=
  [Answer.done, .duplicate, .noLine, .empty, .held, .notLive, .notPermitted, .malformed, .unknownInstrument,
    .sessionClosed, .tradeHalted, .priceGrid, .tapeFull, .tooOld, .notFound, .inUse, .duplicateSymbol, .overlap,
    .outOfRange, .notPresent, .wrongKind, .noLocalTable, .rank, .busy].map Answer.code =
    [0x00, 0x01, 0x02, 0x03, 0x10, 0x11, 0x12, 0x13, 0x14, 0x15, 0x16, 0x17, 0x18, 0x19, 0x1A, 0x1B, 0x1C, 0x1D, 0x1E,
      0x1F, 0x20, 0x21, 0x22, 0x23] ∧
  (∀ (a : Answer) (ws : List Word), ((replyWords a ws).headD 0).extractLsb' 8 8 = a.code ∧
    (replyWords a ws).drop 1 = ws) ∧
  (∀ (s : State) (p : PortId) (a : Answer), s.recordMalformed p .malformed = s.record p .malformed ∧
    (a ≠ .malformed → s.recordMalformed p a = s)) ∧
  (∀ (p : PortId) (r : Request) (ops : List Word) (s : State),
    let x := engineOf p r ops s
    (x.answer ≠ .done → x.answer ≠ .duplicate →
      x.words = [] ∧ (replyWords x.answer x.words).map loByte = [0]) ∧
    (x.answer = .duplicate → loByte ((replyWords x.answer x.words).headD 0) = 1)) ∧
  ∀ (p : PortId) (head : Word) (s : State) (a : Answer), s.portCheck p head = .error a →
    a ≠ .done ∧ a ≠ .duplicate ∧ ((s.refuseAt p a).port p).state = .reply [wordOf a.code 0]

/-- R3, R43, R44, R165: an outcome other than DONE changes nothing at the engine, but for the sequence effects
and the recorded conditions of a report and the RANK that WRITE PAGE LINE records. -/
def Obligations.RefusalsChangeNothing : Prop :=
  ∀ (p : PortId) (r : Request) (ops : List Word) (s : State),
    let x := engineOf p r ops s
    x.answer ≠ .done →
      x.state = s ∨
      ((r = .tradeReport ∨ r = .quoteReport) ∧ ∃ e status,
        x.state = (s.setExpectation e).setPort .feed { s.port .feed with status := status }) ∨
      (r = .writePageLine ∧ x.answer = .rank ∧ x.state = s.record .terminal .rank)

/-! ### Instruments and the session -/

/-- R17, R174: READ INSTRUMENT of a record that is not VACANT answers DONE with 23 words and changes nothing; the
bytes of the reply stand where the READ INSTRUMENT reply table places them. An index above 2047 is MALFORMED, and so,
as the model reads it (notes/assumptions/22.md), is a wrong word count; a VACANT record is UNKNOWN_INSTRUMENT.

R11: FIND SYMBOL answers DONE with the index of the entry with that symbol and class, NOT_FOUND where no
entry matches, MALFORMED for a wrong word count or an operand that is no symbol, and changes nothing else.

R171, R172: the bytes of words, high byte first; a symbol operand is 1 to 4 letters A to Z, the rest 00h, with a class
that is a letter or 00h for none. (That a wrong word count of READ INSTRUMENT or of FIND SYMBOL is MALFORMED, which
R17 and R11 do not say, and that the high byte of the third word is not examined, are the model's readings,
notes/assumptions/22.md and 29.md.) R174: the codes of the READ INSTRUMENT reply. -/
def Obligations.RecordsAreLookedUp : Prop :=
  (∀ (s : State) (p : PortId) (w : Word) (ops : List Word), s.receives p w .readInstrument ops →
    ops.length = 1 → operand ops 0 < 2048 → ¬ (s.instr (operand ops 0)).isVacant →
    (∀ l, (s.instr (operand ops 0)).symbol = some l → l.length ≤ 4) →
      ∃ ws, exec (.readInstrument p w .now) s = .next (s.answered p .done ws) ∧ ws.length = 23 ∧
        let v := s.instr (operand ops 0)
        let b := wordBytes ws
        b.take 4 = (v.symbol.getD [] ++ List.replicate 4 0).take 4 ∧ b.getD 4 0 = v.cls.getD 0 ∧
        (v.trading = .active → b.getD 5 0 = 0x40) ∧
        (∀ n, v.trading = .halted n → n ≤ 15 → (b.getD 5 0).toNat = 128 + n) ∧
        b.getD 6 0 = BitVec.ofNat 8 (64 * v.denominator.code + 16 * v.ribbonSet.code
          + 4 * v.quoteCondition.code + 2 * v.fast.toNat + v.reversal.toNat) ∧
        b.getD 7 0 = BitVec.ofNat 8 (128 * v.saturated.toNat + v.tick.code) ∧
        b.getD 8 0 = BitVec.ofNat 8 (64 * v.prevClose.isSome.toNat + 32 * v.opening.isSome.toNat
          + 16 * v.high.isSome.toNat + 8 * v.low.isSome.toNat + 4 * v.last.isSome.toNat
          + 2 * v.bid.isSome.toNat + v.ask.isSome.toNat) ∧
        bytesValue ((b.drop 9).take 3) = v.prevClose.getD 0 % 16777216 ∧
        bytesValue ((b.drop 12).take 3) = (v.opening.map (·.price)).getD 0 % 16777216 ∧
        bytesValue ((b.drop 15).take 3) = v.high.getD 0 % 16777216 ∧
        bytesValue ((b.drop 18).take 3) = v.low.getD 0 % 16777216 ∧
        bytesValue ((b.drop 21).take 3) = (v.last.map (·.price)).getD 0 % 16777216 ∧
        bytesValue ((b.drop 24).take 3) = v.bid.getD 0 % 16777216 ∧
        bytesValue ((b.drop 27).take 3) = v.ask.getD 0 % 16777216 ∧
        bytesValue ((b.drop 30).take 3) = (v.last.map (·.size)).getD 0 % 16777216 ∧
        bytesValue ((b.drop 33).take 4) = v.volume % 4294967296 ∧
        bytesValue ((b.drop 37).take 2) = v.tradeCount % 65536 ∧
        bytesValue ((b.drop 39).take 2) = v.bidSize % 65536 ∧
        bytesValue ((b.drop 41).take 2) = v.askSize % 65536 ∧
        bytesValue ((b.drop 43).take 2) = v.nextNumber % 65536 ∧ b.getD 45 0 = 0) ∧
  (∀ (s : State) (p : PortId) (w : Word) (ops : List Word), s.receives p w .findSymbol ops → ops.length = 3 →
    (∀ symbol cls e, symbolOperand ops 0 = some (symbol, cls) → e ∈ s.quote.directory → e.symbol = symbol →
      e.cls = cls → (∀ f ∈ s.quote.directory, f.symbol = symbol → f.cls = cls → f.index = e.index) →
        exec (.findSymbol p w .now) s = .next (s.answered p .done [BitVec.ofNat 16 e.index])) ∧
    (∀ symbol cls, symbolOperand ops 0 = some (symbol, cls) →
      (∀ e ∈ s.quote.directory, ¬ (e.symbol = symbol ∧ e.cls = cls)) →
        exec (.findSymbol p w .now) s = .next (s.answered p .notFound [])) ∧
    (symbolOperand ops 0 = none → exec (.findSymbol p w .now) s = .next (s.answered p .malformed []))) ∧
  (∀ (s : State) (p : PortId) (w : Word) (ops : List Word), s.receives p w .readInstrument ops →
    let formed : Prop := ops.length = 1 ∧ operand ops 0 < 2048
    (¬ formed → exec (.readInstrument p w .now) s = .next (s.answered p .malformed [])) ∧
    (formed → (s.instr (operand ops 0)).trading = .vacant →
      exec (.readInstrument p w .now) s = .next (s.answered p .unknownInstrument []))) ∧
  (∀ (s : State) (p : PortId) (w : Word) (ops : List Word), s.receives p w .findSymbol ops → ops.length ≠ 3 →
    exec (.findSymbol p w .now) s = .next (s.answered p .malformed [])) ∧
  (∀ (w : Word) (ws : List Word),
    wordBytes [] = [] ∧ wordBytes (w :: ws) = w.extractLsb' 8 8 :: w.extractLsb' 0 8 :: wordBytes ws) ∧
  ([Denominator.eighths, .sixteenths, .thirtySeconds, .sixtyFourths].map Denominator.code = [0, 1, 2, 3] ∧
    [RibbonSet.neither, .zero, .one, .both].map RibbonSet.code = [0, 1, 2, 3] ∧
    [QuoteCondition.firm, .nonFirm, .crossed].map QuoteCondition.code = [0, 1, 2] ∧
    [Tick.flat, .up, .zeroUp, .down, .zeroDown].map Tick.code = [0, 1, 2, 3, 4]) ∧
  ∀ (ops : List Word) (i : Nat) (symbol : Text) (cls : Option Byte),
    let letter (b : Byte) : Prop := 0x41 ≤ b.toNat ∧ b.toNat ≤ 0x5A
    let c : Byte := (ops.getD (i + 2) 0).extractLsb' 0 8
    symbolOperand ops i = some (symbol, cls) ↔
      1 ≤ symbol.length ∧ symbol.length ≤ 4 ∧ (∀ b ∈ symbol, letter b) ∧
      wordBytes [ops.getD i 0, ops.getD (i + 1) 0] = symbol ++ List.replicate (4 - symbol.length) 0 ∧
      (cls = none ∧ c = 0 ∨ cls = some c ∧ letter c)

/-- R10, R12, R13: a DEFINE INSTRUMENT that passes its checks creates the record and its directory entry, keeps the
binding list head and the viewer set, and hands on the changed-field set; any other is refused by the first check
that fails. The entry goes to its place in the order of the directory: by symbol, a symbol before its extensions,
then by class, an absent class first.

R172: the codes of the denominators and of the ribbon sets; a block threshold operand is 0 for none, or 100 to
9,999,999. (That a wrong word count is MALFORMED, which R12 does not say, is the model's reading,
notes/assumptions/22.md.) -/
def Obligations.DefineInstrumentCreatesTheRecord : Prop :=
  (∀ (s : State) (p : PortId) (w : Word) (ops : List Word), s.receives p w .defineInstrument ops →
    let i := operand ops 0
    let v := s.instr i
    let refuses (a : Answer) : Prop := exec (.defineInstrument p w .now) s = .next (s.answered p a [])
    let formed (symbol : Text) (cls : Option Byte) (d : Denominator) (rs : RibbonSet) (close th : Option Nat) : Prop :=
      ops.length = 10 ∧ i < 2048 ∧ symbolOperand ops 1 = some (symbol, cls) ∧
      Denominator.ofCode (operand ops 4) = some d ∧ RibbonSet.ofCode (operand ops 5) = some rs ∧
      optionalPrice ops 6 = some close ∧ thresholdOperand ops 8 = some th
    ((∀ symbol cls d rs close th, ¬ formed symbol cls d rs close th) → refuses .malformed) ∧
    ∀ symbol cls d rs close th, formed symbol cls d rs close th →
      let fresh : Prop := ∀ e ∈ s.quote.directory, ¬ (e.symbol = symbol ∧ e.cls = cls)
      let even : Prop := ∀ c, close = some c → c % d.grid = 0
      (v.trading ≠ .vacant → refuses .inUse) ∧
      (v.trading = .vacant → ¬ fresh → refuses .duplicateSymbol) ∧
      (v.trading = .vacant → fresh → ¬ even → refuses .priceGrid) ∧
      (v.trading = .vacant → fresh → even →
        exec (.defineInstrument p w .now) s =
          .next ((((s.setInstr i
            { symbol := some symbol, cls := cls, trading := .active, denominator := d, ribbonSet := rs
              blockThreshold := th, prevClose := close, opening := none, high := none, low := none, last := none
              anchorHigh := none, anchorLow := none, anchorLast := none, tick := .flat, carriedTick := .flat
              reversal := false, volume := 0, saturated := false, tradeCount := 0, bid := none, ask := none
              bidSize := 0, askSize := 0, quoteCondition := .firm, fast := false, nextNumber := 1, prints := []
              bindHead := v.bindHead, viewers := v.viewers, digitRef0 := none, digitRef1 := none }).handOn i
                ([.symbol] ++ (if close.isSome then [.prevClose, .netChange] else []) ++ [.tick, .volume, .status])
                false).setDirectory
            (directoryInsert ⟨symbol, cls, i⟩ s.quote.directory)).answered p .done []))) ∧
  (∀ a b : DirEntry, a.before b = true ↔ a.symbol.map (·.toNat) < b.symbol.map (·.toNat) ∨
    a.symbol = b.symbol ∧ (a.cls = none ∧ b.cls.isSome = true ∨
      ∃ x y, a.cls = some x ∧ b.cls = some y ∧ x.toNat < y.toNat)) ∧
  (∀ (n : Nat) (d : Denominator), Denominator.ofCode n = some d ↔
    (n, d) ∈ [(0, Denominator.eighths), (1, .sixteenths), (2, .thirtySeconds), (3, .sixtyFourths)]) ∧
  (∀ (n : Nat) (x : RibbonSet), RibbonSet.ofCode n = some x ↔
    (n, x) ∈ [(0, RibbonSet.neither), (1, .zero), (2, .one), (3, .both)]) ∧
  (∀ (ops : List Word) (i : Nat), let v := 65536 * operand ops i + operand ops (i + 1)
    (v = 0 → thresholdOperand ops i = some none) ∧
    (100 ≤ v → v ≤ 9999999 → thresholdOperand ops i = some (some v)) ∧
    (1 ≤ v ∧ v < 100 ∨ 9999999 < v → thresholdOperand ops i = none)) ∧
  ∀ (e : DirEntry) (l : List DirEntry),
    (∀ f, f ∈ directoryInsert e l ↔ f = e ∨ f ∈ l) ∧
    (l.Pairwise (fun a b => a.before b = true) → (∀ f ∈ l, ¬ (f.symbol = e.symbol ∧ f.cls = e.cls)) →
      (directoryInsert e l).Pairwise fun a b => a.before b = true)

/-- R14, R15: a MODIFY INSTRUMENT that passes its checks replaces each present item; `rs`, `th`, `d` and `close`
are its present items. PREV_CLOSE and NET_CHANGE are handed on where the previous close alters. Any other is refused
by the first check that fails (that an absent item is not examined, and that a wrong word count is MALFORMED, are the
model's readings, notes/assumptions/21.md and 22.md).

R16: a REMOVE INSTRUMENT that passes its checks returns the record to its vacant values and deletes its
directory entry; nothing is handed on. Any other is refused by the first check that fails (that the digit references
stay, and that a wrong word count is MALFORMED, are the model's readings, notes/assumptions/18.md and 22.md). -/
def Obligations.InstrumentsAreModifiedAndRemoved : Prop :=
  (∀ (s : State) (p : PortId) (w : Word) (ops : List Word), s.receives p w .modifyInstrument ops →
    let i := operand ops 0
    let v := s.instr i
    let refuses (a : Answer) : Prop := exec (.modifyInstrument p w .now) s = .next (s.answered p a [])
    let formed (rs : Option RibbonSet) (th : Option (Option Nat)) (d : Option Denominator) (close : Option Nat) : Prop :=
      ops.length = 8 ∧ i < 2048 ∧
      itemPresent ops 0 = rs.isSome ∧ (∀ x, rs = some x → RibbonSet.ofCode (operand ops 2) = some x) ∧
      itemPresent ops 1 = th.isSome ∧ (∀ x, th = some x → thresholdOperand ops 3 = some x) ∧
      itemPresent ops 2 = d.isSome ∧ (∀ x, d = some x → Denominator.ofCode (operand ops 5) = some x) ∧
      optionalPrice ops 6 = some close ∧ (rs.isSome ∨ th.isSome ∨ d.isSome ∨ close.isSome)
    ((∀ rs th d close, ¬ formed rs th d close) → refuses .malformed) ∧
    ∀ rs th d close, formed rs th d close →
      let grid := (d.getD v.denominator).grid
      let shut : Prop := close.isSome → s.quote.session = .closed
      let off : Prop := rs.isSome → s.onTape i = false
      let even : Prop := (∀ c, close = some c → c % grid = 0) ∧
        ((d.getD v.denominator).value < v.denominator.value → ∀ c ∈ storedPrices v, c % grid = 0)
      (v.trading = .vacant → refuses .unknownInstrument) ∧
      (v.trading ≠ .vacant → ¬ shut → refuses .busy) ∧
      (v.trading ≠ .vacant → shut → ¬ off → refuses .inUse) ∧
      (v.trading ≠ .vacant → shut → off → ¬ even → refuses .priceGrid) ∧
      (v.trading ≠ .vacant → shut → off → even →
        exec (.modifyInstrument p w .now) s =
          .next (((s.setInstr i
            { v with
              ribbonSet := rs.getD v.ribbonSet, blockThreshold := th.getD v.blockThreshold
              denominator := d.getD v.denominator
              prevClose := if close.isSome then close else v.prevClose }).handOn i
                (if close.isSome ∧ close ≠ v.prevClose then [.prevClose, .netChange] else []) false).answered
            p .done []))) ∧
  (∀ (s : State) (p : PortId) (w : Word) (ops : List Word), s.receives p w .removeInstrument ops →
    let i := operand ops 0
    let v := s.instr i
    let refuses (a : Answer) : Prop := exec (.removeInstrument p w .now) s = .next (s.answered p a [])
    let unused : Prop := v.bindHead = none ∧ v.viewers = [] ∧ s.onTape i = false
    (¬ (ops.length = 1 ∧ i < 2048) → refuses .malformed) ∧
    (ops.length = 1 → i < 2048 →
      (v.trading = .vacant → refuses .unknownInstrument) ∧
      (v.trading ≠ .vacant → ¬ unused → refuses .inUse) ∧
      (v.trading ≠ .vacant → unused →
        exec (.removeInstrument p w .now) s =
          .next (((s.setInstr i
            { symbol := none, cls := none, trading := .vacant, denominator := .eighths, ribbonSet := .neither
              blockThreshold := none, prevClose := none, opening := none, high := none, low := none, last := none
              anchorHigh := none, anchorLow := none, anchorLast := none, tick := .flat, carriedTick := .flat
              reversal := false, volume := 0, saturated := false, tradeCount := 0, bid := none, ask := none
              bidSize := 0, askSize := 0, quoteCondition := .firm, fast := false, nextNumber := 1, prints := []
              bindHead := none, viewers := [], digitRef0 := v.digitRef0, digitRef1 := v.digitRef1 }).setDirectory
              (s.quote.directory.filter fun e => decide (e.index ≠ i))).answered p .done [])))) ∧
  (∀ (ops : List Word) (k : Nat), itemPresent ops k = (ops.getD 1 0).getLsbD k) ∧
  (∀ (s : State) (i : Nat), let entries := s.tape.ribbon0.queue ++ s.tape.ribbon1.queue
    s.onTape i = true ↔ (∃ number stamp copy, .print i number stamp copy ∈ entries) ∨
      ∃ text stamp, .notice text stamp (some i) ∈ entries) ∧
  ∀ (v : Instrument) (x : Nat), x ∈ storedPrices v ↔
    v.prevClose = some x ∨ v.opening.map (·.price) = some x ∨ v.high = some x ∨ v.low = some x ∨
    v.last.map (·.price) = some x ∨ v.anchorHigh = some x ∨ v.anchorLow = some x ∨
    v.anchorLast.map (·.price) = some x ∨ v.bid = some x ∨ v.ask = some x ∨ ∃ q ∈ v.prints, q.price = x

/-- R18, R19: OPEN SESSION in LIVE and CLOSE SESSION change the session, append their notice to each ribbon in
service and hand the change to the board engine; a session that stands as asked stays with all else. OPEN
SESSION is refused NOT_LIVE in CONFIG, and both are refused TAPE_FULL while a ribbon in service holds 256
entries; before that a nonzero operand count is MALFORMED. The ribbons in service are those not OFF, ribbon 0 alone
while JOINED. -/
def Obligations.SessionOpensAndCloses : Prop :=
  (∀ s : State, s.ribbonsInService.Nodup ∧ ∀ r, r ∈ s.ribbonsInService ↔
    r ≤ 1 ∧ (s.ribbon r).state ≠ .off ∧ (s.items.joined = true → r = 0)) ∧
  (∀ (s : State) (p : PortId) (w : Word) (ops : List Word), ops ≠ [] →
    (s.receives p w .openSession ops → exec (.openSession p w .now) s = .next (s.answered p .malformed [])) ∧
    (s.receives p w .closeSession ops → exec (.closeSession p w .now) s = .next (s.answered p .malformed []))) ∧
  ∀ (s : State) (p : PortId) (w : Word),
    let full := ∃ r ∈ s.ribbonsInService, 256 ≤ (s.ribbon r).queue.length
    (s.receives p w .openSession [] →
      (s.mode = .config → exec (.openSession p w .now) s = .next (s.answered p .notLive [])) ∧
      (s.mode = .live → s.quote.session = .opened →
        exec (.openSession p w .now) s = .next (s.answered p .done [])) ∧
      (s.mode = .live → s.quote.session = .closed → full →
        exec (.openSession p w .now) s = .next (s.answered p .tapeFull [])) ∧
      (s.mode = .live → s.quote.session = .closed → ¬ full →
        exec (.openSession p w .now) s =
          .next (({ s with
            quote := { s.quote with session := .opened }
            transit := { s.transit with sessionChanges := s.transit.sessionChanges + 1 } } : State).appendNotice
              s.ribbonsInService (ascii "MARKET OPEN") none |>.answered p .done []))) ∧
    (s.receives p w .closeSession [] →
      (s.quote.session = .closed → exec (.closeSession p w .now) s = .next (s.answered p .done [])) ∧
      (s.quote.session = .opened → full →
        exec (.closeSession p w .now) s = .next (s.answered p .tapeFull [])) ∧
      (s.quote.session = .opened → ¬ full →
        exec (.closeSession p w .now) s =
          .next (({ s with
            quote := { s.quote with session := .closed }
            transit := { s.transit with sessionChanges := s.transit.sessionChanges + 1 } } : State).appendNotice
              s.ribbonsInService (ascii "MARKET CLOSED") none |>.answered p .done [])))

/-- R20: ROLL SESSION with operands is MALFORMED; it is refused BUSY while the session is OPEN or a tape queue holds
an entry; otherwise it is to roll every record that is not VACANT, in ascending index, and ROLL_RECORD rolls the next
one (the list of the indices still to roll is the model's own, notes/assumptions/25.md). -/
def Obligations.RollSessionRollsEveryRecord : Prop :=
  (∀ (s : State) (p : PortId) (w : Word) (ops : List Word), s.receives p w .rollSession ops → ops ≠ [] →
    exec (.rollSession p w .now) s = .next (s.answered p .malformed [])) ∧
  ∀ (s : State) (p : PortId) (w : Word),
    (s.receives p w .rollSession [] →
      (s.quote.session = .opened ∨ s.tape.ribbon0.queue ≠ [] ∨ s.tape.ribbon1.queue ≠ [] →
        exec (.rollSession p w .now) s = .next (s.answered p .busy [])) ∧
      (s.quote.session = .closed → s.tape.ribbon0.queue = [] → s.tape.ribbon1.queue = [] →
        Table.wf Instrument.vacant s.quote.instruments = true →
        ∃ l, exec (.rollSession p w .now) s =
            .next ({ s with quote := { s.quote with rolling := l } }.answered p .done []) ∧
          l.Pairwise (· < ·) ∧ ∀ i, i ∈ l ↔ (s.instr i).trading ≠ .vacant)) ∧
    (∀ i rest, s.quote.rolling = i :: rest → (s.instr i).trading ≠ .vacant →
      let v := s.instr i
      let v' : Instrument :=
        { v with
          prevClose := (match v.last with | some l => some l.price | none => v.prevClose)
          carriedTick := v.tick, opening := none, high := none, low := none, last := none
          anchorHigh := none, anchorLow := none, anchorLast := none, prints := []
          volume := 0, saturated := false, tradeCount := 0, nextNumber := 1, fast := false
          quoteCondition := (match v.bid, v.ask with
            | some b, some a => if a < b then .crossed else .firm
            | _, _ => .firm) }
      exec .rollRecord s =
        .next (({ s with quote := { s.quote with rolling := rest } }.setInstr i v').handOn i
          (changedFields v v') false)) ∧
    (s.quote.rolling = [] → exec .rollRecord s = .next s)

/-- R3: the changed-field set of an action on a record: each displayed field kind is in it exactly where its value
differs between the record before and after. Every field of a VACANT record is compared as absent, so that between
a VACANT record and one that is not the set holds the fields present in the other; a quote size is absent while its
side is. A set is handed to the board engine and to the page engine unless it is empty. -/
def Obligations.ChangedFieldSet : Prop :=
  (∀ a : Instrument, a.isVacant = true ↔ a.trading = .vacant) ∧
  (∀ a b : Instrument, a.isVacant = false → b.isVacant = false →
    (.symbol ∈ changedFields a b ↔ a.symbol ≠ b.symbol ∨ a.cls ≠ b.cls) ∧
    (.prevClose ∈ changedFields a b ↔ a.prevClose ≠ b.prevClose) ∧
    (.opening ∈ changedFields a b ↔ a.opening.map (·.price) ≠ b.opening.map (·.price)) ∧
    (.high ∈ changedFields a b ↔ a.high ≠ b.high) ∧ (.low ∈ changedFields a b ↔ a.low ≠ b.low) ∧
    (.volume ∈ changedFields a b ↔ a.volume ≠ b.volume) ∧
    (.bid ∈ changedFields a b ↔ a.bid ≠ b.bid) ∧ (.ask ∈ changedFields a b ↔ a.ask ≠ b.ask) ∧
    (.last ∈ changedFields a b ↔ a.last.map (·.price) ≠ b.last.map (·.price)) ∧
    (.lastSize ∈ changedFields a b ↔ a.last.map (·.size) ≠ b.last.map (·.size)) ∧
    (.netChange ∈ changedFields a b ↔
      a.last.map (·.price) ≠ b.last.map (·.price) ∨ a.prevClose ≠ b.prevClose) ∧
    (.tick ∈ changedFields a b ↔ a.tick ≠ b.tick ∨ a.reversal ≠ b.reversal) ∧
    (.status ∈ changedFields a b ↔
      a.trading ≠ b.trading ∨ a.fast ≠ b.fast ∨ a.quoteCondition ≠ b.quoteCondition) ∧
    (.bidSize ∈ changedFields a b ↔ ¬ (a.bid = none ∧ b.bid = none ∨
      a.bid.isSome = true ∧ b.bid.isSome = true ∧ a.bidSize = b.bidSize)) ∧
    (.askSize ∈ changedFields a b ↔ ¬ (a.ask = none ∧ b.ask = none ∨
      a.ask.isSome = true ∧ b.ask.isSome = true ∧ a.askSize = b.askSize))) ∧
  (∀ a b : Instrument, a.isVacant = true → b.isVacant = true → changedFields a b = []) ∧
  (∀ (a b : Instrument) (f : Field), a.isVacant = true → b.isVacant = false →
    (f ∈ changedFields b a ↔ f ∈ changedFields a b) ∧
    (f ∈ changedFields a b ↔ match f with
      | .symbol => True
      | .prevClose => b.prevClose.isSome = true
      | .opening => b.opening.isSome = true
      | .high => b.high.isSome = true
      | .low => b.low.isSome = true
      | .last => b.last.isSome = true
      | .lastSize => b.last.isSome = true
      | .netChange => b.last.isSome = true ∨ b.prevClose.isSome = true
      | .tick => True
      | .volume => True
      | .bid => b.bid.isSome = true
      | .ask => b.ask.isSome = true
      | .bidSize => b.bid.isSome = true
      | .askSize => b.ask.isSome = true
      | .status => True)) ∧
  ∀ (s : State) (i : Nat) (fields : List Field) (eligible : Bool),
    (fields = [] → s.handOn i fields eligible = s) ∧
    (fields ≠ [] → s.handOn i fields eligible = { s with transit := { s.transit with
      boardChanges := s.transit.boardChanges ++ [⟨i, fields, eligible⟩]
      pageChanges := s.transit.pageChanges ++ [⟨i, fields⟩] } })

/-! ### Price arithmetic, reports of the feed -/

/-- R25: the tick function, row by row of its table; a price equal to its reference keeps the family of the
reference tick. -/
def Obligations.TickFunctionTable : Prop :=
  ∀ (p r : Nat) (t : Tick),
    tickFunction p none t = .flat ∧ (r < p → tickFunction p (some r) t = .up) ∧
    (p < r → tickFunction p (some r) t = .down) ∧
    (p = r → t = .up ∨ t = .zeroUp → tickFunction p (some r) t = .zeroUp) ∧
    (p = r → t = .down ∨ t = .zeroDown → tickFunction p (some r) t = .zeroDown) ∧
    (p = r → t = .flat → tickFunction p (some r) t = .flat) ∧
    (p = r → (tickFunction p (some r) t).family = t.family) ∧
    Tick.up.family = some true ∧ Tick.zeroUp.family = some true ∧ Tick.down.family = some false ∧
    Tick.zeroDown.family = some false ∧ Tick.flat.family = none

/-- R22, R23, R24, R172: a price operand of W whole dollars and numerator N over d converts to 256 W + N (256 / d)
units when W is at most 9999 and N is below d, is a multiple of 4 of at most 2,559,996, and is refused otherwise;
a price operand that may be left out is not examined while its present flag is clear.

R6, R7, R8, R24, R27, R29, R30, R57: the prices that high and low are taken over, the anchors and the VALID prints, and
their extremes; last, last size and tick, from the newest VALID REGULAR print, else the anchor, else the carried
tick; the grid of each denominator; reversal, volume with its saturation mark, trade count, quote condition. -/
def Obligations.PriceAndRecordArithmetic : Prop :=
  (∀ (ops : List Word) (i : Nat),
    (∀ c d, (operand ops (i + 1)) / 256 % 16 = c → Denominator.ofCode c = some d →
      operand ops i ≤ 9999 → operand ops (i + 1) % 256 < d.value →
        priceOperand ops i = some (256 * operand ops i + operand ops (i + 1) % 256 * (256 / d.value))) ∧
    (∀ x, priceOperand ops i = some x → x ≤ 2559996 ∧ x % 4 = 0) ∧
    (9999 < operand ops i → priceOperand ops i = none) ∧
    (4 ≤ operand ops (i + 1) / 256 % 16 → priceOperand ops i = none) ∧
    (∀ d, Denominator.ofCode (operand ops (i + 1) / 256 % 16) = some d → d.value ≤ operand ops (i + 1) % 256 →
      priceOperand ops i = none) ∧
    (operand ops (i + 1) < 32768 → optionalPrice ops i = some none) ∧
    (32768 ≤ operand ops (i + 1) → optionalPrice ops i = (priceOperand ops i).map some) ∧
    ∀ x, salePrice ops i = some x ↔ priceOperand ops i = some x ∧ x ≠ 0) ∧
  ((∀ l : List Nat, (greatest l = none ↔ l = []) ∧ (least l = none ↔ l = []) ∧
    (∀ m, greatest l = some m → m ∈ l ∧ ∀ x ∈ l, x ≤ m) ∧ ∀ m, least l = some m → m ∈ l ∧ ∀ x ∈ l, m ≤ x) ∧
  (∀ new old : Tick, reversalOf new old = true ↔
    (new = .up ∨ new = .zeroUp) ∧ (old = .down ∨ old = .zeroDown) ∨
      (new = .down ∨ new = .zeroDown) ∧ (old = .up ∨ old = .zeroUp)) ∧
  (∀ volume off on : Nat, volumeAfter volume true off on = (volume, true) ∧
    (volume + on - off ≤ 999999999 → volumeAfter volume false off on = (volume + on - off, false)) ∧
    (999999999 < volume + on - off → volumeAfter volume false off on = (999999999, true))) ∧
  (∀ v : Instrument,
    (∀ x, x ∈ priceCollection v ↔ v.anchorHigh = some x ∨ v.anchorLow = some x ∨
      ∃ q ∈ v.prints, q.valid = true ∧ q.price = x) ∧
    (∀ (older newer : List Print) (q : Print) (t : Tick), v.prints = older ++ q :: newer → q.valid = true →
      q.kind = .regular t → (∀ x ∈ newer, x.valid = false ∨ x.kind = .late) →
        derivedLast v = some ⟨q.price, q.size⟩ ∧ derivedTick v = t) ∧
    ((∀ x ∈ v.prints, x.valid = false ∨ x.kind = .late) →
      (∀ a, v.anchorLast = some a → derivedLast v = some ⟨a.price, a.size⟩ ∧ derivedTick v = a.tick) ∧
      (v.anchorLast = none → derivedLast v = none ∧ derivedTick v = v.carriedTick))) ∧
  (Denominator.eighths.value = 8 ∧ Denominator.sixteenths.value = 16 ∧ Denominator.thirtySeconds.value = 32 ∧
    Denominator.sixtyFourths.value = 64 ∧ Denominator.eighths.grid = 32 ∧ Denominator.sixteenths.grid = 16 ∧
    Denominator.thirtySeconds.grid = 8 ∧ Denominator.sixtyFourths.grid = 4 ∧
    ∀ (d : Denominator) (x : Nat), onGrid d x = true ↔ x % d.grid = 0) ∧
  (∀ n, n < 65535 → countUp n = n + 1 ∧ countDown n = n - 1) ∧ countUp 65535 = 65535 ∧
  countDown 65535 = 65535 ∧
  ∀ (b a : Nat) (fast : Bool) (x : Option Nat),
    quoteConditionOf (some b) (some a) fast =
      (if a < b then .crossed else if fast then .nonFirm else .firm) ∧
    quoteConditionOf none x fast = (if fast then .nonFirm else .firm) ∧
    quoteConditionOf x none fast = (if fast then .nonFirm else .firm))

/-- R32 to R39, R91, R92, R150: the texts. A rendered cell has exactly the characters of its width, a terminal line
exactly 40. Decimal numbers; a price in tape and line form and in board form; net change; each field kind; a text
fitted into its field, an absent one as blanks and one too long as overflow glyphs; a cell's text, its highlight and
its blink indication, and the blanks of a dark panel; the device fields; the columns of the three line formats, the
line of a VACANT record and the blank line. -/
def Obligations.RenderedTextsFillTheirFields : Prop :=
  (∀ (s : State) (dark : Bool) (c : Cell) (l : Option LineContent),
    (s.renderCell dark c).1.length = c.width ∧ (s.lineText l).length = 40) ∧
  (∀ t : String, ascii t = t.toList.map fun c => BitVec.ofNat 8 c.toNat) ∧
  (∀ n, (n < 10 → decimal n = [BitVec.ofNat 8 (48 + n)]) ∧
    (10 ≤ n → decimal n = decimal (n / 10) ++ [BitVec.ofNat 8 (48 + n % 10)])) ∧
  (∀ (width : Nat) (j : Justification) (text : Text), let pad := List.replicate (width - text.length) (0x20 : Byte)
    (text.length ≤ width → fit width .right text = pad ++ text ∧ fit width .left text = text ++ pad) ∧
    (width < text.length → fit width j text = List.replicate width 0x89) ∧
    fitField width j (some text) = fit width j text ∧ fitField width j none = List.replicate width 0x20) ∧
  (∀ price : Nat, let whole := price / 256
    (price % 256 = 0 → priceText price = decimal whole ∧ boardPrice price = decimal whole ++ [0x20]) ∧
    (price % 256 ≠ 0 → boardPrice price = priceText price) ∧
    (∀ n, 1 ≤ n → price % 256 = 32 * n →
      priceText price = (if whole = 0 then [] else decimal whole) ++ [BitVec.ofNat 8 (0x7F + n)]) ∧
    ∀ n d, price % 32 ≠ 0 → Nat.gcd n d = 1 → price % 256 * d = 256 * n →
      priceText price = (if whole = 0 then [] else decimal whole ++ [0x20]) ++ decimal n ++ [0x2F] ++ decimal d) ∧
  (∀ (price : Nat → Text) (width : Nat) (v : Instrument), let text := fieldText price width v
    text .symbol = some (symbolText v) ∧
    symbolText v = (v.symbol.getD [] ++ match v.cls with | some c => [0x2E, c] | none => []) ∧
    text .prevClose = v.prevClose.map price ∧ text .opening = (v.opening.map (·.price)).map price ∧
    text .high = v.high.map price ∧ text .low = v.low.map price ∧
    text .last = (v.last.map (·.price)).map price ∧ text .bid = v.bid.map price ∧ text .ask = v.ask.map price ∧
    text .lastSize = v.last.map (fun l => decimal (l.size / 100)) ∧ text .volume = some (decimal (v.volume / 100)) ∧
    text .bidSize = (if v.bid.isSome then some (decimal v.bidSize) else none) ∧
    text .askSize = (if v.ask.isSome then some (decimal v.askSize) else none) ∧
    text .tick = some [match v.tick with
      | .up => 0x87 | .down => 0x88 | .zeroUp => 0x2B | .zeroDown => 0x2D | .flat => 0x20] ∧
    text .status = (match v.trading with
      | .halted _ => some (ascii "HALT")
      | _ => if v.fast then some (ascii "FAST")
        else if v.quoteCondition = .crossed then some (ascii "XQ") else none) ∧
    (v.last = none ∨ v.prevClose = none → text .netChange = none) ∧
    ∀ l c, v.last = some l → v.prevClose = some c →
      (l.price = c → text .netChange = some (if 4 ≤ width then ascii "UNCH" else ascii "0")) ∧
      (c < l.price → text .netChange = some (ascii "+" ++ price (l.price - c))) ∧
      (l.price < c → text .netChange = some (ascii "-" ++ price (c - l.price)))) ∧
  (∀ (s : State) (c : Cell), let shows (text : Option Text) : Prop :=
      (s.renderCell false c).1 = fitField c.width c.justification text
    s.renderCell true c = (List.replicate c.width 0x20, ⟨false, false⟩) ∧
    (s.renderCell false c).2.highlight = c.expiry.isSome ∧
    ((s.renderCell false c).2.blink = true ↔ ∃ i, c.field = .instrument .tick i ∧
      (s.instr i).trading ≠ .vacant ∧ (s.instr i).reversal = true) ∧
    (∀ f i, c.field = .instrument f i → (s.instr i).trading = .vacant → shows none) ∧
    (∀ f i, c.field = .instrument f i → (s.instr i).trading ≠ .vacant →
      shows (fieldText boardPrice c.width (s.instr i) f)) ∧
    (∀ h m, c.field = .clock → h < 24 → m < 60 → s.timebase.dayClock / 60 = 60 * h + m →
      shows (some [BitVec.ofNat 8 (48 + h / 10), BitVec.ofNat 8 (48 + h % 10), 0x3A,
        BitVec.ofNat 8 (48 + m / 10), BitVec.ofNat 8 (48 + m % 10)])) ∧
    (c.field = .market → s.quote.session = .opened → shows (some (ascii "OPEN"))) ∧
    (c.field = .market → s.quote.session = .closed → shows (some (ascii "CLOSED"))) ∧
    ∀ r, c.field = .tapeState r → let v := s.ribbon (if s.items.joined then 0 else r)
      (v.lateMode = .normal → shows none) ∧
      (v.lateMode ≠ .normal → shows (some (ascii "LATE " ++ decimal (v.lag.toNat / 60000))))) ∧
  ∀ (s : State) (i : Nat), let v := s.instr i
    let line (f : LineFormat) : Text := s.lineText (some ⟨i, f⟩)
    let field (f : LineFormat) (column width : Nat) (x : Field) : Prop :=
      ((line f).drop (column - 1)).take width = fitField width .right (fieldText priceText width v x)
    let spaces (f : LineFormat) (columns : List Nat) : Prop := ∀ k ∈ columns, (line f)[k - 1]? = some 0x20
    s.lineText none = List.replicate 40 0x20 ∧
    (v.trading = .vacant → ∀ f, line f = List.replicate 6 0x2D ++ List.replicate 34 0x20) ∧
    (v.trading ≠ .vacant →
      (∀ f, (line f).take 6 = fitField 6 .left (fieldText priceText 6 v .symbol) ∧ field f 37 4 .status) ∧
      field .full 8 9 .last ∧ field .full 18 8 .netChange ∧ field .full 27 1 .tick ∧ field .full 29 7 .volume ∧
      spaces .full [7, 17, 26, 28, 36] ∧
      field .quote 8 9 .bid ∧ field .quote 18 9 .ask ∧ field .quote 28 4 .bidSize ∧ field .quote 33 4 .askSize ∧
      (line .quote)[31]? = some (if v.bid.isSome ∨ v.ask.isSome then 0x78 else 0x20) ∧
      spaces .quote [7, 17, 27] ∧
      field .range 8 9 .opening ∧ field .range 18 9 .high ∧ field .range 28 8 .low ∧
      spaces .range [7, 17, 27, 36])

/-- R42, R44: a report is EXPECTED, a GAP or a DUPLICATE by the number of successor steps from E to its sequence
number; a sequence word of 0, or none at all, is refused MALFORMED, which is recorded; a DUPLICATE is dropped,
its reply holds E, and nothing is recorded. -/
def Obligations.SequenceClassification : Prop :=
  (∀ n, 1 ≤ n → n ≤ 65535 → successor n = if n = 65535 then 1 else n + 1) ∧
  (∀ n, classify none n = .expected) ∧
  (∀ e n k : Nat, 1 ≤ e → e ≤ 65535 → k < 65535 → successor^[k] e = n →
    (k = 0 → classify (some e) n = .expected) ∧ (1 ≤ k → k ≤ 32767 → classify (some e) n = .gap) ∧
    (32768 ≤ k → classify (some e) n = .duplicate)) ∧
  ∀ (s : State) (p : PortId) (w : Word) (ops : List Word) (r : Request), r = .tradeReport ∨ r = .quoteReport →
    s.receives p w r ops → s.mode = .live →
    (operand ops 0 = 0 → exec (r.row p w .now) s = .next (s.answered p .malformed [])) ∧
    (∀ e, operand ops 0 ≠ 0 → s.quote.expectation = some e → classify (some e) (operand ops 0) = .duplicate →
      exec (r.row p w .now) s = .next (s.answered p .duplicate [BitVec.ofNat 16 e]))

/-- R40, R45: the feed's requests are refused NOT_LIVE in CONFIG; SEQUENCE RESET in LIVE sets E, or unsets it for
an operand of 0, and answers with it; another word count is refused MALFORMED. -/
def Obligations.SequenceReset : Prop :=
  ∀ (s : State) (p : PortId) (w : Word) (ops : List Word),
    (∀ r, r = .tradeReport ∨ r = .quoteReport ∨ r = .sequenceReset → s.receives p w r ops → s.mode = .config →
      exec (r.row p w .now) s = .next (s.answered p .notLive [])) ∧
    (∀ e, s.receives p w .sequenceReset [e] → s.mode = .live →
      exec (.sequenceReset p w .now) s =
        .next ((s.setExpectation (if e = 0 then none else some e.toNat)).answered p .done [e])) ∧
    (s.receives p w .sequenceReset ops → s.mode = .live → ops.length ≠ 1 →
      exec (.sequenceReset p w .now) s = .next (s.answered p .malformed []))

/-- R46, R51 to R54, R5, R43: a TRADE REPORT that passes its steps. The record gets the print and the fields that
follow from it, E becomes the successor of the sequence number, a GAP records SEQUENCE_GAP, a PRINT entry goes to
each carrying ribbon, the changed-field set is handed on highlight-eligible, and the reply holds the print
number. `late` is the condition, `size` the size, `price` the converted price.

R116: a print that leaves the list goes on its way to the tape queues as a departed copy. -/
def Obligations.TradeReportApplies : Prop :=
  (∀ (s : State) (i : Nat) (q : Print), s.depart i none = s ∧
    s.depart i (some q) = { s with transit := { s.transit with
      departures := s.transit.departures ++ [⟨i, q.number, ⟨!q.isRegular, q.price, q.size⟩⟩] } }) ∧
  ∀ (s : State) (p : PortId) (w : Word) (ops : List Word) (price : Nat) (late : Bool),
    s.receives p w .tradeReport ops →
    let n := operand ops 0
    let i := operand ops 1
    let size := operandPair ops 4
    let v := s.instr i
    ops.length = 7 → s.mode = .live → n ≠ 0 → classify s.quote.expectation n ≠ .duplicate → i < 2048 →
    priceOperand ops 2 = some price → price ≠ 0 → 1 ≤ size → size ≤ 9999999 → flagOperand ops 6 = some late →
    v.trading = .active → s.quote.session = .opened → price % v.denominator.grid = 0 →
    (∀ r ∈ s.carrying v, (s.ribbon r).queue.length < 248) →
      ∃ v' : Instrument,
        exec (.tradeReport p w .now) s =
          .next ((((((s.setInstr i v').handOn i (changedFields v v') true).depart i
            (if 8 ≤ v.prints.length then v.prints.head? else none)).appendPrint
              (s.carrying v) i v.nextNumber).setExpectation (some (successor n))).recordSome .feed
                (if classify s.quote.expectation n = .gap then some .sequenceGap else none) |>.answered
            p .done [BitVec.ofNat 16 v.nextNumber]) ∧
        let tick := tickFunction price (match v.last with | some l => some l.price | none => v.prevClose) v.tick
        v'.prints = (if 8 ≤ v.prints.length then v.prints.drop 1 else v.prints) ++
          [⟨v.nextNumber, if late then .late else .regular tick, price, size, true⟩] ∧
        v'.nextNumber = (if v.nextNumber < 65535 then v.nextNumber + 1 else 1) ∧
        v'.last = (if late then v.last else some ⟨price, size⟩) ∧ v'.tick = (if late then v.tick else tick) ∧
        v'.reversal = (if late then v.reversal else reversalOf tick v.tick) ∧
        v'.opening = (if late ∨ v.opening.isSome then v.opening else some ⟨price, v.nextNumber⟩) ∧
        (v'.volume, v'.saturated) = volumeAfter v.volume v.saturated 0 size ∧
        v'.tradeCount = countUp v.tradeCount ∧
        v'.high = greatest (priceCollection v') ∧ v'.low = least (priceCollection v') ∧
        (v.prints.length < 8 →
          v'.anchorHigh = v.anchorHigh ∧ v'.anchorLow = v.anchorLow ∧ v'.anchorLast = v.anchorLast) ∧
        (∀ q, 8 ≤ v.prints.length → v.prints.head? = some q → q.valid = false →
          v'.anchorHigh = v.anchorHigh ∧ v'.anchorLow = v.anchorLow ∧ v'.anchorLast = v.anchorLast) ∧
        (∀ q, 8 ≤ v.prints.length → v.prints.head? = some q → q.valid = true →
          v'.anchorHigh = some (max (v.anchorHigh.getD q.price) q.price) ∧
          v'.anchorLow = some (min (v.anchorLow.getD q.price) q.price) ∧
          v'.anchorLast =
            (match q.kind with
             | .regular t => some ⟨q.price, q.size, t⟩
             | .late => v.anchorLast)) ∧
        v' = { v with
          prints := v'.prints, nextNumber := v'.nextNumber, last := v'.last, tick := v'.tick
          reversal := v'.reversal, opening := v'.opening, volume := v'.volume, saturated := v'.saturated
          tradeCount := v'.tradeCount, high := v'.high, low := v'.low, anchorHigh := v'.anchorHigh
          anchorLow := v'.anchorLow, anchorLast := v'.anchorLast }

/-- R43, R47, R48, R50: the refusals of a TRADE REPORT after its sequence step, in their order. Each but
TAPE_FULL moves E past the report, records the condition of its name and, for a GAP, SEQUENCE_GAP; TAPE_FULL
leaves everything. -/
def Obligations.TradeReportRefusals : Prop :=
  (∀ (s : State) (p : PortId) (c : Condition), s.recordSome p none = s ∧ s.recordSome p (some c) = s.record p c) ∧
  ∀ (s : State) (p : PortId) (w : Word) (ops : List Word), s.receives p w .tradeReport ops →
    let n := operand ops 0
    let v := s.instr (operand ops 1)
    let judged : State := s.setExpectation (some (successor n))
    let gap : Option Condition :=
      if classify s.quote.expectation n = .gap then some .sequenceGap else none
    let good : Prop := ops.length = 7 ∧ operand ops 1 < 2048 ∧ (∃ x, salePrice ops 2 = some x) ∧
      1 ≤ operandPair ops 4 ∧ operandPair ops 4 ≤ 9999999 ∧ operand ops 6 ≤ 1
    s.mode = .live → n ≠ 0 → classify s.quote.expectation n ≠ .duplicate →
      (¬ good →
        exec (.tradeReport p w .now) s = .next ((judged.recordSome .feed gap).answered p .malformed [])) ∧
      (good → v.trading = .vacant →
        exec (.tradeReport p w .now) s =
          .next (((judged.record .feed .unknownInstrument).recordSome .feed gap).answered
            p .unknownInstrument [])) ∧
      (good → v.trading ≠ .vacant → s.quote.session = .closed →
        exec (.tradeReport p w .now) s =
          .next (((judged.record .feed .sessionClosed).recordSome .feed gap).answered p .sessionClosed [])) ∧
      (∀ reason, good → v.trading = .halted reason → s.quote.session = .opened →
        exec (.tradeReport p w .now) s =
          .next (((judged.record .feed .tradeHalted).recordSome .feed gap).answered p .tradeHalted [])) ∧
      (∀ x, good → v.trading = .active → s.quote.session = .opened → salePrice ops 2 = some x →
        x % v.denominator.grid ≠ 0 →
        exec (.tradeReport p w .now) s =
          .next (((judged.record .feed .priceGrid).recordSome .feed gap).answered p .priceGrid [])) ∧
      (∀ x, good → v.trading = .active → s.quote.session = .opened → salePrice ops 2 = some x →
        x % v.denominator.grid = 0 → (∃ r ∈ s.carrying v, 248 ≤ (s.ribbon r).queue.length) →
        exec (.tradeReport p w .now) s = .next (s.answered p .tapeFull []))

/-- R49: the carrying ribbons of an instrument, by the pairing, the ribbon set and the ribbon states, each once. -/
def Obligations.CarryingRibbons : Prop :=
  ∀ (s : State) (v : Instrument) (r : Nat),
    (s.carrying v).Nodup ∧ (r ∈ s.carrying v ↔
      (s.ribbon r).state ≠ .off ∧
        (s.items.joined = false ∧
            ((r = 0 ∧ (v.ribbonSet = .zero ∨ v.ribbonSet = .both)) ∨
              (r = 1 ∧ (v.ribbonSet = .one ∨ v.ribbonSet = .both))) ∨
          s.items.joined = true ∧ r = 0 ∧ (v.ribbonSet = .zero ∨ v.ribbonSet = .both)))

/-- R56, R58, R43, R48: a QUOTE REPORT that passes its steps replaces bid, ask and both sizes, computes the quote
condition and hands the changed-field set on highlight-eligible; E moves, a GAP records SEQUENCE_GAP, nothing goes to
the tape. The refusals after its sequence step, in their order: each moves E past the report, records the condition
of its name and, for a GAP, SEQUENCE_GAP. A HALTED record takes quotes. -/
def Obligations.QuoteReportApplies : Prop :=
  ∀ (s : State) (p : PortId) (w : Word) (ops : List Word), s.receives p w .quoteReport ops →
    let n := operand ops 0
    let i := operand ops 1
    let v := s.instr i
    let judged : State := s.setExpectation (some (successor n))
    let gap : Option Condition :=
      if classify s.quote.expectation n = .gap then some .sequenceGap else none
    let refuses (t : State) (a : Answer) : Prop :=
      exec (.quoteReport p w .now) s = .next ((t.recordSome .feed gap).answered p a [])
    let formed (bid ask : Option Nat) : Prop :=
      ops.length = 8 ∧ i < 2048 ∧ optionalPrice ops 2 = some bid ∧ optionalPrice ops 4 = some ask ∧
      operand ops 6 ≤ 9999 ∧ operand ops 7 ≤ 9999
    s.mode = .live → n ≠ 0 → classify s.quote.expectation n ≠ .duplicate →
      ((∀ bid ask, ¬ formed bid ask) → refuses judged .malformed) ∧
      ∀ bid ask, formed bid ask →
        let v' : Instrument :=
          { v with
            bid := bid, ask := ask, bidSize := operand ops 6, askSize := operand ops 7
            quoteCondition := quoteConditionOf bid ask v.fast }
        let even : Prop := (∀ x, bid = some x → x % v.denominator.grid = 0) ∧
          ∀ x, ask = some x → x % v.denominator.grid = 0
        (v.trading = .vacant → refuses (judged.record .feed .unknownInstrument) .unknownInstrument) ∧
        (v.trading ≠ .vacant → s.quote.session = .closed →
          refuses (judged.record .feed .sessionClosed) .sessionClosed) ∧
        (v.trading ≠ .vacant → s.quote.session = .opened → ¬ even →
          refuses (judged.record .feed .priceGrid) .priceGrid) ∧
        (v.trading ≠ .vacant → s.quote.session = .opened → even →
          exec (.quoteReport p w .now) s =
            .next ((((s.setInstr i v').handOn i (changedFields v v') true).setExpectation
              (some (successor n))).recordSome .feed gap |>.answered p .done []) ∧
          ∀ f ∈ changedFields v v', f ∈ [Field.bid, .ask, .bidSize, .askSize, .status])

/-! ### Floor supervision -/

/-- R61, R62: HALT of an ACTIVE record and RESUME of a HALTED one, with room on every carrying ribbon: the trading
state and the halt reason, STATUS handed on, the notice on each carrying ribbon; RESUME of an ACTIVE record
changes nothing, and HALT of a HALTED one is refused IN_USE.

R63, R57: SET FAST MARKET and CLEAR FAST MARKET on a record that is not VACANT.

R61 to R63: each of the four is refused MALFORMED for a wrong word count, an index above 2047 or a reason above 15, and
then UNKNOWN_INSTRUMENT on a VACANT record. -/
def Obligations.HaltsAndFastMarkets : Prop :=
  (∀ (s : State) (p : PortId) (w : Word) (ops : List Word) (r : Request) (n : Nat),
    r = .halt ∧ n = 2 ∨ (r = .resume ∨ r = .setFastMarket ∨ r = .clearFastMarket) ∧ n = 1 → s.receives p w r ops →
    let formed : Prop := ops.length = n ∧ operand ops 0 < 2048 ∧ (r = .halt → operand ops 1 ≤ 15)
    (¬ formed → exec (r.row p w .now) s = .next (s.answered p .malformed [])) ∧
    (formed → (s.instr (operand ops 0)).trading = .vacant →
      exec (r.row p w .now) s = .next (s.answered p .unknownInstrument []))) ∧
  (∀ (s : State) (p : PortId) (w : Word) (ops : List Word),
    let i := operand ops 0
    let v := s.instr i
    let room := ∀ r ∈ s.carrying v, (s.ribbon r).queue.length < 256
    i < 2048 →
    (s.receives p w .halt ops → ops.length = 2 → operand ops 1 ≤ 15 →
      (v.trading = .active → room →
        exec (.halt p w .now) s =
          .next ((((s.setInstr i { v with trading := .halted (operand ops 1) }).handOn i [.status] false).appendNotice
            (s.carrying v) (symbolText v ++ ascii " HALTED") (some i)).answered p .done [])) ∧
      (∀ reason, v.trading = .halted reason →
        exec (.halt p w .now) s = .next (s.answered p .inUse [])) ∧
      (v.trading = .active → ¬ room → exec (.halt p w .now) s = .next (s.answered p .tapeFull []))) ∧
    (s.receives p w .resume ops → ops.length = 1 →
      (∀ reason, v.trading = .halted reason → room →
        exec (.resume p w .now) s =
          .next ((((s.setInstr i { v with trading := .active }).handOn i [.status] false).appendNotice
            (s.carrying v) (symbolText v ++ ascii " RESUMED") (some i)).answered p .done [])) ∧
      (v.trading = .active → exec (.resume p w .now) s = .next (s.answered p .done [])) ∧
      (∀ reason, v.trading = .halted reason → ¬ room →
        exec (.resume p w .now) s = .next (s.answered p .tapeFull [])) ∧
      (v.trading = .vacant → exec (.resume p w .now) s = .next (s.answered p .unknownInstrument [])))) ∧
  (∀ (s : State) (p : PortId) (w : Word) (ops : List Word) (r : Request) (fast : Bool),
    r = .setFastMarket ∧ fast = true ∨ r = .clearFastMarket ∧ fast = false → s.receives p w r ops →
    let i := operand ops 0
    let v := s.instr i
    ops.length = 1 → i < 2048 → v.trading ≠ .vacant →
      (v.fast = fast → exec (r.row p w .now) s = .next (s.answered p .done [])) ∧
      (v.fast ≠ fast →
        exec (r.row p w .now) s =
          .next (((s.setInstr i { v with fast := fast, quoteCondition := quoteConditionOf v.bid v.ask fast }).handOn
            i [.status] false).answered p .done [])))

/-- R64: the print that a CANCEL PRINT or CORRECT PRINT names: NOT_FOUND for a CANCELED print and for a number
the list does not hold, TOO_OLD where the list holds 8 prints and the number lies 1 to 32,767 steps behind the
oldest. -/
def Obligations.PrintsOutOfReach : Prop :=
  ∀ (s : State) (p : PortId) (w : Word) (ops : List Word) (r : Request),
    r = .cancelPrint ∧ ops.length = 2 ∨
      r = .correctPrint ∧ ops.length = 6 ∧ (∃ x, salePrice ops 2 = some x) ∧ 1 ≤ operandPair ops 4 ∧
        operandPair ops 4 ≤ 9999999 →
    s.receives p w r ops →
    let v := s.instr (operand ops 0)
    let number := operand ops 1
    operand ops 0 < 2048 → v.trading ≠ .vacant → 1 ≤ number →
      (∀ q ∈ v.prints, q.number = number → q.valid = false → (∀ q' ∈ v.prints, q'.number = number → q' = q) →
        exec (r.row p w .now) s = .next (s.answered p .notFound [])) ∧
      ((∀ q ∈ v.prints, q.number ≠ number) → v.prints.length < 8 →
        exec (r.row p w .now) s = .next (s.answered p .notFound [])) ∧
      ∀ (oldest : Print) (k : Nat), (∀ q ∈ v.prints, q.number ≠ number) → v.prints.length = 8 →
        v.prints.head? = some oldest → 1 ≤ k → k < 65535 → successor^[k] number = oldest.number →
        number ≤ 65535 →
          exec (r.row p w .now) s = .next (s.answered p (if k ≤ 32767 then .tooOld else .notFound) [])

/-- R66, R67, R70 to R73: a CANCEL PRINT that finds its VALID print `q` with room on the tape: the record, the
changed-field set handed on highlight-eligible, the tape step with the cancel notice, the tape-effect word; MALFORMED,
UNKNOWN_INSTRUMENT and, where some carrying ribbon is full and does not hold the print's entry, TAPE_FULL.

R71, R72, R174: the tape step of a cancel or a correction takes the carrying ribbons one after another: a queued
entry is withdrawn by a cancel and left by a correction, and where the queue does not hold it the notice is appended
with the device time; the tape-effect word; the text of a notice and its size text. (That ribbon 0 comes before ribbon 1
is the model's choice, notes/assumptions/35.md.) -/
def Obligations.CancelPrintRecomputes : Prop :=
  (∀ q : Print, (q.isRegular = true ↔ ∃ t, q.kind = .regular t) ∧
    (q.counts = true ↔ q.valid = true ∧ ∃ t, q.kind = .regular t)) ∧
  (∀ (s : State) (p : PortId) (w : Word) (ops : List Word) (q : Print), s.receives p w .cancelPrint ops →
    let i := operand ops 0
    let v := s.instr i
    let newest := (v.prints.filter Print.counts).getLast?
    ops.length = 2 → i < 2048 → v.trading ≠ .vacant → 1 ≤ operand ops 1 →
    v.prints.find? (fun x => decide (x.number = operand ops 1)) = some q → q.valid = true →
    (∀ r ∈ s.carrying v, (s.ribbon r).queue.length < 256 ∨ s.isQueued r i q.number = true) →
      ∃ v' : Instrument,
        exec (.cancelPrint p w .now) s =
          .next ((((s.setInstr i v').handOn i (changedFields v v') true).tapeStep (s.carrying v) i q.number true
            (printNotice "CXL" v (!q.isRegular) q.price q.size)).answered
              p .done [s.effectWord v i q.number]) ∧
        v'.prints = (v.prints.map fun x => if x.number = q.number then { q with valid := false } else x) ∧
        (v'.volume, v'.saturated) = volumeAfter v.volume v.saturated q.size 0 ∧
        v'.tradeCount = countDown v.tradeCount ∧
        v'.high = greatest (priceCollection v') ∧ v'.low = least (priceCollection v') ∧
        (newest.map (·.number) = some q.number →
          v'.last = derivedLast v' ∧ v'.tick = derivedTick v' ∧ v'.reversal = reversalOf v'.tick v.tick) ∧
        (newest.map (·.number) ≠ some q.number →
          v'.last = v.last ∧ v'.tick = v.tick ∧ v'.reversal = v.reversal) ∧
        (v.anchorLast = none → v.opening.map (·.number) = some q.number →
          v'.opening = (((v.prints.dropWhile fun x => decide (x.number ≠ q.number)).drop 1).find?
            Print.counts).map fun x => ⟨x.price, x.number⟩) ∧
        (v.anchorLast.isSome ∨ v.opening.map (·.number) ≠ some q.number → v'.opening = v.opening) ∧
        v' = { v with
          prints := v'.prints, volume := v'.volume, saturated := v'.saturated, tradeCount := v'.tradeCount
          high := v'.high, low := v'.low, last := v'.last, tick := v'.tick, reversal := v'.reversal
          opening := v'.opening }) ∧
  (∀ (s : State) (p : PortId) (w : Word) (ops : List Word), s.receives p w .cancelPrint ops →
    let i := operand ops 0
    let number := operand ops 1
    let v := s.instr i
    let refuses (a : Answer) : Prop := exec (.cancelPrint p w .now) s = .next (s.answered p a [])
    (¬ (ops.length = 2 ∧ i < 2048 ∧ 1 ≤ number) → refuses .malformed) ∧
    (ops.length = 2 → i < 2048 → 1 ≤ number →
      (v.trading = .vacant → refuses .unknownInstrument) ∧
      ∀ q, v.trading ≠ .vacant → v.prints.find? (fun x => decide (x.number = number)) = some q → q.valid = true →
        (∃ r ∈ s.carrying v, 256 ≤ (s.ribbon r).queue.length ∧ s.isQueued r i number = false) →
        refuses .tapeFull)) ∧
  (∀ (s : State) (v : Instrument) (i n r : Nat) (rs : List Nat) (text : Text) (withdraws : Bool),
    (s.isQueued r i n = true ↔ ∃ stamp copy, .print i n stamp copy ∈ (s.ribbon r).queue) ∧
    s.tapeStep [] i n withdraws text = s ∧
    (s.isQueued r i n = true →
      s.tapeStep (r :: rs) i n true text = (s.withdraw r i n).tapeStep rs i n true text ∧
      s.tapeStep (r :: rs) i n false text = s.tapeStep rs i n false text) ∧
    (s.isQueued r i n = false → s.tapeStep (r :: rs) i n withdraws text =
      (s.appendEntry r (.notice text s.now (some i))).tapeStep rs i n withdraws text) ∧
    let effect (k : Nat) : Nat := if k ∈ s.carrying v then (if s.isQueued k i n then 1 else 2) else 0
    let e := s.effectWord v i n
    (e.extractLsb' 0 2).toNat = effect 0 ∧ (e.extractLsb' 2 2).toNat = effect 1 ∧ e.toNat < 16) ∧
  ∀ (v : Instrument) (late : Bool) (price size : Nat),
    (∀ word, word = "CXL" ∨ word = "CORR" → printNotice word v late price size =
      ascii word ++ [0x20] ++ (if late then ascii "OOS " else []) ++ symbolText v ++
        (if size = 100 then [] else [0x20] ++ sizeText size) ++ [0x20] ++ priceText price) ∧
    (200 ≤ size → size ≤ 99900 → size % 100 = 0 → sizeText size = decimal (size / 100) ++ ascii "s") ∧
    (size ≠ 100 → ¬ (200 ≤ size ∧ size ≤ 99900 ∧ size % 100 = 0) → sizeText size = decimal size ++ ascii "SHS")

/-- R68 to R73, R26: a CORRECT PRINT that finds its VALID print `q`, the new price on the grid, with room on the
tape: the print keeps its number and its condition and takes the new price and size, a REGULAR one a new stored
tick against its predecessor; the record follows; the correction notice goes where the entry is committed. (That the
stored tick is taken afresh where price and size stay as they were is the model's reading, notes/assumptions/30.md.)
MALFORMED, UNKNOWN_INSTRUMENT, PRICE_GRID and, where some carrying ribbon is full and does not hold the print's
entry, TAPE_FULL. -/
def Obligations.CorrectPrintRecomputes : Prop :=
  (∀ (q : Print) (t : Tick), q.kind = .regular t → q.storedTick = t) ∧
  (∀ (s : State) (p : PortId) (w : Word) (ops : List Word) (q : Print) (price : Nat),
    s.receives p w .correctPrint ops →
    let i := operand ops 0
    let size := operandPair ops 4
    let v := s.instr i
    let newest := (v.prints.filter Print.counts).getLast?
    ops.length = 6 → i < 2048 → v.trading ≠ .vacant → 1 ≤ operand ops 1 →
    priceOperand ops 2 = some price → price ≠ 0 → 1 ≤ size → size ≤ 9999999 →
    v.prints.find? (fun x => decide (x.number = operand ops 1)) = some q → q.valid = true →
    price % v.denominator.grid = 0 →
    (∀ r ∈ s.carrying v, (s.ribbon r).queue.length < 256 ∨ s.isQueued r i q.number = true) →
      ∃ (v' : Instrument) (q' : Print),
        exec (.correctPrint p w .now) s =
          .next ((((s.setInstr i v').handOn i (changedFields v v') true).tapeStep (s.carrying v) i q.number false
            (printNotice "CORR" v (!q.isRegular) price size)).answered
              p .done [s.effectWord v i q.number]) ∧
        q' = { q with price := price, size := size, kind := q'.kind } ∧
        (q.kind = .late → q'.kind = .late) ∧
        (∀ t, q.kind = .regular t →
          q'.kind = .regular
            (match ((v.prints.takeWhile fun x => decide (x.number ≠ q.number)).filter Print.counts).getLast? with
             | some x => tickFunction price (some x.price) x.storedTick
             | none =>
               match v.anchorLast with
               | some a => tickFunction price (some a.price) a.tick
               | none => tickFunction price v.prevClose v.carriedTick)) ∧
        v'.prints = (v.prints.map fun x => if x.number = q.number then q' else x) ∧
        (v'.volume, v'.saturated) = volumeAfter v.volume v.saturated q.size size ∧
        v'.high = greatest (priceCollection v') ∧ v'.low = least (priceCollection v') ∧
        (newest.map (·.number) = some q.number →
          v'.last = some ⟨price, size⟩ ∧ v'.tick = q'.storedTick ∧ v'.reversal = reversalOf v'.tick v.tick) ∧
        (newest.map (·.number) ≠ some q.number →
          v'.last = v.last ∧ v'.tick = v.tick ∧ v'.reversal = v.reversal) ∧
        v'.opening = (if v.anchorLast = none ∧ v.opening.map (·.number) = some q.number then
          some ⟨price, q.number⟩ else v.opening) ∧
        v' = { v with
          prints := v'.prints, volume := v'.volume, saturated := v'.saturated
          high := v'.high, low := v'.low, last := v'.last, tick := v'.tick, reversal := v'.reversal
          opening := v'.opening }) ∧
  ∀ (s : State) (p : PortId) (w : Word) (ops : List Word), s.receives p w .correctPrint ops →
    let i := operand ops 0
    let number := operand ops 1
    let v := s.instr i
    let refuses (a : Answer) : Prop := exec (.correctPrint p w .now) s = .next (s.answered p a [])
    let formed (price : Nat) : Prop := ops.length = 6 ∧ i < 2048 ∧ 1 ≤ number ∧ priceOperand ops 2 = some price ∧
      price ≠ 0 ∧ 1 ≤ operandPair ops 4 ∧ operandPair ops 4 ≤ 9999999
    ((∀ price, ¬ formed price) → refuses .malformed) ∧
    ∀ price, formed price →
      (v.trading = .vacant → refuses .unknownInstrument) ∧
      ∀ q, v.trading ≠ .vacant → v.prints.find? (fun x => decide (x.number = number)) = some q → q.valid = true →
        (price % v.denominator.grid ≠ 0 → refuses .priceGrid) ∧
        (price % v.denominator.grid = 0 →
          (∃ r ∈ s.carrying v, 256 ≤ (s.ribbon r).queue.length ∧ s.isQueued r i number = false) →
          refuses .tapeFull)

/-- R74, R75: TAPE TEXT is refused NOT_LIVE in CONFIG, MALFORMED for a word count that does not fit the character
count, a ribbon above 1, an unknown part, no character or more than 20 or one that is not of the character table, and
OUT_OF_RANGE for a ribbon that is not in service, in that order. Then a SINGLE part appends its notice, a FIRST part
fills the text assembly buffer, a FINAL part appends the joined notice and empties it, or is refused NOT_FOUND,
OUT_OF_RANGE or TAPE_FULL. A ribbon is in service while it is not OFF and is not ribbon 1 of a JOINED pair. -/
def Obligations.TapeTextParts : Prop :=
  (∀ (s : State) (p : PortId) (w : Word) (ops : List Word), s.receives p w .tapeText ops →
    let r := operand ops 0 / 4096
    let part := operand ops 0 / 256 % 16
    let count := operand ops 0 % 256
    let chars := (wordBytes (ops.drop 1)).take count
    let room := (s.ribbon r).queue.length < 256
    let refuses (a : Answer) : Prop := exec (.tapeText p w .now) s = .next (s.answered p a [])
    let formed : Prop := ops.length = 1 + (count + 1) / 2 ∧ r ≤ 1 ∧ part ≤ 2 ∧ 1 ≤ count ∧ count ≤ 20 ∧
      ∀ b ∈ chars, isTapeChar b = true
    (s.mode = .config → refuses .notLive) ∧
    (s.mode = .live → ¬ formed → refuses .malformed) ∧
    (s.mode = .live → formed → s.inService r = false → refuses .outOfRange) ∧
    (s.mode = .live → formed → s.inService r = true →
      (part = 0 → room →
        exec (.tapeText p w .now) s = .next ((s.appendNotice [r] chars none).answered p .done [])) ∧
      (part = 0 → ¬ room → refuses .tapeFull) ∧
      (part = 1 →
        exec (.tapeText p w .now) s = .next ((s.setTextBuffer (some ⟨r, chars⟩)).answered p .done [])) ∧
      (part = 2 → s.ports.textBuffer = none → refuses .notFound) ∧
      (∀ b, part = 2 → s.ports.textBuffer = some b → b.ribbon ≠ r → refuses .outOfRange) ∧
      (∀ b, part = 2 → s.ports.textBuffer = some b → b.ribbon = r → ¬ room → refuses .tapeFull) ∧
      ∀ b, part = 2 → s.ports.textBuffer = some b → b.ribbon = r → room →
        exec (.tapeText p w .now) s =
          .next (((s.setTextBuffer none).appendNotice [r] (b.text ++ chars) none).answered p .done []))) ∧
  (∀ (s : State) (r : Nat),
    s.inService r = true ↔ (s.ribbon r).state ≠ .off ∧ (s.items.joined = true → r = 0)) ∧
  ∀ b : Byte, isTapeChar b = true ↔ 0x20 ≤ b.toNat ∧ b.toNat ≤ 0x5A ∨ b.toNat = 0x73 ∨ b.toNat = 0x78 ∨
    0x80 ≤ b.toNat ∧ b.toNat ≤ 0x89

/-! ### Panels, cells, board links -/

/-- R78, R79, R86: DEFINE PANEL, REMOVE PANEL, PANEL DARK, PANEL LIGHT: what each does where its checks pass, and by
which check it is refused where they do not. The cells of a panel are the BOUND cells of its range, in ascending
index. -/
def Obligations.PanelRequests : Prop :=
  (∀ (s : State) (p : PortId) (w : Word) (ops : List Word),
    let n := operand ops 0
    let base := operand ops 2
    let limit := operand ops 3
    let present : Prop := (s.display.panel n).present = true
    (s.receives p w .definePanel ops →
      let refuses (a : Answer) : Prop := exec (.definePanel p w .now) s = .next (s.answered p a [])
      let formed : Prop := ops.length = 4 ∧ n ≤ 63 ∧ operand ops 1 ≤ 3 ∧ base ≤ 4095 ∧ 1 ≤ limit ∧ limit ≤ 4096
      let apart : Prop := ∀ e ∈ s.display.panels, e.1 ≠ n → e.2.present = true →
        base + limit ≤ e.2.base ∨ e.2.base + e.2.limit ≤ base
      (¬ formed → refuses .malformed) ∧
      (formed → present → refuses .inUse) ∧
      (formed → ¬ present → 4096 < base + limit → refuses .outOfRange) ∧
      (formed → ¬ present → base + limit ≤ 4096 → ¬ apart → refuses .overlap) ∧
      (formed → ¬ present → base + limit ≤ 4096 → apart →
        exec (.definePanel p w .now) s =
          .next ({ s with display := s.display.setPanel n ⟨true, operand ops 1, base, limit, false⟩ }.answered
            p .done []))) ∧
    (s.receives p w .removePanel ops →
      let refuses (a : Answer) : Prop := exec (.removePanel p w .now) s = .next (s.answered p a [])
      let formed : Prop := ops.length = 1 ∧ n ≤ 63
      let bare : Prop := s.display.cellsOfPanel (s.display.panel n) = []
      (¬ formed → refuses .malformed) ∧ (formed → ¬ present → refuses .notPresent) ∧
      (formed → present → ¬ bare → refuses .inUse) ∧
      (formed → present → bare →
        exec (.removePanel p w .now) s =
          .next ({ s with display := s.display.setPanel n ⟨false, 0, 0, 1, false⟩ }.answered p .done []))) ∧
    (∀ r dark, r = .panelDark ∧ dark = true ∨ r = .panelLight ∧ dark = false → s.receives p w r ops →
      let refuses (a : Answer) : Prop := exec (r.row p w .now) s = .next (s.answered p a [])
      let formed : Prop := ops.length = 1 ∧ n ≤ 63
      (¬ formed → refuses .malformed) ∧ (formed → ¬ present → refuses .notPresent) ∧
      (formed → present → (s.display.panel n).dark = dark →
        exec (r.row p w .now) s = .next (s.answered p .done [])) ∧
      (formed → present → (s.display.panel n).dark ≠ dark →
        exec (r.row p w .now) s = .next ((s.onBoard fun d =>
          let lit := d.setPanel n { d.panel n with dark := dark }
          Display.enqueueAll (d.cellsOfPanel (d.panel n))
            (if dark then (d.cellsOfPanel (d.panel n)).foldl (fun d c => d.unhighlight c) lit else lit)).answered
          p .done [])))) ∧
  (∀ (d : Display) (v : Panel), Table.wf Cell.vacant d.cells = true →
    (d.cellsOfPanel v).Pairwise (· < ·) ∧
    ∀ c, c ∈ d.cellsOfPanel v ↔
      (d.cell c).bound = true ∧ v.present = true ∧ v.base ≤ c ∧ c < v.base + v.limit) ∧
  ∀ (d : Display) (c : Nat), d.unhighlight c =
    { d.setCell c { d.cell c with expiry := none } with highlights := d.highlights.filter (· ≠ c) }

/-- R81, R82, R83, R84: a DEFINE CELL that passes its checks binds the cell at the head of its binding list and
queues it where it is paintable and its panel lit; any other is refused by the first check that fails. A REMOVE
CELL of a BOUND cell gives its next to the cell before it in the binding list, or to the head of the list, takes
it out of its link's repaint queue and of the highlight list, and leaves the VACANT record; every other cell, the
other queues, the panels and the links stay. A binding list follows the next fields from its head, at most 4,096
cells. R172: the codes of the cell fields and of the justifications. -/
def Obligations.CellRequests : Prop :=
  (∀ (s : State) (p : PortId) (w : Word) (ops : List Word), s.receives p w .defineCell ops →
    let c := operand ops 0
    let row := operand ops 2
    let column := operand ops 3
    let width := operand ops 4
    let refuses (a : Answer) : Prop := exec (.defineCell p w .now) s = .next (s.answered p a [])
    let formed (f : CellField) (j : Justification) (onChange : Bool) : Prop :=
      ops.length = 9 ∧ c ≤ 4095 ∧ operand ops 1 ≤ 31 ∧ 1 ≤ row ∧ row ≤ 4 ∧ 1 ≤ column ∧ column ≤ 40 ∧ 1 ≤ width ∧
      width ≤ 16 ∧ CellField.ofCode (operand ops 5) (operand ops 6) = some f ∧
      Justification.ofCode (operand ops 7) = some j ∧ flagOperand ops 8 = some onChange ∧
      (onChange = true → ∃ x i, f = .instrument x i)
    ((∀ f j onChange, ¬ formed f j onChange) → refuses .malformed) ∧
    ∀ (f : CellField) (j : Justification) (onChange : Bool), formed f j onChange →
      (s.display.panelOf c = none → refuses .notPresent) ∧
      ∀ panel : Panel, s.display.panelOf c = some panel →
        let m := (s.display.link panel.link).module (operand ops 1)
        let fits : Prop := m.state ≠ .unconfigured ∧ row ≤ m.rows ∧ column + width - 1 ≤ m.columns
        let clear : Prop := ∀ x ∈ s.display.boundCells,
          s.display.onModule panel.link (operand ops 1) x = true → (s.display.cell x).row = row →
            (s.display.cell x).column + (s.display.cell x).width ≤ column ∨
              column + width ≤ (s.display.cell x).column
        ((s.display.cell c).bound = true → refuses .inUse) ∧
        ((s.display.cell c).bound = false → ¬ fits → refuses .outOfRange) ∧
        ((s.display.cell c).bound = false → fits → ¬ clear → refuses .overlap) ∧
        ((s.display.cell c).bound = false → fits → clear →
          exec (.defineCell p w .now) s =
            .next (((s.setBindingHead f (some c)).onBoard fun d => d.bind c
              { bound := true, address := operand ops 1, row := row, column := column, width := width
                field := f, justification := j, onChange := onChange
                next := s.bindingHead f, queued := false, expiry := none }).answered p .done []))) ∧
  (∀ (d : Display) (c : Nat) (v : Cell),
    ((d.setCell c v).isDark c = true → d.bind c v = d.setCell c v) ∧
    ((d.setCell c v).isDark c = false → d.bind c v = (d.setCell c v).enqueue c)) ∧
  (∀ (s : State) (p : PortId) (w : Word) (ops : List Word), s.receives p w .removeCell ops →
    let c := operand ops 0
    let v := s.display.cell c
    let head := s.bindingHead v.field
    let t := if head = some c then s.setBindingHead v.field v.next else s
    (¬ (ops.length = 1 ∧ c ≤ 4095) → exec (.removeCell p w .now) s = .next (s.answered p .malformed [])) ∧
    (ops.length = 1 → c ≤ 4095 →
      (v.bound = true → exec (.removeCell p w .now) s =
        .next ({ t with display := t.display.unbind head c }.answered p .done [])) ∧
      (v.bound = false → exec (.removeCell p w .now) s = .next (s.answered p .notPresent [])))) ∧
  (∀ (d : Display) (head : Option Nat) (c : Nat), let t := d.unbind head c
    t.cell c = ⟨false, 0, 1, 1, 1, .instrument .symbol 0, .right, false, none, false, none⟩ ∧
    (∀ b, d.before head c = some b → b ≠ c → t.cell b = { d.cell b with next := (d.cell c).next }) ∧
    (∀ x, x ≠ c → d.before head c ≠ some x → t.cell x = d.cell x) ∧
    (∀ b, d.before head c = some b → b ∈ d.bindingList head ∧ (d.cell b).next = some c) ∧
    (d.before head c = none → ∀ b ∈ d.bindingList head, (d.cell b).next ≠ some c) ∧
    t.highlights = d.highlights.filter (· ≠ c) ∧
    (∀ l, d.linkOf c = some l → t.queue l = (d.queue l).filter (· ≠ c)) ∧
    (∀ l, d.linkOf c ≠ some l → t.queue l = d.queue l) ∧
    t.panels = d.panels ∧ t.links = d.links ∧ t.deviceHead = d.deviceHead) ∧
  (∀ (d : Display) (head : Option Nat), let list := d.bindingList head
    list[0]? = head ∧ list.length ≤ 4096 ∧
    ∀ k b, k < 4095 → list[k]? = some b → list[k + 1]? = (d.cell b).next) ∧
  (∀ (n k : Nat) (f : CellField), CellField.ofCode n k = some f ↔
    (∃ x, f = .instrument x k ∧ k < 2048 ∧
      (n, x) ∈ [(0, Field.symbol), (1, .prevClose), (2, .opening), (3, .high), (4, .low), (5, .last), (6, .lastSize),
        (7, .netChange), (8, .tick), (9, .volume), (10, .bid), (11, .ask), (12, .bidSize), (13, .askSize),
        (14, .status)]) ∨
    n = 16 ∧ f = .clock ∨ n = 17 ∧ f = .market ∨ n = 18 ∧ k ≤ 1 ∧ f = .tapeState k) ∧
  (∀ (n : Nat) (j : Justification), Justification.ofCode n = some j ↔ n = 0 ∧ j = .right ∨ n = 1 ∧ j = .left) ∧
  (∀ (ops : List Word) (i : Nat) (b : Bool),
    flagOperand ops i = some b ↔ operand ops i = 0 ∧ b = false ∨ operand ops i = 1 ∧ b = true) ∧
  ∀ (s : State) (f : CellField) (h : Option Nat),
    (∀ x i, f = .instrument x i → s.bindingHead f = (s.instr i).bindHead ∧
      s.setBindingHead f h = s.setInstr i { s.instr i with bindHead := h }) ∧
    ((∀ x i, f ≠ .instrument x i) → s.bindingHead f = s.display.deviceHead ∧
      s.setBindingHead f h = { s with display := { s.display with deviceHead := h } })

/-- R87, R88, R89, R90, R94: what the board engine does with a cell. A cell is appended to its link's repaint queue
exactly where it is paintable and not queued; a handoff passes over cells whose field has not changed or whose
panel is dark, and highlights only paintable cells of the policy ON_CHANGE in an eligible handoff. -/
def Obligations.RepaintQueueAppends : Prop :=
  (∀ d : Display, Table.wf Panel.absent d.panels = true → Table.wf Cell.vacant d.cells = true → ∀ c : Nat,
    (∀ p, d.panelOf c = some p → ∃ n, d.panel n = p ∧ p.present = true ∧ p.base ≤ c ∧ c < p.base + p.limit) ∧
    (d.panelOf c = none → ∀ n, ¬ ((d.panel n).present = true ∧ (d.panel n).base ≤ c ∧
      c < (d.panel n).base + (d.panel n).limit)) ∧
    d.linkOf c = (d.panelOf c).map (·.link) ∧
    (d.isDark c = true ↔ ∃ p, d.panelOf c = some p ∧ p.dark = true) ∧
    (c ∈ d.boundCells ↔ (d.cell c).bound = true) ∧
    ∀ l m, d.onModule l m c = true ↔ d.linkOf c = some l ∧ (d.cell c).address = m) ∧
  (∀ (d : Display) (c : Nat) (cs : List Nat) (t : Time),
    d.enqueueAll [] = d ∧ d.enqueueAll (c :: cs) = (d.enqueue c).enqueueAll cs ∧
    d.highlight t c = { d.setCell c { d.cell c with expiry := some t } with
      highlights := d.highlights.filter (· ≠ c) ++ [c] }) ∧
  ∀ (d : Display) (c : Nat) (p : Panel), d.panelOf c = some p →
    (d.paintable c = true ↔ (d.cell c).bound = true ∧ (d.link p.link).state ≠ .off ∧
      ((d.link p.link).module (d.cell c).address).state = .up) ∧
    (d.paintable c = true → (d.cell c).queued = false →
      (d.enqueue c).queue p.link = d.queue p.link ++ [c] ∧
      (d.enqueue c).cell c = { d.cell c with queued := true } ∧
      (∀ x, x ≠ c → (d.enqueue c).cell x = d.cell x) ∧
      (∀ l, l ≠ p.link → (d.enqueue c).queue l = d.queue l) ∧
      (d.enqueue c).panels = d.panels ∧ (d.enqueue c).links = d.links ∧
      (d.enqueue c).highlights = d.highlights ∧ (d.enqueue c).deviceHead = d.deviceHead) ∧
    (d.paintable c = false ∨ (d.cell c).queued = true → d.enqueue c = d) ∧
    ∀ (fields : List Field) (f : Field) (i : Nat) (expiry : Option Time),
      (d.cell c).field = .instrument f i →
        (f ∉ fields ∨ p.dark = true → d.showChange fields expiry c = d) ∧
        (f ∈ fields → p.dark = false → d.paintable c = false → d.showChange fields expiry c = d) ∧
        (f ∈ fields → p.dark = false → expiry = none ∨ (d.cell c).onChange = false →
          d.showChange fields expiry c = d.enqueue c) ∧
        (∀ t, f ∈ fields → p.dark = false → d.paintable c = true → expiry = some t →
          (d.cell c).onChange = true →
          d.showChange fields expiry c = (d.enqueue c).highlight t c ∧
          ((d.showChange fields expiry c).cell c).expiry = some t ∧
          (d.showChange fields expiry c).highlights = (d.highlights.filter (· ≠ c)) ++ [c])

/-- R88, R90, R94: BOARD_HANDOFF, MINUTE_CHANGE, SESSION_CHANGE, TAPE_STATE_CHANGE take the oldest change handed
on, HIGHLIGHT_EXPIRY the head of the highlight list whose expiry is reached; each is one action of the board
engine. That a row with nothing to take, or whose expiry is not reached, changes nothing, and that a timer is reached
while it lies 0 to 2^31 - 1 ms behind device time, are the model's choices (notes/assumptions/4.md and 5.md). -/
def Obligations.BoardEngineEvents : Prop :=
  (∀ (t now : Time) (ms : Nat), later now ms = now + BitVec.ofNat 32 ms ∧
    (reached t now = true ↔ (now - t).toNat < 2147483648)) ∧
  ∀ s : State,
    (∀ b rest, s.transit.boardChanges = b :: rest →
      exec .boardHandoff s = .next (({ s with transit := { s.transit with boardChanges := rest } } : State).onBoard
        fun d => (d.bindingList (s.instr b.index).bindHead).foldl (fun d c => d.showChange b.fields
          (if b.eligible then some (later s.now (s.items.highlightSeconds * 1000)) else none) c) d)) ∧
    (∀ n, s.transit.minuteChanges = n + 1 →
      exec .minuteChange s = .next (({ s with transit := { s.transit with minuteChanges := n } } : State).onBoard
        fun d => d.enqueueAll ((d.bindingList d.deviceHead).filter fun c =>
          decide ((d.cell c).field = .clock) && !d.isDark c))) ∧
    (∀ n, s.transit.sessionChanges = n + 1 →
      exec .sessionChange s = .next (({ s with transit := { s.transit with sessionChanges := n } } : State).onBoard
        fun d => d.enqueueAll ((d.bindingList d.deviceHead).filter fun c =>
          decide ((d.cell c).field = .market) && !d.isDark c))) ∧
    (∀ r rest, s.transit.tapeChanges = r :: rest →
      exec .tapeStateChange s = .next (({ s with transit := { s.transit with tapeChanges := rest } } : State).onBoard
        fun d => d.enqueueAll ((d.bindingList d.deviceHead).filter fun c =>
          (match (d.cell c).field with
           | .tapeState n => s.items.joined || decide (n = r)
           | _ => false) && !d.isDark c))) ∧
    (∀ c rest t, s.display.highlights = c :: rest → (s.display.cell c).expiry = some t → reached t s.now = true →
      exec .highlightExpiry s = .next (s.onBoard fun d =>
        ({ d.setCell c { d.cell c with expiry := none } with
           highlights := d.highlights.filter (· ≠ c) } : Display).enqueue c)) ∧
    (s.display.highlights = [] → exec .highlightExpiry s = .next s) ∧
    (∀ c rest, s.display.highlights = c :: rest →
      (∀ t, (s.display.cell c).expiry = some t → reached t s.now = false) → exec .highlightExpiry s = .next s) ∧
    (s.transit.boardChanges = [] → exec .boardHandoff s = .next s) ∧
    (s.transit.minuteChanges = 0 → exec .minuteChange s = .next s) ∧
    (s.transit.sessionChanges = 0 → exec .sessionChange s = .next s) ∧
    (s.transit.tapeChanges = [] → exec .tapeStateChange s = .next s)

/-- R91, R92, R101, R104: the arbiter of a free link that is RUNNING, in TEST, or SETTLING after the settle wait
takes the first class that offers a message: keep-alive, probe, owed message, and in RUNNING alone the head cell
of the repaint queue; of a link that is not free it chooses nothing. When each class offers a module, and with what
purpose an owed message goes out: a settle BLANK in SETTLING, else an owed BLANK or an owed PATTERN.
KEEP_ALIVE_DUE and PROBE_DUE bring its choice; that one of a module that is not due changes nothing, and that a
keep-alive carrying an owed BLANK or PATTERN has the purpose keep-alive, are the model's choices
(notes/assumptions/5.md and 34.md). Within a class it takes the lowest module address. The cell whose turn it is, the
one that it would take.

R101, R171: the bytes that a link sends for its message: the module's address, the message kind, the operands, the
length before the characters of a WRITE, and the sum of all these bytes modulo 256; nothing outside a frame. -/
def Obligations.ArbiterChoosesByClass : Prop :=
  (∀ (d : Display) (render : Renderer) (now : Time) (probe l : Nat),
    let v := d.link l
    let keep := Table.first (Module.keepAliveDue v.holdSeconds now) v.modules
    let seek := Table.first (Module.toProbe probe now) v.modules
    let owed := Table.first (fun e => e.owed.message.isSome) v.modules
    (v.mayChoose = true ↔
      v.line = .free ∧ (v.state = .settling none ∨ v.state = .running ∨ ∃ x, v.state = .test x)) ∧
    (∀ e : Module, (e.keepAliveDue v.holdSeconds now = true ↔
        e.state = .up ∧ ∃ t, e.lastSent = some t ∧ v.holdSeconds * 500 ≤ (now - t).toNat) ∧
      (e.probeDue probe now = true ↔
        e.state = .down ∧ e.owed = .nothing ∧ ∃ t, e.lastSent = some t ∧ probe * 1000 ≤ (now - t).toNat) ∧
      (e.toProbe probe now = true ↔ e.restartPending = true ∨ e.probeDue probe now = true) ∧
      (e.owed.message.isSome = true ↔ e.owed ≠ .nothing)) ∧
    (∀ c, d.cellInTurn now probe l = some c ↔ v.mayChoose = true ∧ keep = none ∧ seek = none ∧ owed = none ∧
      v.state = .running ∧ ∃ rest, d.queue l = c :: rest) ∧
    (v.mayChoose = false → d.arbitrate render now probe l = d) ∧
    (v.mayChoose = true →
      (∀ m e, keep = some (m, e) → d.arbitrate render now probe l = d.send l m
        (match e.owed, v.state with
         | .blank, _ => .blank
         | .pattern x, _ => .pattern x
         | .nothing, .test x => .pattern x
         | .nothing, _ => .hold) .keepAlive) ∧
      (∀ m e, keep = none → seek = some (m, e) → d.arbitrate render now probe l = d.send l m .hold .probe) ∧
      (∀ m e, keep = none → seek = none → owed = some (m, e) →
        d.arbitrate render now probe l = d.send l m (e.owed.message.getD .blank) (owedPurpose v.state e.owed) ∧
        (∀ x, e.owed = .pattern x → d.arbitrate render now probe l = d.send l m (.pattern x) .owedPattern) ∧
        (∀ t, e.owed = .blank → v.state = .settling t →
          d.arbitrate render now probe l = d.send l m .blank .settleBlank) ∧
        (e.owed = .blank → (∀ t, v.state ≠ .settling t) →
          d.arbitrate render now probe l = d.send l m .blank .owedBlank)) ∧
      (keep = none → seek = none → owed = none → v.state ≠ .running → d.arbitrate render now probe l = d) ∧
      (keep = none → seek = none → owed = none → v.state = .running → d.queue l = [] →
        d.arbitrate render now probe l = d) ∧
      ∀ c rest, keep = none → seek = none → owed = none → v.state = .running → d.queue l = c :: rest →
        d.arbitrate render now probe l =
          ((d.setCell c { d.cell c with queued := false }).setQueue l rest).send l (d.cell c).address
            (.write (d.cell c).row (d.cell c).column (render (d.isDark c) (d.cell c)).2
              (render (d.isDark c) (d.cell c)).1) .write)) ∧
  (∀ (d : Display) (l m : Nat) (x : Message) (purpose : Purpose),
    (∃ e : Module, d.send l m x purpose = d.setLink l
        { (d.link l).setModule m e with line := .sending ⟨m, x, purpose, ((d.link l).module m).isUp⟩ } ∧
      e = { (d.link l).module m with owed := e.owed, restartPending := e.restartPending } ∧
      (purpose = .probe ∨ purpose = .write → e.owed = ((d.link l).module m).owed) ∧
      (purpose ≠ .probe → e.restartPending = ((d.link l).module m).restartPending)) ∧
    ((d.send l m x purpose).link l).line = .sending ⟨m, x, purpose, ((d.link l).module m).isUp⟩ ∧
    (purpose = .probe → (((d.send l m x purpose).link l).module m).restartPending = false) ∧
    (purpose ≠ .probe → purpose ≠ .write → (((d.send l m x purpose).link l).module m).owed = .nothing) ∧
    ∀ k, k ≠ l → (d.send l m x purpose).link k = d.link k) ∧
  (∀ (v : Link) (q : Module → Bool) (now : Time) (probe : Nat), Table.wf Module.reset v.modules = true →
    q = Module.keepAliveDue v.holdSeconds now ∨ q = Module.toProbe probe now ∨ q = (fun e => e.owed.message.isSome) →
    (∀ m e, Table.first q v.modules = some (m, e) ↔
      v.module m = e ∧ q e = true ∧ ∀ k, k < m → q (v.module k) = false) ∧
    (Table.first q v.modules = none ↔ ∀ k, q (v.module k) = false)) ∧
  (∀ v : Link, let frame (bytes : List Byte) : List Byte := bytes ++ [BitVec.ofNat 8 (bytes.map (·.toNat)).sum]
    ((∀ x, v.line ≠ .sending x) → v.frameOut = []) ∧
    ∀ x, v.line = .sending x → v.frameOut = frame (BitVec.ofNat 8 x.address :: match x.message with
      | .write row column attr text =>
        [0x01, BitVec.ofNat 8 row, BitVec.ofNat 8 column, BitVec.ofNat 8 (attr.highlight.toNat + 2 * attr.blink.toNat),
          BitVec.ofNat 8 text.length] ++ text
      | .hold => [0x02]
      | .blank => [0x03]
      | .pattern y => [0x04, match y with
        | .allLit => 0
        | .alternate => 1
        | .address => 2
        | .charset => 3])) ∧
  ∀ (s : State) (l : Fin 4) (m : Fin 32),
    let v := s.display.link l
    ((v.module m).keepAliveDue v.holdSeconds s.now = true →
      exec (.keepAliveDue l m) s = .next (s.onLink l id)) ∧
    ((v.module m).probeDue s.items.probeSeconds s.now = true →
      exec (.probeDue l m) s = .next (s.onLink l id)) ∧
    ((v.module m).keepAliveDue v.holdSeconds s.now = false → exec (.keepAliveDue l m) s = .next s) ∧
    ((v.module m).probeDue s.items.probeSeconds s.now = false → exec (.probeDue l m) s = .next s)

/-- R93, R95, R101, R102, R103, R104, R105, R106: FRAME_SENT, MODULE_ACKNOWLEDGEMENT, MODULE_ACK_TIMEOUT and
SETTLE_EXPIRY; what each purpose leaves when its message completes, what the end of the settle wait owes, when
SETTLING ends; the link sweep, the module sweep, the module drop; which arbiters choose after an action. An
acknowledgement that does not carry the address of the message in flight, or whose check byte is wrong, or that
comes with no message in flight, is ignored. (That one taken at the deadline's own time or later does not complete the
message, and one ahead of the frame's last byte neither, are the model's readings, notes/assumptions/6.md and 7.md. That
a deadline or an expiry is reached while it lies 0 to 2^31 - 1 ms behind device time, and that a row whose moment has
not come changes nothing, are the model's choices, notes/assumptions/5.md; so is the order of the arbiters after one
action of the board engine, notes/assumptions/23.md.)

R93: where a link would take a cell that a handoff on its way names, the handoffs are taken first (the model's choice of
the order, notes/assumptions/33.md). -/
def Obligations.LinkEvents : Prop :=
  (∀ (s : State) (l : Fin 4),
    let v := s.display.link l
    (∀ x, v.line = .sending x →
      let sent : Link := v.setModule x.address { v.module x.address with lastSent := some s.now }
      let waits : Link := { sent with line := .inFlight x (s.now + BitVec.ofNat 32 v.ackTimeout) }
      exec (.frameSent l) s = .next { s with display := s.display.setLink l waits }) ∧
    (∀ x deadline, v.line = .inFlight x deadline → x.address ≤ 31 →
      (reached deadline s.now = false →
        exec (.moduleAcknowledgement l (BitVec.ofNat 8 (128 + x.address)) (BitVec.ofNat 8 (128 + x.address))) s =
          .next (s.onLink l fun d => d.acknowledged l x)) ∧
      (∀ ack check, ack ≠ BitVec.ofNat 8 (128 + x.address) ∨ check ≠ ack →
        exec (.moduleAcknowledgement l ack check) s = .next s) ∧
      (reached deadline s.now = true →
        exec (.moduleAckTimeout l) s = .next
          (if x.toUp = true ∨ x.purpose ≠ .probe then
            (s.onLink l fun d => d.timedOut l x).record .supervisor .moduleDown
          else s.onLink l fun d => d.timedOut l x)) ∧
      (reached deadline s.now = true → ∀ ack check, exec (.moduleAcknowledgement l ack check) s = .next s) ∧
      (reached deadline s.now = false → exec (.moduleAckTimeout l) s = .next s)) ∧
    ((∀ x deadline, v.line ≠ .inFlight x deadline) →
      (∀ ack check, exec (.moduleAcknowledgement l ack check) s = .next s) ∧
      exec (.moduleAckTimeout l) s = .next s) ∧
    ((∀ x, v.line ≠ .sending x) → exec (.frameSent l) s = .next s) ∧
    (∀ t, v.state = .settling (some t) → reached t s.now = true →
      exec (.settleExpiry l) s = .next (s.onLink l fun d => d.settleEnd l)) ∧
    ((∀ t, v.state = .settling (some t) → reached t s.now = false) → exec (.settleExpiry l) s = .next s) ∧
    (∀ ks : List Nat, s.overtakes ks = true ↔ ∃ k ∈ ks, ∃ c,
      s.display.cellInTurn s.now s.items.probeSeconds k = some c ∧ s.display.isDark c = false ∧
        ∃ b ∈ s.transit.boardChanges, ∃ x ∈ b.fields, (s.display.cell c).field = .instrument x b.index) ∧
    (s.transit.boardChanges = [] → s.boardCaughtUp = s) ∧
    (∀ b rest, s.transit.boardChanges = b :: rest → s.boardCaughtUp = ({ s with
      transit := { s.transit with boardChanges := rest }
      display := (s.display.bindingList (s.instr b.index).bindHead).foldl (fun d c => d.showChange b.fields
        (if b.eligible then some (later s.now (s.items.highlightSeconds * 1000)) else none) c) s.display } :
          State).boardCaughtUp) ∧
    ∀ f : Display → Display,
      let t : State := { s with display := f s.display }
      let pick (d : Display) (k : Nat) : Display := d.arbitrate s.renderCell s.now s.items.probeSeconds k
      let wake (was is : Display) : Display := [0, 1, 2, 3].foldl
        (fun d k => if was.queue k = [] ∧ is.queue k ≠ [] then pick d k else d) is
      (t.overtakes [l] = false → s.onLink l f = { t with display := pick (f s.display) l }) ∧
      (t.overtakes [l] = true → s.onLink l f =
        { t.boardCaughtUp with display := pick (wake t.display t.boardCaughtUp.display) l }) ∧
      let woken := [0, 1, 2, 3].filter fun k => decide (s.display.queue k = [] ∧ t.display.queue k ≠ [])
      (t.overtakes woken = false → s.onBoard f = { t with display := wake s.display t.display }) ∧
      (t.overtakes woken = true → s.onBoard f =
        { t.boardCaughtUp with display := wake s.display t.boardCaughtUp.display })) ∧
  (∀ (d : Display) (l : Nat) (x : Sent), let free := d.setLink l { d.link l with line := .free }
    let v := d.link l
    let e := v.module x.address
    (x.purpose ≠ .probe → x.purpose ≠ .settleBlank → d.acknowledged l x = free) ∧
    (x.purpose = .settleBlank → d.acknowledged l x =
      (free.setLink l ((free.link l).setModule x.address { e with state := .up, owed := .nothing })).endSettling l) ∧
    (x.purpose = .probe →
      ∃ e', d.acknowledged l x = (free.setLink l ((free.link l).setModule x.address e')).moduleSweep l x.address ∧
        e' = { e with state := .up, owed := e'.owed } ∧ (∀ y, v.state = .test y → e'.owed = .pattern y) ∧
        ((∀ y, v.state ≠ .test y) → e'.owed = e.owed)) ∧
    (x.purpose = .probe → x.toUp = false → d.timedOut l x = free) ∧
    (x.purpose = .settleBlank → d.timedOut l x = free.endSettling l) ∧
    (x.purpose ≠ .settleBlank → x.purpose ≠ .probe ∨ x.toUp = true →
      d.timedOut l x = (free.setLink l ((free.link l).setModule x.address
        { e with state := .down, owed := .nothing })).moduleDrop l x.address) ∧
    (∃ u : Link, d.settleEnd l = (d.setLink l u).endSettling l ∧
      u = { v with state := .settling none, modules := u.modules } ∧
      (Table.wf Module.reset v.modules = true → ∀ m, u.module m =
        { v.module m with
          owed := if (v.module m).state = .unconfigured then (v.module m).owed else .blank })) ∧
    ((∃ t, v.state = .settling t) → (∀ k ∈ v.modules, k.2.owed ≠ .blank) →
      d.endSettling l = (d.setLink l { v with state := .running }).linkSweep l) ∧
    ((∀ t, v.state ≠ .settling t) ∨ (∃ k ∈ v.modules, k.2.owed = .blank) → d.endSettling l = d)) ∧
  (∀ (d : Display) (l : Nat), Table.wf Cell.vacant d.cells = true →
    let swept (on : Nat → Prop) (t : Display) : Prop := ∃ cs : List Nat,
      cs.Pairwise (· < ·) ∧
      (∀ c, c ∈ cs ↔ on c ∧ d.paintable c = true ∧ (d.cell c).queued = false) ∧
      t.queue l = d.queue l ++ cs ∧ (∀ k, k ≠ l → t.queue k = d.queue k) ∧
      (∀ c, t.cell c = { d.cell c with queued := (d.cell c).queued || decide (c ∈ cs) }) ∧
      t.panels = d.panels ∧ t.links = d.links ∧ t.highlights = d.highlights ∧ t.deviceHead = d.deviceHead
    swept (fun c => d.linkOf c = some l) (d.linkSweep l) ∧
    ∀ m, swept (fun c => d.linkOf c = some l ∧ (d.cell c).address = m) (d.moduleSweep l m)) ∧
  ∀ (d : Display) (l m : Nat), let t := d.moduleDrop l m
    t.queue l = (d.queue l).filter (fun c => (d.cell c).address ≠ m) ∧
    (∀ k, k ≠ l → t.queue k = d.queue k) ∧
    (∀ c, c ∈ d.queue l → (d.cell c).address = m → t.cell c = { d.cell c with queued := false }) ∧
    (∀ c, c ∉ d.queue l ∨ (d.cell c).address ≠ m → t.cell c = d.cell c) ∧
    t.panels = d.panels ∧ t.links = d.links ∧ t.highlights = d.highlights ∧ t.deviceHead = d.deviceHead

/-- R108 to R112, R174: MODULE RESTART, LAMP TEST START, LAMP TEST STOP and READ LINK. The first three are refused
MALFORMED, NOT_LIVE, OUT_OF_RANGE for a link that is OFF or a module that is not configured, and BUSY for a link that
is SETTLING, in that order; READ LINK is refused MALFORMED alone. (That a wrong word count of LAMP TEST STOP is
MALFORMED, which R111 does not say, is the model's reading, notes/assumptions/22.md.) R172: the codes of the lamp test
patterns. -/
def Obligations.LinkRequests : Prop :=
  (∀ (n : Nat) (x : LampPattern), LampPattern.ofCode n = some x ↔
    (n, x) ∈ [(0, LampPattern.allLit), (1, .alternate), (2, .address), (3, .charset)]) ∧
  ∀ (s : State) (p : PortId) (w : Word) (ops : List Word),
    let l := operand ops 0
    let v := s.display.link l
    let up : Prop := v.state = .running ∨ ∃ x, v.state = .test x
    let settling : Prop := ∃ t, v.state = .settling t
    let refuses (r : Request) (a : Answer) : Prop := exec (r.row p w .now) s = .next (s.answered p a [])
    (s.receives p w .moduleRestart ops →
      let m := operand ops 1
      let formed : Prop := ops.length = 2 ∧ l ≤ 3 ∧ m ≤ 31
      let here : Prop := v.state ≠ .off ∧ (v.module m).state ≠ .unconfigured
      (¬ formed → refuses .moduleRestart .malformed) ∧
      (formed → s.mode = .config → refuses .moduleRestart .notLive) ∧
      (formed → s.mode = .live → ¬ here → refuses .moduleRestart .outOfRange) ∧
      (formed → s.mode = .live → here → settling → refuses .moduleRestart .busy) ∧
      (formed → s.mode = .live → here → up →
        exec (.moduleRestart p w .now) s = .next ((s.onLink l fun d => d.setLink l
          (v.setModule m { v.module m with restartPending := true })).answered p .done []))) ∧
    (s.receives p w .lampTestStart ops →
      let formed (x : LampPattern) : Prop :=
        ops.length = 2 ∧ l ≤ 3 ∧ LampPattern.ofCode (operand ops 1) = some x
      ((∀ x, ¬ formed x) → refuses .lampTestStart .malformed) ∧
      ∀ x, formed x →
        (s.mode = .config → refuses .lampTestStart .notLive) ∧
        (s.mode = .live → v.state = .off → refuses .lampTestStart .outOfRange) ∧
        (s.mode = .live → settling → refuses .lampTestStart .busy) ∧
        (s.mode = .live → up →
          exec (.lampTestStart p w .now) s = .next ((s.onLink l fun d => d.setLink l
            { v with
              state := .test x
              modules := Table.mapValues Module.reset
                (fun e => if e.state = .up then { e with owed := .pattern x } else e) v.modules }).answered
              p .done []))) ∧
    (s.receives p w .lampTestStop ops →
      let formed : Prop := ops.length = 1 ∧ l ≤ 3
      (¬ formed → refuses .lampTestStop .malformed) ∧
      (formed → s.mode = .config → refuses .lampTestStop .notLive) ∧
      (formed → s.mode = .live → v.state = .off → refuses .lampTestStop .outOfRange) ∧
      (formed → s.mode = .live → settling → refuses .lampTestStop .busy) ∧
      (formed → s.mode = .live → v.state = .running →
        exec (.lampTestStop p w .now) s = .next (s.answered p .done [])) ∧
      ∀ x, formed → s.mode = .live → v.state = .test x →
        exec (.lampTestStop p w .now) s = .next ((s.onLink l fun d => (d.setLink l
          { v with
            state := .running
            modules := Table.mapValues Module.reset
              (fun e => if e.state = .up then { e with owed := .blank } else e) v.modules }).linkSweep l).answered
            p .done [])) ∧
    (s.receives p w .readLink ops → ¬ (ops.length = 1 ∧ l ≤ 3) → refuses .readLink .malformed) ∧
    (s.receives p w .readLink ops → ops.length = 1 → l ≤ 3 →
      ∃ ws, exec (.readLink p w .now) s = .next (s.answered p .done ws) ∧ ws.length = 9 ∧
        ((ws.getD 0 0).extractLsb' 0 2).toNat = (match v.state with
          | .off => 0
          | .settling _ => 1
          | .running => 2
          | .test _ => 3) ∧
        (∀ x, v.state = .test x → (ws.getD 0 0).getLsbD 7 = true ∧
          ((ws.getD 0 0).extractLsb' 4 2).toNat = match x with
            | .allLit => 0
            | .alternate => 1
            | .address => 2
            | .charset => 3) ∧
        ((∀ x, v.state ≠ .test x) → ∀ k, 2 ≤ k → (ws.getD 0 0).getLsbD k = false) ∧
        (∀ k, k = 2 ∨ k = 3 ∨ k = 6 ∨ 8 ≤ k → (ws.getD 0 0).getLsbD k = false) ∧
        ∀ k j, k < 8 → j < 4 → (ws.getD (k + 1) 0).getLsbD (15 - 4 * j) = false ∧
          (((ws.getD (k + 1) 0).extractLsb' (12 - 4 * j) 2).toNat = match (v.module (4 * k + j)).state with
            | .unconfigured => 0
            | .up => 1
            | .down => 2) ∧
          (ws.getD (k + 1) 0).getLsbD (14 - 4 * j) = (v.module (4 * k + j)).restartPending)

/-! ### Ribbons -/

/-- R115, R118, R71: an entry is appended at the tail of its tape queue. An IDLE ribbon, whose queue and outgoing
list are empty, makes its entry start where its gate is high and becomes WAITING where it is low; any other
ribbon only holds the entry. A withdrawal takes the named PRINT entry out of the queue, and a WAITING ribbon that
it leaves with nothing becomes IDLE.

R18, R53, R61: a notice, or the entry of a print, goes to each ribbon of a list and to no other, one entry each,
stamped with the device time. (That the ribbons take their entries one after another, ribbon 0 first, is the model's
choice, notes/assumptions/35.md.) -/
def Obligations.TapeQueueAppends : Prop :=
  (∀ (s : State) (r : Nat) (rs : List Nat) (text : Text) (index : Option Nat) (i n : Nat),
    s.appendNotice [] text index = s ∧ s.appendPrint [] i n = s ∧
    s.appendNotice (r :: rs) text index = (s.appendEntry r (.notice text s.now index)).appendNotice rs text index ∧
    s.appendPrint (r :: rs) i n = (s.appendEntry r (.print i n s.now none)).appendPrint rs i n ∧
    ((∀ k ∈ r :: rs, k ≤ 1) → (r :: rs).Nodup → ∀ e t,
      (e = .notice text s.now index ∧ t = s.appendNotice (r :: rs) text index) ∨
        (e = .print i n s.now none ∧ t = s.appendPrint (r :: rs) i n) →
      t.now = s.now ∧ ∀ k, k ≤ 1 →
        (k ∉ r :: rs → t.ribbon k = s.ribbon k) ∧
        (k ∈ r :: rs → t.ribbon k = (s.appendEntry k e).ribbon k) ∧
        (k ∈ r :: rs → (s.ribbon k).state ≠ .idle →
          t.ribbon k = { s.ribbon k with queue := (s.ribbon k).queue ++ [e] }))) ∧
  ∀ (s : State) (r : Nat) (e : TapeEntry), r ≤ 1 →
    let v := s.ribbon r
    (v.state ≠ .idle →
      s.appendEntry r e = s.setRibbon r { v with queue := v.queue ++ [e] }) ∧
    (v.state = .idle → s.gate r = false →
      s.appendEntry r e = s.setRibbon r { v with queue := v.queue ++ [e], state := .waiting }) ∧
    (v.state = .idle → s.gate r = true → v.queue = [] → v.outgoing = [] →
      s.appendEntry r e = (s.setRibbon r { v with queue := [e] }).entryStart r e []) ∧
    ∀ i n : Nat,
      let t := s.withdraw r i n
      t = s.setRibbon r { v with queue := (t.ribbon r).queue, state := (t.ribbon r).state } ∧
      (t.ribbon r).queue.Sublist v.queue ∧
      (∀ x ∈ v.queue, (∀ stamp copy, x ≠ .print i n stamp copy) → x ∈ (t.ribbon r).queue) ∧
      (∀ stamp copy, .print i n stamp copy ∉ (t.ribbon r).queue) ∧
      ((t.ribbon r).queue = [] → v.outgoing = [] → v.state = .waiting → (t.ribbon r).state = .idle) ∧
      ((t.ribbon r).queue ≠ [] ∨ v.outgoing ≠ [] ∨ v.state ≠ .waiting → (t.ribbon r).state = v.state)

/-- R119 to R122, R126: what an entry start leaves. The lag is device time minus the arrival stamp modulo 2^32;
the late mode follows from the mode before, the lag and the thresholds; the mode notice, then an owed late notice
where the lag is a minute or more, go out ahead of the entry's block, and the first of them is sent; the
late-notice timer starts or stops; the tape-state change is reported. -/
def Obligations.EntryStart : Prop :=
  ∀ (s : State) (r : Nat) (e : TapeEntry) (rest : List TapeEntry), r ≤ 1 →
    let v := s.ribbon r
    let lag := s.now - e.stamp
    let mode := newLateMode (s.items.late1 * 1000) (s.items.late2 * 1000) v.lateMode lag.toNat
    let t := s.entryStart r e rest
    let u := t.ribbon r
    let modeText : List Text :=
      if mode = v.lateMode then []
      else match mode, v.lateMode with
        | .digitsDeleted, .normal => [ascii "DIGITS DELETED"]
        | .digitsDeleted, _ => [ascii "VOLUME RESUMED"]
        | .digitsVolumeDeleted, _ => [ascii "DIGITS AND VOLUME DELETED"]
        | .normal, _ => [ascii "FULL TAPE RESUMED"]
    let lateText : List Text :=
      if v.lateOwed = true ∧ mode ≠ .normal ∧ 60000 ≤ lag.toNat then
        [ascii "TAPE LATE " ++ decimal (lag.toNat / 60000) ++ ascii " MIN"]
      else []
    u.lag = lag ∧ u.queue = rest ∧ u.lateMode = mode ∧ u.lateOwed = false ∧
    (∃ b, u.state = .sending b ∧ b.deadline = none ∧ b.acked0 = false ∧ b.acked1 = false ∧
      b.text :: u.outgoing = modeText ++ lateText ++ [s.entryText r mode e]) ∧
    (v.lateMode = .normal → mode ≠ .normal → u.lateExpiry = some (s.now + 60000)) ∧
    (v.lateMode ≠ .normal → mode = .normal → u.lateExpiry = none) ∧
    (v.lateMode = .normal ∧ mode = .normal ∨ v.lateMode ≠ .normal ∧ mode ≠ .normal →
      u.lateExpiry = v.lateExpiry) ∧
    t.transit.tapeChanges = s.transit.tapeChanges ++ (if v.lateMode ≠ mode ∨
      mode ≠ .normal ∧ v.lag.toNat / 60000 ≠ lag.toNat / 60000 then [r] else []) ∧
    t.quote = s.entryQuote r mode e ∧ (∀ q, q ≤ 1 → q ≠ r → t.ribbon q = s.ribbon q) ∧
    t = { s with
      tape := (s.setRibbon r u).tape, quote := t.quote
      transit := { s.transit with tapeChanges := t.transit.tapeChanges } } ∧
    u.enabled = v.enabled ∧ u.period = v.period ∧ u.ackTimeout = v.ackTimeout ∧ u.pacing = v.pacing

/-- R121: the evaluation of the late mode, with the thresholds in milliseconds: the first row that applies. -/
def Obligations.LateModeTable : Prop :=
  ∀ (l1 l2 : Nat) (mode : LateMode) (lag : Nat), 0 < l1 → l1 < l2 →
    (l2 ≤ lag → newLateMode l1 l2 mode lag = .digitsVolumeDeleted) ∧
    (lag < l2 →
      (l2 < 2 * lag → newLateMode l1 l2 .digitsVolumeDeleted lag = .digitsVolumeDeleted) ∧
      (2 * lag ≤ l2 → l1 < 2 * lag → newLateMode l1 l2 .digitsVolumeDeleted lag = .digitsDeleted) ∧
      (2 * lag ≤ l1 → newLateMode l1 l2 .digitsVolumeDeleted lag = .normal) ∧
      (l1 < 2 * lag → newLateMode l1 l2 .digitsDeleted lag = .digitsDeleted) ∧
      (2 * lag ≤ l1 → newLateMode l1 l2 .digitsDeleted lag = .normal) ∧
      (l1 ≤ lag → newLateMode l1 l2 .normal lag = .digitsDeleted) ∧
      (lag < l1 → newLateMode l1 l2 .normal lag = .normal))

/-- R116, R123 to R125: the block of a PRINT entry, and the digit reference it leaves. "OOS " for a LATE print,
the symbol, the size text unless the late mode is DVD and the print no block trade, and the price in full or, in
DD and DVD against a digit reference with the same tens, by its units digit and its fraction. A NOTICE entry is
its text.

R116: DEPARTED_COPY_HANDOFF records the oldest copy on its way with every queued PRINT entry of that print, and
changes no other entry. (That the handoff is a command of its own, and that a copy is kept across a roll or a new
definition of the instrument, are the model's choices, notes/assumptions/4.md and 31.md.) -/
def Obligations.PrintsOnTheTape : Prop :=
  (∀ (s : State) (r i n : Nat) (mode : LateMode) (stamp : Time) (copy : Option PrintFace), r ≤ 1 →
    let v := s.instr i
    let f := s.faceOf i n copy
    let w := f.price / 256
    let reference := if r = 0 then v.digitRef0 else v.digitRef1
    let short := mode ≠ .normal ∧ ∃ x, reference = some x ∧ w / 10 = x / 10
    let sized := f.size ≠ 100 ∧ (mode ≠ .digitsVolumeDeleted ∨
      v.blockThreshold.getD s.items.blockThreshold ≤ f.size)
    (∀ c, copy = some c → f = c) ∧
    (∀ p, copy = none → v.prints.find? (fun q => decide (q.number = n)) = some p → f = ⟨!p.isRegular, p.price, p.size⟩) ∧
    (∃ size price, s.entryText r mode (.print i n stamp copy) =
        (if f.late then ascii "OOS " else []) ++ symbolText v ++ size ++ ascii " " ++ price ∧
      (sized → size = ascii " " ++ sizeText f.size) ∧ (¬ sized → size = []) ∧
      (¬ short → price = priceText f.price) ∧
      (short → price = decimal (w % 10) ++ fractionText f.price)) ∧
    (w ≠ 0 → priceText f.price = decimal w ++ fractionText f.price) ∧
    (short → s.entryQuote r mode (.print i n stamp copy) = s.quote) ∧
    (¬ short → s.entryQuote r mode (.print i n stamp copy) = (s.setInstr i
      (if r = 0 then { v with digitRef0 := some w } else { v with digitRef1 := some w })).quote) ∧
    ∀ text index, s.entryText r mode (.notice text stamp index) = text ∧
      s.entryQuote r mode (.notice text stamp index) = s.quote) ∧
  (∀ s : State,
    (s.transit.departures = [] → exec .departedCopyHandoff s = .next s) ∧
    ∀ d rest, s.transit.departures = d :: rest →
      ∃ t, exec .departedCopyHandoff s = .next t ∧
        t = { s with
          transit := { s.transit with departures := rest }
          tape :=
            { s.tape with
              ribbon0 := { s.tape.ribbon0 with queue := t.tape.ribbon0.queue }
              ribbon1 := { s.tape.ribbon1 with queue := t.tape.ribbon1.queue } } } ∧
        ∀ r, r ≤ 1 → (t.ribbon r).queue.length = (s.ribbon r).queue.length ∧ ∀ (k : Nat) (e : TapeEntry),
          (s.ribbon r).queue[k]? = some e →
            (∀ stamp copy, e = .print d.index d.number stamp copy →
              (t.ribbon r).queue[k]? = some (.print d.index d.number stamp (some d.face))) ∧
            ((∀ stamp copy, e ≠ .print d.index d.number stamp copy) → (t.ribbon r).queue[k]? = some e))

/-- R130, R131, R133, R174: RIBBON RESTART, RIBBON RATE, READ RIBBON. The first two are refused MALFORMED, NOT_LIVE, and
OUT_OF_RANGE for a ribbon not in FAULT or for an OFF ribbon, in that order; READ RIBBON is refused MALFORMED alone. -/
def Obligations.RibbonRequests : Prop :=
  ∀ (s : State) (p : PortId) (w : Word) (ops : List Word),
    let r := operand ops 0
    let v := s.ribbon r
    let refuses (x : Request) (a : Answer) : Prop := exec (x.row p w .now) s = .next (s.answered p a [])
    (s.receives p w .ribbonRestart ops →
      let formed : Prop := ops.length = 1 ∧ r ≤ 1
      (¬ formed → refuses .ribbonRestart .malformed) ∧
      (formed → s.mode = .config → refuses .ribbonRestart .notLive) ∧
      (formed → s.mode = .live → (∀ b, v.state ≠ .fault b) → refuses .ribbonRestart .outOfRange) ∧
      ∀ b, formed → s.mode = .live → v.state = .fault b →
        exec (.ribbonRestart p w .now) s = .next ((s.setRibbon r
          (if s.gate r then { v with state := .sending ⟨b, none, false, false⟩ }
          else { v with state := .waiting, outgoing := b :: v.outgoing })).answered p .done [])) ∧
    (s.receives p w .ribbonRate ops →
      let formed : Prop := ops.length = 2 ∧ r ≤ 1 ∧ operand ops 1 ∈ [50, 60, 75, 80, 100, 120]
      (¬ formed → refuses .ribbonRate .malformed) ∧
      (formed → s.mode = .config → refuses .ribbonRate .notLive) ∧
      (formed → s.mode = .live → v.state = .off → refuses .ribbonRate .outOfRange) ∧
      (formed → s.mode = .live → v.state ≠ .off →
        exec (.ribbonRate p w .now) s =
          .next ((s.setRibbon r { v with period := operand ops 1 }).answered p .done []))) ∧
    (s.receives p w .readRibbon ops → ¬ (ops.length = 1 ∧ r ≤ 1) → refuses .readRibbon .malformed) ∧
    (s.receives p w .readRibbon ops → ops.length = 1 → r ≤ 1 → v.queue.length < 65536 → v.period < 65536 →
      ∃ ws, exec (.readRibbon p w .now) s = .next (s.answered p .done ws) ∧ ws.length = 5 ∧
        ((ws.getD 0 0).extractLsb' 0 4).toNat = (match v.state with
          | .off => 0
          | .idle => 1
          | .sending _ => 2
          | .pacing => 3
          | .waiting => 4
          | .fault _ => 5) ∧
        (ws.getD 0 0).getLsbD 4 = s.items.joined ∧
        ((ws.getD 0 0).extractLsb' 6 2).toNat = (match v.lateMode with
          | .normal => 0
          | .digitsDeleted => 1
          | .digitsVolumeDeleted => 2) ∧
        (ws.getD 0 0).getLsbD 8 = v.lateOwed ∧
        (∀ k, k = 3 ∨ k = 5 ∨ 9 ≤ k → (ws.getD 0 0).getLsbD k = false) ∧
        operand ws 1 = v.queue.length ∧ operand ws 2 = v.period ∧
        operandPair ws 3 = v.lag.toNat)

/-- R118, R122, R127, R128, R129, R132: the events of the ribbons. The last acknowledgement of a block loads the
pacing counter; the counter's end, and a gate that rises at a WAITING ribbon, let the ribbon send its next block,
make an entry start or become IDLE; a deadline reached before every acknowledgement is FAULT. (That an
acknowledgement at the deadline's own time or later does not count, that one ahead of the frame's last byte is ignored,
and that the counter's end asks only for a counter at 0, are the model's choices, notes/assumptions/6.md to 8.md. So it
is that a deadline or an expiry is reached while it lies 0 to 2^31 - 1 ms behind device time, and that a row whose
moment has not come changes nothing, notes/assumptions/5.md.)

R127, R171: the bytes of a block's frame: 02h, the character count, the characters, and the sum of all these bytes
modulo 256; nothing outside a frame. R132: each ribbon link carries its own ribbon's frame, while JOINED both carry
ribbon 0's. R117: the gate of a ribbon. -/
def Obligations.RibbonEvents : Prop :=
  (∀ (s : State) (u : Fin 2), (s.items.joined = true → s.ribbonLinkOut u = (s.ribbon 0).frameOut) ∧
    (s.items.joined = false → s.ribbonLinkOut u = (s.ribbon u).frameOut)) ∧
  (∀ s : State, (s.items.joined = true → s.gate 0 = (s.tape.ready0 && s.tape.ready1)) ∧
    (s.items.joined = false → s.gate 0 = s.tape.ready0) ∧ s.gate 1 = s.tape.ready1) ∧
  (∀ v : Ribbon, let frame (bytes : List Byte) : List Byte := bytes ++ [BitVec.ofNat 8 (bytes.map (·.toNat)).sum]
    (∀ b, v.state = .sending b →
      (b.deadline = none → v.frameOut = frame ([0x02, BitVec.ofNat 8 b.text.length] ++ b.text)) ∧
      (b.deadline ≠ none → v.frameOut = [])) ∧
    ((∀ b, v.state ≠ .sending b) → v.frameOut = [])) ∧
  ∀ s : State,
    (∀ (r : Fin 2) (b : Block), (s.ribbon r).state = .sending b →
      let v := s.ribbon r
      (b.deadline = none → exec (.blockFrameSent r) s = .next (s.setRibbon r
        { v with state := .sending { b with deadline := some (s.now + BitVec.ofNat 32 v.ackTimeout) } })) ∧
      (b.deadline ≠ none → exec (.blockFrameSent r) s = .next s) ∧
      (∀ t, b.deadline = some t → reached t s.now = true → exec (.ribbonAckTimeout r) s =
        .next ((s.setRibbon r { v with state := .fault b.text }).record .supervisor .ribbonFault)) ∧
      ((∀ t, b.deadline = some t → reached t s.now = false) → exec (.ribbonAckTimeout r) s = .next s)) ∧
    (∀ r : Fin 2, (∀ b, (s.ribbon r).state ≠ .sending b) →
      exec (.blockFrameSent r) s = .next s ∧ exec (.ribbonAckTimeout r) s = .next s) ∧
    (∀ (u : Fin 2) (b : Block) (t : Time),
      let r : Nat := if s.items.joined then 0 else u
      let v := s.ribbon r
      v.state = .sending b → b.deadline = some t → reached t s.now = false →
      let other : Bool := if u = 0 then b.acked1 else b.acked0
      (s.items.joined = false ∨ other = true →
        exec (.ribbonAcknowledgement u 0x06 0x06) s = .next (s.setRibbon r
          { v with state := .pacing, pacing := (b.text.length + 2) * v.period })) ∧
      (s.items.joined = true → other = false →
        let noted : Block := if u = 0 then { b with acked0 := true } else { b with acked1 := true }
        exec (.ribbonAcknowledgement u 0x06 0x06) s =
          .next (s.setRibbon r { v with state := .sending noted }))) ∧
    (∀ (u : Fin 2) (ack check : Byte), (ack ≠ 0x06 ∨ check ≠ 0x06) ∨
        (∀ b, (s.ribbon (if s.items.joined then 0 else u)).state = .sending b →
          ∀ t, b.deadline = some t → reached t s.now = true) →
      exec (.ribbonAcknowledgement u ack check) s = .next s) ∧
    (∀ r : Fin 2, (s.ribbon r).state = .pacing → (s.ribbon r).pacing = 0 →
      exec (.pacingCountEnd r) s = .next (s.freed r)) ∧
    (∀ r : Fin 2, (s.ribbon r).state ≠ .pacing ∨ (s.ribbon r).pacing ≠ 0 →
      exec (.pacingCountEnd r) s = .next s) ∧
    (∀ (u : Fin 2),
      let r : Nat := if s.items.joined then 0 else u
      let up : State := { s with tape :=
        if u = 0 then { s.tape with ready0 := true } else { s.tape with ready1 := true } }
      (s.gate r = false → up.gate r = true → (s.ribbon r).state = .waiting →
        exec (.readyRise u) s = .next (up.freed r)) ∧
      (s.gate r = true ∨ up.gate r = false ∨ (s.ribbon r).state ≠ .waiting → exec (.readyRise u) s = .next up) ∧
      exec (.readyFall u) s = .next { s with tape :=
        if u = 0 then { s.tape with ready0 := false } else { s.tape with ready1 := false } }) ∧
    (∀ (r : Fin 2) (t : Time), (s.ribbon r).lateExpiry = some t →
      (reached t s.now = true → exec (.lateNoticeExpiry r) s = .next (s.setRibbon r
        { s.ribbon r with lateOwed := true, lateExpiry := some (t + 60000) })) ∧
      (reached t s.now = false → exec (.lateNoticeExpiry r) s = .next s)) ∧
    (∀ r : Fin 2, (s.ribbon r).lateExpiry = none → exec (.lateNoticeExpiry r) s = .next s) ∧
    ∀ r, r ≤ 1 →
      (∀ b bs, (s.ribbon r).outgoing = b :: bs → s.freed r = s.setRibbon r
        { s.ribbon r with outgoing := bs, state := .sending ⟨b, none, false, false⟩ }) ∧
      (∀ e rest, (s.ribbon r).outgoing = [] → (s.ribbon r).queue = e :: rest → s.freed r = s.entryStart r e rest) ∧
      ((s.ribbon r).outgoing = [] → (s.ribbon r).queue = [] →
        s.freed r = s.setRibbon r { s.ribbon r with state := .idle })

/-! ### Pages and notices -/

/-- R136, R137, R138: WRITE DESCRIPTOR writes one slot, an INVALID descriptor being all zeros; WRITE LINE writes
one line of the line store; what makes each MALFORMED. (That WRITE DESCRIPTOR's present indication is examined for
INVALID too is the model's reading, notes/assumptions/20.md.) -/
def Obligations.DescriptorAndLineWrites : Prop :=
  ∀ (s : State) (p : PortId) (w : Word) (ops : List Word),
    let slot := operand ops 0
    let base := operand ops 4
    let limit := operand ops 5
    (s.receives p w .writeDescriptor ops →
      ¬ (ops.length = 6 ∧ slot ≤ 1023 ∧ operand ops 1 ≤ 2 ∧ operand ops 2 ≤ 1 ∧
        (operand ops 1 ≠ 0 → operand ops 3 ≤ 2 ∧ 1 ≤ limit ∧ limit ≤ 16) ∧ (operand ops 1 = 1 → base ≤ 4095) ∧
        (operand ops 1 = 2 → base ≤ 1023)) →
      exec (.writeDescriptor p w .now) s = .next (s.answered p .malformed [])) ∧
    (s.receives p w .writeLine ops →
      ¬ (ops.length = 4 ∧ slot ≤ 4095 ∧
        (operand ops 1 = 0 ∨ operand ops 1 = 1 ∧ operand ops 2 ≤ 2047 ∧ operand ops 3 ≤ 2)) →
      exec (.writeLine p w .now) s = .next (s.answered p .malformed [])) ∧
    (s.receives p w .writeDescriptor ops → ops.length = 6 → slot ≤ 1023 → operand ops 2 ≤ 1 →
      let writes (d : Descriptor) : Prop :=
        ∃ t : State, exec (.writeDescriptor p w .now) s = .next (t.answered p .done []) ∧
        t = { s with pages := { s.pages with descriptors := t.pages.descriptors } } ∧
        t.descriptor slot = d ∧ ∀ n, n ≠ slot → t.descriptor n = s.descriptor n
      (operand ops 1 = 0 → writes ⟨.invalid, false, 0, 0, 0⟩) ∧
      (operand ops 1 = 1 → operand ops 3 ≤ 2 → 1 ≤ limit → limit ≤ 16 → base ≤ 4095 →
        (base + limit ≤ 4096 → writes ⟨.page, decide (operand ops 2 = 1), operand ops 3, base, limit⟩) ∧
        (4096 < base + limit → exec (.writeDescriptor p w .now) s = .next (s.answered p .outOfRange []))) ∧
      (operand ops 1 = 2 → operand ops 3 ≤ 2 → 1 ≤ limit → limit ≤ 16 → base ≤ 1023 →
        (127 < slot → exec (.writeDescriptor p w .now) s = .next (s.answered p .wrongKind [])) ∧
        (slot ≤ 127 → base < 128 ∨ 1024 < base + limit →
          exec (.writeDescriptor p w .now) s = .next (s.answered p .outOfRange [])) ∧
        (slot ≤ 127 → 128 ≤ base → base + limit ≤ 1024 →
          writes ⟨.localTable, decide (operand ops 2 = 1), operand ops 3, base, limit⟩))) ∧
    (s.receives p w .writeLine ops → ops.length = 4 → slot ≤ 4095 →
      ∀ c : Option LineContent,
        (c = none ∧ operand ops 1 = 0 ∨ operand ops 1 = 1 ∧ operand ops 2 ≤ 2047 ∧ ∃ f, c = some ⟨operand ops 2, f⟩ ∧
          operand ops 3 = (match f with
            | .full => 0
            | .quote => 1
            | .range => 2)) →
        ∃ t : State, exec (.writeLine p w .now) s = .next (t.answered p .done []) ∧
          t = { s with pages := { s.pages with lines := t.pages.lines } } ∧
          t.line slot = c ∧ ∀ n, n ≠ slot → t.line n = s.line n)

/-- R139: a GLOBAL selector names its own slot; a LOCAL one is refused NO_LOCAL_TABLE without a cache, OUT_OF_RANGE
at or above the cached limit, and names the slot at the cached base plus its index; the slot's descriptor must be
present, else NOT_PRESENT, and a PAGE, else WRONG_KIND; a selector operand out of its table is MALFORMED.

R146: WRITE PAGE LINE at a selector that resolves: OUT_OF_RANGE at or above the page's limit; RANK, which is
recorded, where the page's alter rank, or the cached one of a LOCAL selector, is below 2; otherwise the line of
the line store at base plus offset takes the content, and no snapshot moves. Ahead of the selector it is refused
NOT_LIVE in CONFIG, then MALFORMED for a wrong word count, a terminal above 63, an offset above 15 or an unknown
content; a selector that is no selector of its table is MALFORMED too. R172: the codes of a line content. -/
def Obligations.LinesAreWrittenThroughSelectors : Prop :=
  (∀ (s : State) (p : PortId) (w : Word) (ops : List Word), s.receives p w .writePageLine ops →
    (s.mode = .config → exec (.writePageLine p w .now) s = .next (s.answered p .notLive [])) ∧
    (s.mode = .live →
      ¬ (ops.length = 7 ∧ operand ops 0 ≤ 63 ∧ operand ops 3 ≤ 15 ∧ (contentOperand ops 4).isSome = true) →
      exec (.writePageLine p w .now) s = .next (s.answered p .malformed [])) ∧
    (s.mode = .live → selectorOperand ops 1 = none →
      exec (.writePageLine p w .now) s = .next (s.answered p .malformed []))) ∧
  (∀ (ops : List Word) (i : Nat) (c : Option LineContent), contentOperand ops i = some c ↔
    operand ops i = 0 ∧ c = none ∨
    operand ops i = 1 ∧ operand ops (i + 1) ≤ 2047 ∧ ∃ f, c = some ⟨operand ops (i + 1), f⟩ ∧
      (operand ops (i + 2), f) ∈ [(0, LineFormat.full), (1, .quote), (2, .range)]) ∧
  (∀ (s : State) (t : Nat),
    s.resolve t none = .error .malformed ∧
    (∀ x : Selector, x.isLocal = true → (s.context t).localTable = none →
      s.resolve t (some x) = .error .noLocalTable) ∧
    (∀ (x : Selector) (c : LocalTable), x.isLocal = true → (s.context t).localTable = some c → c.limit ≤ x.index →
      s.resolve t (some x) = .error .outOfRange) ∧
    (∀ (x : Selector) (slot : Nat),
      (x.isLocal = false ∧ slot = x.index ∨ x.isLocal = true ∧ ∃ c, (s.context t).localTable = some c ∧
        x.index < c.limit ∧ slot = c.base + x.index) →
      s.resolve t (some x) =
        (if (s.descriptor slot).present = false then .error .notPresent
        else if (s.descriptor slot).kind ≠ .page then .error .wrongKind
        else .ok (s.descriptor slot))) ∧
    ∀ (ops : List Word) (k : Nat),
      (operand ops k = 0 → operand ops (k + 1) ≤ 127 → selectorOperand ops k = some ⟨false, operand ops (k + 1)⟩) ∧
      (operand ops k = 1 → operand ops (k + 1) ≤ 15 → selectorOperand ops k = some ⟨true, operand ops (k + 1)⟩) ∧
      (operand ops k = 0 ∧ 127 < operand ops (k + 1) ∨ operand ops k = 1 ∧ 15 < operand ops (k + 1) ∨
        1 < operand ops k → selectorOperand ops k = none)) ∧
  (∀ (s : State) (p : PortId) (w : Word) (ops : List Word) (x : Selector) (d : Descriptor)
    (c : Option LineContent), s.receives p w .writePageLine ops → ops.length = 7 → operand ops 0 ≤ 63 →
    operand ops 3 ≤ 15 → contentOperand ops 4 = some c → s.mode = .live → selectorOperand ops 1 = some x →
    let low := d.rank < 2 ∨
      x.isLocal = true ∧ ∃ t, (s.context (operand ops 0)).localTable = some t ∧ t.rank < 2
    (∀ a, s.resolve (operand ops 0) (some x) = .error a →
      exec (.writePageLine p w .now) s = .next (s.answered p a [])) ∧
    (s.resolve (operand ops 0) (some x) = .ok d →
      (d.limit ≤ operand ops 3 → exec (.writePageLine p w .now) s = .next (s.answered p .outOfRange [])) ∧
      (operand ops 3 < d.limit → low →
        exec (.writePageLine p w .now) s = .next ((s.record .terminal .rank).answered p .rank [])) ∧
      (operand ops 3 < d.limit → ¬ low → ∃ t : State, exec (.writePageLine p w .now) s = .next (t.answered p .done []) ∧
        t = { s with pages := { s.pages with lines := t.pages.lines } } ∧
        t.line (d.base + operand ops 3) = c ∧ ∀ n, n ≠ d.base + operand ops 3 → t.line n = s.line n)))

/-- R141 to R145: SET LOCAL TABLE fills the cache and touches nothing else of the context; OPEN PAGE closes the
page that is open, takes the page's lines into the snapshot, marks those that are not blank and tells the notice
unit; CLOSE PAGE leaves the context CLOSED with its cache. A terminal stands in the viewer sets of the
instruments that its snapshot names, and nothing else of a record moves. At the T-port each is refused NOT_LIVE in
CONFIG, ahead of MALFORMED for a wrong word count, a terminal above 63 or a global index above 127; CLOSE PAGE is taken
at the S-port in either mode. -/
def Obligations.PagesOpenAndClose : Prop :=
  (∀ (s : State) (p : PortId) (w : Word) (ops : List Word) (r : Request),
    r = .setLocalTable ∨ r = .openPage ∨ r = .closePage → s.receives p w r ops →
    let inBoth : Prop := r = .closePage ∧ p = .supervisor
    let formed : Prop := operand ops 0 ≤ 63 ∧ (r = .setLocalTable → ops.length = 2 ∧ operand ops 1 ≤ 127) ∧
      (r = .openPage → ops.length = 3) ∧ (r = .closePage → ops.length = 1)
    (s.mode = .config → ¬ inBoth → exec (r.row p w .now) s = .next (s.answered p .notLive [])) ∧
    (s.mode = .live ∨ inBoth → ¬ formed →
      exec (r.row p w .now) s = .next (s.answered p .malformed []))) ∧
  ∀ (s : State) (p : PortId) (w : Word) (ops : List Word),
    let n := operand ops 0
    let old := (s.context n).page
    let named (lines : List (Option LineContent)) (i : Nat) : Prop := ∃ f, some ⟨i, f⟩ ∈ lines
    let onlyPages (t : State) : Prop := t = { s with
      quote := { s.quote with instruments := t.quote.instruments }
      pages := { s.pages with contexts := t.pages.contexts }
      transit := { s.transit with raises := t.transit.raises } }
    n ≤ 63 →
    (s.receives p w .setLocalTable ops → ops.length = 2 → operand ops 1 ≤ 127 → s.mode = .live →
      let d := s.descriptor (operand ops 1)
      (d.present = false → exec (.setLocalTable p w .now) s = .next (s.answered p .notPresent [])) ∧
      (d.present = true → d.kind ≠ .localTable →
        exec (.setLocalTable p w .now) s = .next (s.answered p .wrongKind [])) ∧
      (d.present = true → d.kind = .localTable → exec (.setLocalTable p w .now) s = .next ((s.setContext n
        { s.context n with localTable := some ⟨d.base, d.limit, d.rank⟩ }).answered p .done []))) ∧
    (s.receives p w .openPage ops → ops.length = 3 → s.mode = .live →
      (∀ a, s.resolve n (selectorOperand ops 1) = .error a →
        exec (.openPage p w .now) s = .next (s.answered p a [])) ∧
      ∀ d x, s.resolve n (selectorOperand ops 1) = .ok d → selectorOperand ops 1 = some x →
        let lines := (List.range d.limit).map fun k => s.line (d.base + k)
        let dirty := (List.range d.limit).filter fun k => (s.line (d.base + k)).isSome
        ∃ t : State, exec (.openPage p w .now) s = .next (t.answered p .done []) ∧ onlyPages t ∧
          t.context n = { s.context n with page := some ⟨x, lines, dirty⟩ } ∧
          (∀ m, m ≠ n → t.context m = s.context m) ∧
          (∀ i, t.instr i = { s.instr i with viewers := (t.instr i).viewers } ∧
            ∀ m, m ∈ (t.instr i).viewers ↔ if m = n
              then named lines i ∨ n ∈ (s.instr i).viewers ∧ ∀ q, old = some q → ¬ named q.snapshot i
              else m ∈ (s.instr i).viewers) ∧
          t.transit.raises = s.transit.raises ++ if dirty = [] then [] else [n]) ∧
    (s.receives p w .closePage ops → ops.length = 1 → p = .supervisor ∨ s.mode = .live →
      ∃ t : State, exec (.closePage p w .now) s = .next (t.answered p .done []) ∧ onlyPages t ∧
        t.context n = { s.context n with page := none } ∧ (∀ m, m ≠ n → t.context m = s.context m) ∧
        (∀ i, t.instr i = { s.instr i with viewers := (t.instr i).viewers } ∧
          ∀ m, m ∈ (t.instr i).viewers ↔ m ∈ (s.instr i).viewers ∧
            (m = n → ∀ q, old = some q → ¬ named q.snapshot i)) ∧
        t.transit.raises = s.transit.raises)

/-- R148, R149, R174: READ CHANGED LINE returns the line at the lowest dirty offset and removes it from the dirty
set, NONE with an empty set or a CLOSED terminal; READ LINE returns any line of the snapshot and leaves the dirty
set. The reply holds the open selector, the offset, the offsets still dirty and the 40 characters. Each is refused
NOT_LIVE in CONFIG, then MALFORMED for a wrong word count, a terminal above 63 or an offset above 15.

R151: where READ CHANGED LINE would return a line that a handoff on its way marks, the handoffs are taken first, one
after another (the model's choice of the order, notes/assumptions/33.md). -/
def Obligations.LinesAreRead : Prop :=
  (∀ (s : State) (p : PortId) (w : Word) (ops : List Word) (r : Request) (n : Nat),
    r = .readChangedLine ∧ n = 1 ∨ r = .readLine ∧ n = 2 → s.receives p w r ops →
    (s.mode = .config → exec (r.row p w .now) s = .next (s.answered p .notLive [])) ∧
    (s.mode = .live → ¬ (ops.length = n ∧ operand ops 0 ≤ 63 ∧ (r = .readLine → operand ops 1 ≤ 15)) →
      exec (r.row p w .now) s = .next (s.answered p .malformed []))) ∧
  (∀ (b c : Byte) (bs : List Byte), packBytes [] = [] ∧ packBytes (b :: c :: bs) = wordOf b c :: packBytes bs ∧
    (wordOf b c).extractLsb' 8 8 = b ∧ (wordOf b c).extractLsb' 0 8 = c) ∧
  ∀ (s : State) (p : PortId) (w : Word) (ops : List Word),
    let n := operand ops 0
    let reply (q : OpenPage) (offset left : Nat) : List Word :=
      wordOf (if q.selector.isLocal then 1 else 0) (BitVec.ofNat 8 q.selector.index) ::
        wordOf (BitVec.ofNat 8 offset) (BitVec.ofNat 8 left) :: packBytes (s.lineText (q.snapshot.getD offset none))
    n ≤ 63 → s.mode = .live →
    (s.transit.pageChanges = [] → s.pagesCaughtUp = s) ∧
    (∀ u, s.transit.pageChanges ≠ [] → exec .pageHandoff s = .next u → s.pagesCaughtUp = u.pagesCaughtUp) ∧
    (s.receives p w .readChangedLine ops → ops.length = 1 →
      ((s.context n).page = none ∨ (∃ q, (s.context n).page = some q ∧ q.dirty = []) →
        exec (.readChangedLine p w .now) s = .next (s.answered p .noLine [])) ∧
      ∀ q k rest, (s.context n).page = some q → q.dirty = k :: rest →
        let onItsWay : Prop := ∃ b ∈ s.transit.pageChanges, ∃ f x, q.snapshot[k]? = some (some ⟨b.index, f⟩) ∧
          x ∈ b.fields ∧ x ∈ (match f with
            | .full => [.symbol, .last, .netChange, .tick, .volume, .status]
            | .quote => [.symbol, .bid, .ask, .bidSize, .askSize, .status]
            | .range => [.symbol, .opening, .high, .low, .status] : List Field)
        (¬ onItsWay → exec (.readChangedLine p w .now) s = .next ((s.setContext n
          { s.context n with page := some { q with dirty := rest } }).answered p .done
            (reply q k rest.length))) ∧
        (onItsWay → let u := s.pagesCaughtUp
          u.receives p w .readChangedLine ops ∧ u.mode = .live ∧ u.transit.pageChanges = [] ∧
          (∃ q' k' rest', (u.context n).page = some q' ∧ q'.dirty = k' :: rest') ∧
          exec (.readChangedLine p w .now) s = exec (.readChangedLine p w .now) u)) ∧
    (s.receives p w .readLine ops → ops.length = 2 → operand ops 1 ≤ 15 →
      ((s.context n).page = none → exec (.readLine p w .now) s = .next (s.answered p .notPresent [])) ∧
      ∀ q, (s.context n).page = some q →
        (q.snapshot.length ≤ operand ops 1 →
          exec (.readLine p w .now) s = .next (s.answered p .outOfRange [])) ∧
        (operand ops 1 < q.snapshot.length →
          exec (.readLine p w .now) s = .next (s.answered p .done (reply q (operand ops 1) q.dirty.length))))

/-- R147, R154: PAGE_HANDOFF takes the oldest changed-field set. At each terminal of the instrument's viewer set it
marks the lines that name the instrument and whose format shows a changed field, and the notice unit is told of a
dirty set that it finds empty and leaves not empty. (A handoff with nothing to take changes nothing,
notes/assumptions/4.md.) -/
def Obligations.PageHandoffMarksLines : Prop :=
  ∀ s : State,
    (s.transit.pageChanges = [] → exec .pageHandoff s = .next s) ∧
    ∀ b rest, s.transit.pageChanges = b :: rest → (s.instr b.index).viewers.Nodup →
      ∃ t, exec .pageHandoff s = .next t ∧
        t = { s with
          pages := { s.pages with contexts := t.pages.contexts }
          transit := { s.transit with pageChanges := rest, raises := t.transit.raises } } ∧
        (∀ n, n ∉ (s.instr b.index).viewers ∨ (s.context n).page = none → t.context n = s.context n) ∧
        (∀ n q, n ∈ (s.instr b.index).viewers → (s.context n).page = some q →
          ∃ dirty, t.context n = { s.context n with page := some { q with dirty := dirty } } ∧
            ∀ k, k ∈ dirty ↔ k < q.snapshot.length ∧ (k ∈ q.dirty ∨ ∃ f field,
              q.snapshot[k]? = some (some ⟨b.index, f⟩) ∧ field ∈ b.fields ∧
                field ∈ (match f with
                  | .full => [.symbol, .last, .netChange, .tick, .volume, .status]
                  | .quote => [.symbol, .bid, .ask, .bidSize, .askSize, .status]
                  | .range => [.symbol, .opening, .high, .low, .status] : List Field))) ∧
        t.transit.raises = s.transit.raises ++ (s.instr b.index).viewers.filter fun n =>
          match (s.context n).page, (t.context n).page with
          | some q, some u => q.dirty.isEmpty && !u.dirty.isEmpty
          | _, _ => false

/-- R153 to R157: NOTICE_RAISE, SET NOTICE MASK and TAKE NOTICE; the two requests are refused NOT_LIVE in CONFIG, then
MALFORMED for a wrong word count, and SET NOTICE MASK for an unknown target or operation or, with target ENTRY, a
terminal above 63. (A raise with nothing to take changes nothing,
notes/assumptions/4.md.) -/
def Obligations.NoticesRaiseMaskAndTake : Prop :=
  (∀ (s : State) (p : PortId) (w : Word) (ops : List Word) (r : Request), r = .setNoticeMask ∨ r = .takeNotice →
    s.receives p w r ops →
    let formed : Prop := if r = .takeNotice then ops = [] else
      ops.length = 3 ∧ operand ops 2 ≤ 1 ∧ (operand ops 0 = 0 ∧ operand ops 1 ≤ 63 ∨ operand ops 0 = 1)
    (s.mode = .config → exec (r.row p w .now) s = .next (s.answered p .notLive [])) ∧
    (s.mode = .live → ¬ formed → exec (r.row p w .now) s = .next (s.answered p .malformed []))) ∧
  ∀ s : State, let u := s.notices
    (s.transit.raises = [] → exec .noticeRaise s = .next s) ∧
    (∀ n rest, s.transit.raises = n :: rest → ∃ v : Notices,
      exec .noticeRaise s = .next { s with transit := { s.transit with raises := rest }, notices := v } ∧
      (n ∈ u.queue ∨ n ∈ u.waiting → v = u) ∧
      (n ∉ u.queue → n ∉ u.waiting → u.globalMask = false → u.mask n = false →
        v = { u with queue := u.queue ++ [n] }) ∧
      (n ∉ u.queue → n ∉ u.waiting → u.globalMask = true ∨ u.mask n = true →
        v = { u with waiting := v.waiting } ∧ ∀ m, m ∈ v.waiting ↔ m = n ∨ m ∈ u.waiting)) ∧
    (∀ (p : PortId) (w : Word) (ops : List Word), s.receives p w .setNoticeMask ops → s.mode = .live →
      ops.length = 3 → operand ops 2 ≤ 1 →
      let n := operand ops 1
      let set : Bool := decide (operand ops 2 = 1)
      operand ops 0 = 0 ∧ n ≤ 63 ∨ operand ops 0 = 1 → ∃ v : Notices, exec (.setNoticeMask p w .now) s =
          .next ({ s with notices := v }.answered p .done [BitVec.ofNat 16 v.queue.length]) ∧
        (operand ops 0 = 0 →
          v.mask n = set ∧ (∀ m, m ≠ n → v.mask m = u.mask m) ∧ v.globalMask = u.globalMask ∧
          (set = true ∨ u.mask n = false ∨ u.globalMask = true ∨ n ∉ u.waiting →
            v.queue = u.queue ∧ v.waiting = u.waiting) ∧
          (set = false → u.mask n = true → u.globalMask = false → n ∈ u.waiting →
            v.queue = u.queue ++ [n] ∧ v.waiting = u.waiting.filter (· ≠ n))) ∧
        (operand ops 0 = 1 →
          v.globalMask = set ∧ v.masks = u.masks ∧
          (set = true ∨ u.globalMask = false → v.queue = u.queue ∧ v.waiting = u.waiting) ∧
          (set = false → u.globalMask = true →
            v.queue = u.queue ++ u.waiting.filter (fun m => !u.mask m) ∧
            v.waiting = u.waiting.filter fun m => u.mask m))) ∧
    ∀ (p : PortId) (w : Word), s.receives p w .takeNotice [] → s.mode = .live →
      (u.queue = [] → exec (.takeNotice p w .now) s = .next (s.answered p .empty [])) ∧
      ∀ n rest, u.queue = n :: rest → exec (.takeNotice p w .now) s =
        .next ({ s with notices := { u with queue := rest } }.answered p .done
          [BitVec.ofNat 16 n, BitVec.ofNat 16 rest.length])

/-! ### Mode control and timebase -/

/-- R176, R177: CONFIGURE in CONFIG with values in their ranges replaces the item, and nothing else; in LIVE it is
BUSY, with a value out of its range OUT_OF_RANGE, for a module item that would leave a BOUND cell outside its
module IN_USE. In either mode it is first MALFORMED for a wrong word count, an unknown item, a link above 3, an address
above 31, a ribbon above 1, or an enable, configured or pairing value above 1. -/
def Obligations.ConfigureReplacesItems : Prop :=
  (∀ (s : State) (p : PortId) (w : Word) (ops : List Word), s.receives p w .configure ops →
    let a := operand ops 1
    let known : Prop := match operand ops 0 with
      | 1 => a ≤ 3 ∧ operand ops 2 ≤ 1
      | 2 => a / 256 ≤ 3 ∧ a % 256 ≤ 31 ∧ operand ops 2 ≤ 1
      | 5 => a / 256 ≤ 1 ∧ a % 256 ≤ 1
      | 6 => a ≤ 1
      | n => 1 ≤ n ∧ n ≤ 8
    ¬ (ops.length = 4 ∧ known) → exec (.configure p w .now) s = .next (s.answered p .malformed [])) ∧
  ∀ (s : State) (p : PortId) (w : Word) (ops : List Word), s.receives p w .configure ops → ops.length = 4 →
    let a := operand ops 1
    let hi (k : Nat) := operand ops k / 256
    let lo (k : Nat) := operand ops k % 256
    let takes (t : State) : Prop := exec (.configure p w .now) s = .next (t.answered p .done [])
    let refuses (x : Answer) : Prop := exec (.configure p w .now) s = .next (s.answered p x [])
    let item (ok : Prop) (t : State) : Prop :=
      (s.mode = .live → refuses .busy) ∧ (s.mode = .config → (ok → takes t) ∧ (¬ ok → refuses .outOfRange))
    let v := s.display.link a
    let m := (s.display.link (hi 1)).module (lo 1)
    (operand ops 0 = 1 → a ≤ 3 → operand ops 2 ≤ 1 →
      item (2 ≤ hi 3 ∧ hi 3 ≤ 30 ∧ lo 3 ∈ [20, 50, 100, 200])
        (let e : Link := { v with enabled := decide (operand ops 2 = 1), holdSeconds := hi 3, ackTimeout := lo 3 }
         { s with display := s.display.setLink a e })) ∧
    (operand ops 0 = 2 → hi 1 ≤ 3 → lo 1 ≤ 31 → operand ops 2 ≤ 1 →
      let outside : Prop := ∃ c ∈ s.display.boundCells, s.display.onModule (hi 1) (lo 1) c = true ∧
        (operand ops 2 = 0 ∨ hi 3 < (s.display.cell c).row ∨
          lo 3 < (s.display.cell c).column + (s.display.cell c).width - 1)
      let ok : Prop := operand ops 2 = 0 ∨ 1 ≤ hi 3 ∧ hi 3 ≤ 4 ∧ 8 ≤ lo 3 ∧ lo 3 ≤ 40
      (s.mode = .live → refuses .busy) ∧
      (s.mode = .config → ¬ ok → refuses .outOfRange) ∧
      (s.mode = .config → ok → outside → refuses .inUse) ∧
      (s.mode = .config → ok → ¬ outside → takes
        { s with display := s.display.setLink (hi 1) ((s.display.link (hi 1)).setModule (lo 1)
          (if operand ops 2 = 1 then ⟨.down, hi 3, lo 3, none, .nothing, false⟩
          else ⟨.unconfigured, m.rows, m.columns, none, .nothing, false⟩)) })) ∧
    (operand ops 0 = 3 → item (1 ≤ a ∧ a ≤ 10) { s with items := { s.items with probeSeconds := a } }) ∧
    (operand ops 0 = 4 → item (1 ≤ a ∧ a ≤ 15) { s with items := { s.items with highlightSeconds := a } }) ∧
    (operand ops 0 = 5 → hi 1 ≤ 1 → lo 1 ≤ 1 →
      item (operand ops 2 ∈ [50, 60, 75, 80, 100, 120] ∧ operand ops 3 ∈ [50, 100, 200, 500, 1000])
        (s.setRibbon (hi 1) { s.ribbon (hi 1) with
          enabled := decide (lo 1 = 1), period := operand ops 2, ackTimeout := operand ops 3 })) ∧
    (operand ops 0 = 6 → a ≤ 1 → item True { s with items := { s.items with joined := decide (a = 1) } }) ∧
    (operand ops 0 = 7 → item (10 ≤ a ∧ a ≤ 600 ∧ a < operand ops 2 ∧ operand ops 2 ≤ 900)
      { s with items := { s.items with late1 := a, late2 := operand ops 2 } }) ∧
    (operand ops 0 = 8 → item (100 ≤ operandPair ops 1 ∧ operandPair ops 1 ≤ 9999999)
      { s with items := { s.items with blockThreshold := operandPair ops 1 } }) ∧
    (operand ops 0 = 0 ∨ 8 < operand ops 0 → refuses .malformed)

/-- R178, R179, R105, R107, R96, R135: GO LIVE and GO CONFIG, each MALFORMED with operands. GO LIVE is BUSY with no
link enabled and no ribbon eligible; it takes every enabled link to SETTLING for 500 ms and every eligible ribbon to
IDLE. GO CONFIG is BUSY
while the session is OPEN, a tape queue holds an entry, or a ribbon is neither IDLE nor OFF; it takes every link
and ribbon OFF and empties the repaint queues and the highlight list. In the mode asked for, nothing changes.
(`resetPulses` is the model's count of the pulses of LRST, notes/assumptions/13.md.) -/
def Obligations.ModeChanges : Prop :=
  (∀ (s : State) (p : PortId) (w : Word) (ops : List Word), ops ≠ [] →
    (s.receives p w .goLive ops → exec (.goLive p w .now) s = .next (s.answered p .malformed [])) ∧
    (s.receives p w .goConfig ops → exec (.goConfig p w .now) s = .next (s.answered p .malformed []))) ∧
  ∀ (s : State) (p : PortId) (w : Word),
    let eligible (r : Nat) : Bool := (s.ribbon r).enabled && !(s.items.joined && decide (r = 1))
    let quietRibbon (v : Ribbon) : Prop := v.state = .off ∨ v.state = .idle
    (s.receives p w .goLive [] →
      (s.mode = .live → exec (.goLive p w .now) s = .next (s.answered p .done [])) ∧
      (s.mode = .config → (∀ l, l ≤ 3 → (s.display.link l).enabled = false) → eligible 0 = false →
        eligible 1 = false → exec (.goLive p w .now) s = .next (s.answered p .busy [])) ∧
      (s.mode = .config → (∃ l, l ≤ 3 ∧ (s.display.link l).enabled = true) ∨ eligible 0 = true ∨ eligible 1 = true →
        ∃ t : State, exec (.goLive p w .now) s = .next (t.answered p .done []) ∧ t = { s with
            mode := .live
            display := { s.display with links := t.display.links }
            tape :=
              { s.tape with
                ribbon0 := { s.tape.ribbon0 with state := if eligible 0 then .idle else .off }
                ribbon1 := { s.tape.ribbon1 with state := if eligible 1 then .idle else .off } } } ∧
          ∀ l, (l ≤ 3 → (s.display.link l).enabled = true → t.display.link l = { s.display.link l with
              state := .settling (some (s.now + 500)), resetPulses := (s.display.link l).resetPulses + 1 }) ∧
            (3 < l ∨ (s.display.link l).enabled = false → t.display.link l = s.display.link l))) ∧
    (s.receives p w .goConfig [] →
      let quiet : Prop := s.quote.session = .closed ∧ s.tape.ribbon0.queue = [] ∧ s.tape.ribbon1.queue = [] ∧
        quietRibbon s.tape.ribbon0 ∧ quietRibbon s.tape.ribbon1
      let off (v : Ribbon) : Ribbon :=
        { v with
          state := .off, outgoing := [], pacing := 0, lag := 0, lateMode := .normal, lateExpiry := none
          lateOwed := false, queue := [] }
      (s.mode = .config → exec (.goConfig p w .now) s = .next (s.answered p .done [])) ∧
      (s.mode = .live → ¬ quiet → exec (.goConfig p w .now) s = .next (s.answered p .busy [])) ∧
      (s.mode = .live → quiet → (∀ e ∈ s.display.links, Table.wf Module.reset e.2.modules = true) →
        Table.wf Cell.vacant s.display.cells = true →
        ∃ t : State, exec (.goConfig p w .now) s = .next (t.answered p .done []) ∧ t = { s with
            mode := .config
            display :=
              { s.display with
                cells := t.display.cells, repaint := [], highlights := [], links := t.display.links }
            tape := { s.tape with ribbon0 := off s.tape.ribbon0, ribbon1 := off s.tape.ribbon1 } } ∧
          (∀ c, t.display.cell c = { s.display.cell c with queued := false, expiry := none }) ∧
          ∀ l, l ≤ 3 → let v := s.display.link l
            (v.state = .off → t.display.link l = v) ∧
            (v.state ≠ .off → t.display.link l = { v with
                state := .off, line := .free, modules := (t.display.link l).modules } ∧
              ∀ m, (t.display.link l).module m = { v.module m with
                state := if (v.module m).state = .unconfigured then ModuleState.unconfigured else .down
                lastSent := none, owed := .nothing, restartPending := false })))

/-- R180, R181, R128: TICK adds 1 to device time and to the count within the second, and takes 1 from each pacing
counter above 0 whose gate is high; the day clock advances once for each second completed; SET TIME sets it, after the
advances that are still due, and is MALFORMED for a wrong word count. (That the advance is a command of its own, that
SET TIME takes the advances still due first, and that a ribbon whose counter a TICK takes to 0 stays PACING until
PACING_COUNT_END, are the model's choices, notes/assumptions/10.md and 32.md.) -/
def Obligations.TimebaseCounts : Prop :=
  (∀ s : State, s.inReset = false → let ms := s.timebase.millisecond
    let counted (r : Nat) : Ribbon :=
      { s.ribbon r with pacing := (s.ribbon r).pacing - (if s.gate r then 1 else 0) }
    exec .tick s = .next { s with
      timebase := { s.timebase with
        time := s.timebase.time + 1, millisecond := if ms + 1 < 1000 then ms + 1 else 0 }
      transit := { s.transit with seconds := s.transit.seconds + if ms + 1 < 1000 then 0 else 1 }
      tape := { s.tape with ribbon0 := counted 0, ribbon1 := counted 1 } }) ∧
  (∀ s : State, s.inReset = true → exec .tick s = .next s) ∧
  (∀ s : State, s.transit.seconds = 0 → exec .dayClockAdvance s = .next s) ∧
  (∀ (s : State) (n : Nat), s.transit.seconds = n + 1 → s.timebase.dayClock ≤ 86399 →
    let d := s.timebase.dayClock
    let e := if d = 86399 then 0 else d + 1
    exec .dayClockAdvance s = .next { s with
      timebase := { s.timebase with dayClock := e }
      transit := { s.transit with
        seconds := n, minuteChanges := s.transit.minuteChanges + if d / 60 = e / 60 then 0 else 1 } }) ∧
  (∀ (s : State) (p : PortId) (w : Word) (ops : List Word), s.receives p w .setTime ops → ops.length ≠ 2 →
    exec (.setTime p w .now) s = .next (s.answered p .malformed [])) ∧
  ∀ (s : State) (p : PortId) (w : Word) (ops : List Word), s.receives p w .setTime ops → ops.length = 2 →
    let d := operandPair ops 0
    (86399 < d → exec (.setTime p w .now) s = .next (s.answered p .outOfRange [])) ∧
    (d ≤ 86399 → s.transit.seconds = 0 → exec (.setTime p w .now) s = .next (({ s with
      timebase := { s.timebase with millisecond := 0, dayClock := d }
      transit := { s.transit with
        minuteChanges := s.transit.minuteChanges + if d / 60 = s.timebase.dayClock / 60 then 0 else 1 } } :
          State).answered p .done [])) ∧
    ∀ u : State, d ≤ 86399 → s.transit.seconds ≠ 0 → exec .dayClockAdvance s = .next u →
      u.receives p w .setTime ops ∧ exec (.setTime p w .now) s = exec (.setTime p w .now) u

/-- R182, R170, R176, R21, R97, R114, R135, R152, R160: DEVICE_RESET and RESET_RELEASE leave the part in CONFIG,
device time 0, every block at its device-reset values, nothing on its way and no roll going on; while RESET is low
every ATTN output is released. (The levels of the READY inputs are no state of the part, notes/assumptions/11.md;
RESET_RELEASE with RESET high changes nothing, notes/assumptions/28.md.) -/
def Obligations.DeviceReset : Prop :=
  (∀ s : State,
    let resetTo (low : Bool) : State :=
      { State.reset with
        pending := s.pending, inReset := low
        tape := { State.reset.tape with ready0 := s.tape.ready0, ready1 := s.tape.ready1 } }
    exec .deviceReset s = .next (resetTo true) ∧
    (s.inReset = true → exec .resetRelease s = .next (resetTo false)) ∧
    (s.inReset = false → exec .resetRelease s = .next s) ∧
    (s.inReset = true → ∀ p, s.attention p = false)) ∧
  let z := State.reset
  z.mode = .config ∧ z.now = 0 ∧ z.timebase.millisecond = 0 ∧ z.timebase.dayClock = 0 ∧
  z.quote.session = .closed ∧ z.quote.expectation = none ∧ z.quote.directory = [] ∧
  (∀ i, z.instr i =
    { symbol := none, cls := none, trading := .vacant, denominator := .eighths, ribbonSet := .neither
      blockThreshold := none, prevClose := none, opening := none, high := none, low := none, last := none
      anchorHigh := none, anchorLow := none, anchorLast := none, tick := .flat, carriedTick := .flat
      reversal := false, volume := 0, saturated := false, tradeCount := 0, bid := none, ask := none
      bidSize := 0, askSize := 0, quoteCondition := .firm, fast := false, nextNumber := 1, prints := []
      bindHead := none, viewers := [], digitRef0 := none, digitRef1 := none }) ∧
  z.quote.rolling = [] ∧
  z.transit = { boardChanges := [], pageChanges := [], raises := [], minuteChanges := 0, sessionChanges := 0
                tapeChanges := [], departures := [], seconds := 0 } ∧
  (∀ n, z.display.panel n = ⟨false, 0, 0, 1, false⟩) ∧
  (∀ c, z.display.cell c = ⟨false, 0, 1, 1, 1, .instrument .symbol 0, .right, false, none, false, none⟩) ∧
  z.display.deviceHead = none ∧ z.display.highlights = [] ∧
  (∀ l, z.display.queue l = [] ∧ (z.display.link l).state = .off ∧ (z.display.link l).line = .free ∧
    (z.display.link l).enabled = false ∧
    (z.display.link l).holdSeconds = 10 ∧ (z.display.link l).ackTimeout = 50 ∧
    ∀ m, (z.display.link l).module m = ⟨.unconfigured, 4, 40, none, .nothing, false⟩) ∧
  (∀ r, z.ribbon r = ⟨false, 80, 200, .off, [], 0, 0, .normal, none, false, []⟩) ∧
  (∀ n, z.descriptor n = ⟨.invalid, false, 0, 0, 0⟩ ∧ z.line n = none ∧ z.context n = ⟨none, none⟩) ∧
  (∀ n, z.notices.mask n = false) ∧ z.notices.globalMask = true ∧ z.notices.queue = [] ∧ z.notices.waiting = [] ∧
  (∀ p, (z.port p).state = .idle ∧ (z.port p).status = 0 ∧ (z.port p).mask = 0) ∧
  (z.port .feed).severity = 2 ∧ (z.port .supervisor).severity = 0 ∧ (z.port .terminal).severity = 0 ∧
  z.ports.textBuffer = none ∧
  z.items.probeSeconds = 5 ∧ z.items.highlightSeconds = 3 ∧ z.items.joined = false ∧ z.items.late1 = 60 ∧
  z.items.late2 = 120 ∧ z.items.blockThreshold = 10000

/-! ### Invariants of every step -/

/-- R4 to R8, R57: whatever command is taken, every record's high, low, last, tick and quote condition stay what its
print list, anchors and quote give. -/
def Obligations.RecordsStayDerived : Prop :=
  ∀ s t : State, s.recordsDerived → step s = .next t → t.recordsDerived

/-- R140, R145: whatever command is taken, the viewer sets stay those of the open pages. -/
def Obligations.ViewerSetsFollowOpenPages : Prop :=
  ∀ s t : State, s.viewersFollowPages → step s = .next t → t.viewersFollowPages

/-- R1, R10, R18, R107, R115, R135, R153, R156, R165, R180, R181: whatever command is taken, the error words hold only
named conditions, a terminal is queued or pending once and the pending ones stand in ascending order, the tape queues
hold at most 256 entries, everything stays OFF in CONFIG, the timebase stays in its ranges, the symbol directory stays
in its order and agrees with the records, and the stored prices of every record that is not VACANT stay in their range
and on its grid. -/
def Obligations.EveryStepKeepsTheInvariants : Prop :=
  ∀ s t : State, s.wellKept → step s = .next t → t.wellKept

/-- R77, R80, R84, R87, R94: whatever command is taken, present panels stay apart, a VACANT cell holds the vacant
values and a BOUND one lies in a panel and within its module and shares no column with another, a binding list holds
the BOUND cells of its owner, once each and linked by their next fields, a cell's queued flag is set exactly where it
stands in the repaint queue of its link, once and paintable, and it stands in the highlight list, once, exactly where
its expiry is present. -/
def Obligations.BoardStaysInOrder : Prop :=
  ∀ s t : State, s.wellKept → s.boardKept → step s = .next t → t.boardKept

/-- The four invariants hold right after device reset. -/
def Obligations.ResetMeetsTheInvariants : Prop :=
  State.reset.recordsDerived ∧ State.reset.viewersFollowPages ∧ State.reset.wellKept ∧ State.reset.boardKept
end

