-- ==== Sys2Proof/Laws/State.lean ====
section
/-! SUPPORT. One lemma for each field of `State` that each update leaves as it is. -/

set_option Elab.async false
set_option linter.unusedSimpArgs false
set_option linter.unusedTactic false
set_option linter.unreachableTactic false

namespace Sys2Proof.Machine

@[simp] theorem State.setPort_pending (s : State) (p : PortId) (v : Port) : (s.setPort p v).pending = s.pending := rfl
@[simp] theorem State.setPort_inReset (s : State) (p : PortId) (v : Port) : (s.setPort p v).inReset = s.inReset := rfl
@[simp] theorem State.setPort_mode (s : State) (p : PortId) (v : Port) : (s.setPort p v).mode = s.mode := rfl
@[simp] theorem State.setPort_quote (s : State) (p : PortId) (v : Port) : (s.setPort p v).quote = s.quote := rfl
@[simp] theorem State.setPort_display (s : State) (p : PortId) (v : Port) : (s.setPort p v).display = s.display := rfl
@[simp] theorem State.setPort_tape (s : State) (p : PortId) (v : Port) : (s.setPort p v).tape = s.tape := rfl
@[simp] theorem State.setPort_pages (s : State) (p : PortId) (v : Port) : (s.setPort p v).pages = s.pages := rfl
@[simp] theorem State.setPort_notices (s : State) (p : PortId) (v : Port) : (s.setPort p v).notices = s.notices := rfl
@[simp] theorem State.setPort_timebase (s : State) (p : PortId) (v : Port) : (s.setPort p v).timebase = s.timebase := rfl
@[simp] theorem State.setPort_items (s : State) (p : PortId) (v : Port) : (s.setPort p v).items = s.items := rfl
@[simp] theorem State.setPort_transit (s : State) (p : PortId) (v : Port) : (s.setPort p v).transit = s.transit := rfl

@[simp] theorem State.setTextBuffer_pending (s : State) (b : Option AssembledText) : (s.setTextBuffer b).pending = s.pending := rfl
@[simp] theorem State.setTextBuffer_inReset (s : State) (b : Option AssembledText) : (s.setTextBuffer b).inReset = s.inReset := rfl
@[simp] theorem State.setTextBuffer_mode (s : State) (b : Option AssembledText) : (s.setTextBuffer b).mode = s.mode := rfl
@[simp] theorem State.setTextBuffer_quote (s : State) (b : Option AssembledText) : (s.setTextBuffer b).quote = s.quote := rfl
@[simp] theorem State.setTextBuffer_display (s : State) (b : Option AssembledText) : (s.setTextBuffer b).display = s.display := rfl
@[simp] theorem State.setTextBuffer_tape (s : State) (b : Option AssembledText) : (s.setTextBuffer b).tape = s.tape := rfl
@[simp] theorem State.setTextBuffer_pages (s : State) (b : Option AssembledText) : (s.setTextBuffer b).pages = s.pages := rfl
@[simp] theorem State.setTextBuffer_notices (s : State) (b : Option AssembledText) : (s.setTextBuffer b).notices = s.notices := rfl
@[simp] theorem State.setTextBuffer_timebase (s : State) (b : Option AssembledText) : (s.setTextBuffer b).timebase = s.timebase := rfl
@[simp] theorem State.setTextBuffer_items (s : State) (b : Option AssembledText) : (s.setTextBuffer b).items = s.items := rfl
@[simp] theorem State.setTextBuffer_transit (s : State) (b : Option AssembledText) : (s.setTextBuffer b).transit = s.transit := rfl

@[simp] theorem State.record_pending (s : State) (p : PortId) (c : Condition) : (s.record p c).pending = s.pending := rfl
@[simp] theorem State.record_inReset (s : State) (p : PortId) (c : Condition) : (s.record p c).inReset = s.inReset := rfl
@[simp] theorem State.record_mode (s : State) (p : PortId) (c : Condition) : (s.record p c).mode = s.mode := rfl
@[simp] theorem State.record_quote (s : State) (p : PortId) (c : Condition) : (s.record p c).quote = s.quote := rfl
@[simp] theorem State.record_display (s : State) (p : PortId) (c : Condition) : (s.record p c).display = s.display := rfl
@[simp] theorem State.record_tape (s : State) (p : PortId) (c : Condition) : (s.record p c).tape = s.tape := rfl
@[simp] theorem State.record_pages (s : State) (p : PortId) (c : Condition) : (s.record p c).pages = s.pages := rfl
@[simp] theorem State.record_notices (s : State) (p : PortId) (c : Condition) : (s.record p c).notices = s.notices := rfl
@[simp] theorem State.record_timebase (s : State) (p : PortId) (c : Condition) : (s.record p c).timebase = s.timebase := rfl
@[simp] theorem State.record_items (s : State) (p : PortId) (c : Condition) : (s.record p c).items = s.items := rfl
@[simp] theorem State.record_transit (s : State) (p : PortId) (c : Condition) : (s.record p c).transit = s.transit := rfl

@[simp] theorem State.recordSome_pending (s : State) (p : PortId) (c : Option Condition) : (s.recordSome p c).pending = s.pending := by cases c <;> rfl
@[simp] theorem State.recordSome_inReset (s : State) (p : PortId) (c : Option Condition) : (s.recordSome p c).inReset = s.inReset := by cases c <;> rfl
@[simp] theorem State.recordSome_mode (s : State) (p : PortId) (c : Option Condition) : (s.recordSome p c).mode = s.mode := by cases c <;> rfl
@[simp] theorem State.recordSome_quote (s : State) (p : PortId) (c : Option Condition) : (s.recordSome p c).quote = s.quote := by cases c <;> rfl
@[simp] theorem State.recordSome_display (s : State) (p : PortId) (c : Option Condition) : (s.recordSome p c).display = s.display := by cases c <;> rfl
@[simp] theorem State.recordSome_tape (s : State) (p : PortId) (c : Option Condition) : (s.recordSome p c).tape = s.tape := by cases c <;> rfl
@[simp] theorem State.recordSome_pages (s : State) (p : PortId) (c : Option Condition) : (s.recordSome p c).pages = s.pages := by cases c <;> rfl
@[simp] theorem State.recordSome_notices (s : State) (p : PortId) (c : Option Condition) : (s.recordSome p c).notices = s.notices := by cases c <;> rfl
@[simp] theorem State.recordSome_timebase (s : State) (p : PortId) (c : Option Condition) : (s.recordSome p c).timebase = s.timebase := by cases c <;> rfl
@[simp] theorem State.recordSome_items (s : State) (p : PortId) (c : Option Condition) : (s.recordSome p c).items = s.items := by cases c <;> rfl
@[simp] theorem State.recordSome_transit (s : State) (p : PortId) (c : Option Condition) : (s.recordSome p c).transit = s.transit := by cases c <;> rfl

@[simp] theorem State.recordMalformed_pending (s : State) (p : PortId) (a : Answer) : (s.recordMalformed p a).pending = s.pending := by unfold State.recordMalformed; split <;> rfl
@[simp] theorem State.recordMalformed_inReset (s : State) (p : PortId) (a : Answer) : (s.recordMalformed p a).inReset = s.inReset := by unfold State.recordMalformed; split <;> rfl
@[simp] theorem State.recordMalformed_mode (s : State) (p : PortId) (a : Answer) : (s.recordMalformed p a).mode = s.mode := by unfold State.recordMalformed; split <;> rfl
@[simp] theorem State.recordMalformed_quote (s : State) (p : PortId) (a : Answer) : (s.recordMalformed p a).quote = s.quote := by unfold State.recordMalformed; split <;> rfl
@[simp] theorem State.recordMalformed_display (s : State) (p : PortId) (a : Answer) : (s.recordMalformed p a).display = s.display := by unfold State.recordMalformed; split <;> rfl
@[simp] theorem State.recordMalformed_tape (s : State) (p : PortId) (a : Answer) : (s.recordMalformed p a).tape = s.tape := by unfold State.recordMalformed; split <;> rfl
@[simp] theorem State.recordMalformed_pages (s : State) (p : PortId) (a : Answer) : (s.recordMalformed p a).pages = s.pages := by unfold State.recordMalformed; split <;> rfl
@[simp] theorem State.recordMalformed_notices (s : State) (p : PortId) (a : Answer) : (s.recordMalformed p a).notices = s.notices := by unfold State.recordMalformed; split <;> rfl
@[simp] theorem State.recordMalformed_timebase (s : State) (p : PortId) (a : Answer) : (s.recordMalformed p a).timebase = s.timebase := by unfold State.recordMalformed; split <;> rfl
@[simp] theorem State.recordMalformed_items (s : State) (p : PortId) (a : Answer) : (s.recordMalformed p a).items = s.items := by unfold State.recordMalformed; split <;> rfl
@[simp] theorem State.recordMalformed_transit (s : State) (p : PortId) (a : Answer) : (s.recordMalformed p a).transit = s.transit := by unfold State.recordMalformed; split <;> rfl

@[simp] theorem State.setPortState_pending (s : State) (p : PortId) (x : PortState) : (s.setPortState p x).pending = s.pending := rfl
@[simp] theorem State.setPortState_inReset (s : State) (p : PortId) (x : PortState) : (s.setPortState p x).inReset = s.inReset := rfl
@[simp] theorem State.setPortState_mode (s : State) (p : PortId) (x : PortState) : (s.setPortState p x).mode = s.mode := rfl
@[simp] theorem State.setPortState_quote (s : State) (p : PortId) (x : PortState) : (s.setPortState p x).quote = s.quote := rfl
@[simp] theorem State.setPortState_display (s : State) (p : PortId) (x : PortState) : (s.setPortState p x).display = s.display := rfl
@[simp] theorem State.setPortState_tape (s : State) (p : PortId) (x : PortState) : (s.setPortState p x).tape = s.tape := rfl
@[simp] theorem State.setPortState_pages (s : State) (p : PortId) (x : PortState) : (s.setPortState p x).pages = s.pages := rfl
@[simp] theorem State.setPortState_notices (s : State) (p : PortId) (x : PortState) : (s.setPortState p x).notices = s.notices := rfl
@[simp] theorem State.setPortState_timebase (s : State) (p : PortId) (x : PortState) : (s.setPortState p x).timebase = s.timebase := rfl
@[simp] theorem State.setPortState_items (s : State) (p : PortId) (x : PortState) : (s.setPortState p x).items = s.items := rfl
@[simp] theorem State.setPortState_transit (s : State) (p : PortId) (x : PortState) : (s.setPortState p x).transit = s.transit := rfl

@[simp] theorem State.setInstr_pending (s : State) (i : Nat) (v : Instrument) : (s.setInstr i v).pending = s.pending := rfl
@[simp] theorem State.setInstr_inReset (s : State) (i : Nat) (v : Instrument) : (s.setInstr i v).inReset = s.inReset := rfl
@[simp] theorem State.setInstr_mode (s : State) (i : Nat) (v : Instrument) : (s.setInstr i v).mode = s.mode := rfl
@[simp] theorem State.setInstr_ports (s : State) (i : Nat) (v : Instrument) : (s.setInstr i v).ports = s.ports := rfl
@[simp] theorem State.setInstr_display (s : State) (i : Nat) (v : Instrument) : (s.setInstr i v).display = s.display := rfl
@[simp] theorem State.setInstr_tape (s : State) (i : Nat) (v : Instrument) : (s.setInstr i v).tape = s.tape := rfl
@[simp] theorem State.setInstr_pages (s : State) (i : Nat) (v : Instrument) : (s.setInstr i v).pages = s.pages := rfl
@[simp] theorem State.setInstr_notices (s : State) (i : Nat) (v : Instrument) : (s.setInstr i v).notices = s.notices := rfl
@[simp] theorem State.setInstr_timebase (s : State) (i : Nat) (v : Instrument) : (s.setInstr i v).timebase = s.timebase := rfl
@[simp] theorem State.setInstr_items (s : State) (i : Nat) (v : Instrument) : (s.setInstr i v).items = s.items := rfl
@[simp] theorem State.setInstr_transit (s : State) (i : Nat) (v : Instrument) : (s.setInstr i v).transit = s.transit := rfl

@[simp] theorem State.setDirectory_pending (s : State) (d : List DirEntry) : (s.setDirectory d).pending = s.pending := rfl
@[simp] theorem State.setDirectory_inReset (s : State) (d : List DirEntry) : (s.setDirectory d).inReset = s.inReset := rfl
@[simp] theorem State.setDirectory_mode (s : State) (d : List DirEntry) : (s.setDirectory d).mode = s.mode := rfl
@[simp] theorem State.setDirectory_ports (s : State) (d : List DirEntry) : (s.setDirectory d).ports = s.ports := rfl
@[simp] theorem State.setDirectory_display (s : State) (d : List DirEntry) : (s.setDirectory d).display = s.display := rfl
@[simp] theorem State.setDirectory_tape (s : State) (d : List DirEntry) : (s.setDirectory d).tape = s.tape := rfl
@[simp] theorem State.setDirectory_pages (s : State) (d : List DirEntry) : (s.setDirectory d).pages = s.pages := rfl
@[simp] theorem State.setDirectory_notices (s : State) (d : List DirEntry) : (s.setDirectory d).notices = s.notices := rfl
@[simp] theorem State.setDirectory_timebase (s : State) (d : List DirEntry) : (s.setDirectory d).timebase = s.timebase := rfl
@[simp] theorem State.setDirectory_items (s : State) (d : List DirEntry) : (s.setDirectory d).items = s.items := rfl
@[simp] theorem State.setDirectory_transit (s : State) (d : List DirEntry) : (s.setDirectory d).transit = s.transit := rfl

@[simp] theorem State.setExpectation_pending (s : State) (e : Option Nat) : (s.setExpectation e).pending = s.pending := rfl
@[simp] theorem State.setExpectation_inReset (s : State) (e : Option Nat) : (s.setExpectation e).inReset = s.inReset := rfl
@[simp] theorem State.setExpectation_mode (s : State) (e : Option Nat) : (s.setExpectation e).mode = s.mode := rfl
@[simp] theorem State.setExpectation_ports (s : State) (e : Option Nat) : (s.setExpectation e).ports = s.ports := rfl
@[simp] theorem State.setExpectation_display (s : State) (e : Option Nat) : (s.setExpectation e).display = s.display := rfl
@[simp] theorem State.setExpectation_tape (s : State) (e : Option Nat) : (s.setExpectation e).tape = s.tape := rfl
@[simp] theorem State.setExpectation_pages (s : State) (e : Option Nat) : (s.setExpectation e).pages = s.pages := rfl
@[simp] theorem State.setExpectation_notices (s : State) (e : Option Nat) : (s.setExpectation e).notices = s.notices := rfl
@[simp] theorem State.setExpectation_timebase (s : State) (e : Option Nat) : (s.setExpectation e).timebase = s.timebase := rfl
@[simp] theorem State.setExpectation_items (s : State) (e : Option Nat) : (s.setExpectation e).items = s.items := rfl
@[simp] theorem State.setExpectation_transit (s : State) (e : Option Nat) : (s.setExpectation e).transit = s.transit := rfl

@[simp] theorem State.setRolling_pending (s : State) (l : List Nat) : (s.setRolling l).pending = s.pending := rfl
@[simp] theorem State.setRolling_inReset (s : State) (l : List Nat) : (s.setRolling l).inReset = s.inReset := rfl
@[simp] theorem State.setRolling_mode (s : State) (l : List Nat) : (s.setRolling l).mode = s.mode := rfl
@[simp] theorem State.setRolling_ports (s : State) (l : List Nat) : (s.setRolling l).ports = s.ports := rfl
@[simp] theorem State.setRolling_display (s : State) (l : List Nat) : (s.setRolling l).display = s.display := rfl
@[simp] theorem State.setRolling_tape (s : State) (l : List Nat) : (s.setRolling l).tape = s.tape := rfl
@[simp] theorem State.setRolling_pages (s : State) (l : List Nat) : (s.setRolling l).pages = s.pages := rfl
@[simp] theorem State.setRolling_notices (s : State) (l : List Nat) : (s.setRolling l).notices = s.notices := rfl
@[simp] theorem State.setRolling_timebase (s : State) (l : List Nat) : (s.setRolling l).timebase = s.timebase := rfl
@[simp] theorem State.setRolling_items (s : State) (l : List Nat) : (s.setRolling l).items = s.items := rfl
@[simp] theorem State.setRolling_transit (s : State) (l : List Nat) : (s.setRolling l).transit = s.transit := rfl

@[simp] theorem State.setRibbon_pending (s : State) (r : Nat) (v : Ribbon) : (s.setRibbon r v).pending = s.pending := rfl
@[simp] theorem State.setRibbon_inReset (s : State) (r : Nat) (v : Ribbon) : (s.setRibbon r v).inReset = s.inReset := rfl
@[simp] theorem State.setRibbon_mode (s : State) (r : Nat) (v : Ribbon) : (s.setRibbon r v).mode = s.mode := rfl
@[simp] theorem State.setRibbon_ports (s : State) (r : Nat) (v : Ribbon) : (s.setRibbon r v).ports = s.ports := rfl
@[simp] theorem State.setRibbon_quote (s : State) (r : Nat) (v : Ribbon) : (s.setRibbon r v).quote = s.quote := rfl
@[simp] theorem State.setRibbon_display (s : State) (r : Nat) (v : Ribbon) : (s.setRibbon r v).display = s.display := rfl
@[simp] theorem State.setRibbon_pages (s : State) (r : Nat) (v : Ribbon) : (s.setRibbon r v).pages = s.pages := rfl
@[simp] theorem State.setRibbon_notices (s : State) (r : Nat) (v : Ribbon) : (s.setRibbon r v).notices = s.notices := rfl
@[simp] theorem State.setRibbon_timebase (s : State) (r : Nat) (v : Ribbon) : (s.setRibbon r v).timebase = s.timebase := rfl
@[simp] theorem State.setRibbon_items (s : State) (r : Nat) (v : Ribbon) : (s.setRibbon r v).items = s.items := rfl
@[simp] theorem State.setRibbon_transit (s : State) (r : Nat) (v : Ribbon) : (s.setRibbon r v).transit = s.transit := rfl

@[simp] theorem State.handOn_pending (s : State) (i : Nat) (fs : List Field) (e : Bool) : (s.handOn i fs e).pending = s.pending := rfl
@[simp] theorem State.handOn_inReset (s : State) (i : Nat) (fs : List Field) (e : Bool) : (s.handOn i fs e).inReset = s.inReset := rfl
@[simp] theorem State.handOn_mode (s : State) (i : Nat) (fs : List Field) (e : Bool) : (s.handOn i fs e).mode = s.mode := rfl
@[simp] theorem State.handOn_ports (s : State) (i : Nat) (fs : List Field) (e : Bool) : (s.handOn i fs e).ports = s.ports := rfl
@[simp] theorem State.handOn_quote (s : State) (i : Nat) (fs : List Field) (e : Bool) : (s.handOn i fs e).quote = s.quote := rfl
@[simp] theorem State.handOn_display (s : State) (i : Nat) (fs : List Field) (e : Bool) : (s.handOn i fs e).display = s.display := rfl
@[simp] theorem State.handOn_tape (s : State) (i : Nat) (fs : List Field) (e : Bool) : (s.handOn i fs e).tape = s.tape := rfl
@[simp] theorem State.handOn_pages (s : State) (i : Nat) (fs : List Field) (e : Bool) : (s.handOn i fs e).pages = s.pages := rfl
@[simp] theorem State.handOn_notices (s : State) (i : Nat) (fs : List Field) (e : Bool) : (s.handOn i fs e).notices = s.notices := rfl
@[simp] theorem State.handOn_timebase (s : State) (i : Nat) (fs : List Field) (e : Bool) : (s.handOn i fs e).timebase = s.timebase := rfl
@[simp] theorem State.handOn_items (s : State) (i : Nat) (fs : List Field) (e : Bool) : (s.handOn i fs e).items = s.items := rfl

@[simp] theorem State.tell_pending (s : State) (ts : List Nat) : (s.tell ts).pending = s.pending := rfl
@[simp] theorem State.tell_inReset (s : State) (ts : List Nat) : (s.tell ts).inReset = s.inReset := rfl
@[simp] theorem State.tell_mode (s : State) (ts : List Nat) : (s.tell ts).mode = s.mode := rfl
@[simp] theorem State.tell_ports (s : State) (ts : List Nat) : (s.tell ts).ports = s.ports := rfl
@[simp] theorem State.tell_quote (s : State) (ts : List Nat) : (s.tell ts).quote = s.quote := rfl
@[simp] theorem State.tell_display (s : State) (ts : List Nat) : (s.tell ts).display = s.display := rfl
@[simp] theorem State.tell_tape (s : State) (ts : List Nat) : (s.tell ts).tape = s.tape := rfl
@[simp] theorem State.tell_pages (s : State) (ts : List Nat) : (s.tell ts).pages = s.pages := rfl
@[simp] theorem State.tell_notices (s : State) (ts : List Nat) : (s.tell ts).notices = s.notices := rfl
@[simp] theorem State.tell_timebase (s : State) (ts : List Nat) : (s.tell ts).timebase = s.timebase := rfl
@[simp] theorem State.tell_items (s : State) (ts : List Nat) : (s.tell ts).items = s.items := rfl

@[simp] theorem State.change_pending (s : State) (i : Nat) (v : Instrument) (e : Bool) : (s.change i v e).pending = s.pending := rfl
@[simp] theorem State.change_inReset (s : State) (i : Nat) (v : Instrument) (e : Bool) : (s.change i v e).inReset = s.inReset := rfl
@[simp] theorem State.change_mode (s : State) (i : Nat) (v : Instrument) (e : Bool) : (s.change i v e).mode = s.mode := rfl
@[simp] theorem State.change_ports (s : State) (i : Nat) (v : Instrument) (e : Bool) : (s.change i v e).ports = s.ports := rfl
@[simp] theorem State.change_display (s : State) (i : Nat) (v : Instrument) (e : Bool) : (s.change i v e).display = s.display := rfl
@[simp] theorem State.change_tape (s : State) (i : Nat) (v : Instrument) (e : Bool) : (s.change i v e).tape = s.tape := rfl
@[simp] theorem State.change_pages (s : State) (i : Nat) (v : Instrument) (e : Bool) : (s.change i v e).pages = s.pages := rfl
@[simp] theorem State.change_notices (s : State) (i : Nat) (v : Instrument) (e : Bool) : (s.change i v e).notices = s.notices := rfl
@[simp] theorem State.change_timebase (s : State) (i : Nat) (v : Instrument) (e : Bool) : (s.change i v e).timebase = s.timebase := rfl
@[simp] theorem State.change_items (s : State) (i : Nat) (v : Instrument) (e : Bool) : (s.change i v e).items = s.items := rfl

@[simp] theorem State.depart_pending (s : State) (i : Nat) (p : Option Print) : (s.depart i p).pending = s.pending := by cases p <;> rfl
@[simp] theorem State.depart_inReset (s : State) (i : Nat) (p : Option Print) : (s.depart i p).inReset = s.inReset := by cases p <;> rfl
@[simp] theorem State.depart_mode (s : State) (i : Nat) (p : Option Print) : (s.depart i p).mode = s.mode := by cases p <;> rfl
@[simp] theorem State.depart_ports (s : State) (i : Nat) (p : Option Print) : (s.depart i p).ports = s.ports := by cases p <;> rfl
@[simp] theorem State.depart_quote (s : State) (i : Nat) (p : Option Print) : (s.depart i p).quote = s.quote := by cases p <;> rfl
@[simp] theorem State.depart_display (s : State) (i : Nat) (p : Option Print) : (s.depart i p).display = s.display := by cases p <;> rfl
@[simp] theorem State.depart_tape (s : State) (i : Nat) (p : Option Print) : (s.depart i p).tape = s.tape := by cases p <;> rfl
@[simp] theorem State.depart_pages (s : State) (i : Nat) (p : Option Print) : (s.depart i p).pages = s.pages := by cases p <;> rfl
@[simp] theorem State.depart_notices (s : State) (i : Nat) (p : Option Print) : (s.depart i p).notices = s.notices := by cases p <;> rfl
@[simp] theorem State.depart_timebase (s : State) (i : Nat) (p : Option Print) : (s.depart i p).timebase = s.timebase := by cases p <;> rfl
@[simp] theorem State.depart_items (s : State) (i : Nat) (p : Option Print) : (s.depart i p).items = s.items := by cases p <;> rfl

@[simp] theorem State.entryStart_pending (s : State) (r : Nat) (e : TapeEntry) (q : List TapeEntry) : (s.entryStart r e q).pending = s.pending := rfl
@[simp] theorem State.entryStart_inReset (s : State) (r : Nat) (e : TapeEntry) (q : List TapeEntry) : (s.entryStart r e q).inReset = s.inReset := rfl
@[simp] theorem State.entryStart_mode (s : State) (r : Nat) (e : TapeEntry) (q : List TapeEntry) : (s.entryStart r e q).mode = s.mode := rfl
@[simp] theorem State.entryStart_ports (s : State) (r : Nat) (e : TapeEntry) (q : List TapeEntry) : (s.entryStart r e q).ports = s.ports := rfl
@[simp] theorem State.entryStart_display (s : State) (r : Nat) (e : TapeEntry) (q : List TapeEntry) : (s.entryStart r e q).display = s.display := rfl
@[simp] theorem State.entryStart_pages (s : State) (r : Nat) (e : TapeEntry) (q : List TapeEntry) : (s.entryStart r e q).pages = s.pages := rfl
@[simp] theorem State.entryStart_notices (s : State) (r : Nat) (e : TapeEntry) (q : List TapeEntry) : (s.entryStart r e q).notices = s.notices := rfl
@[simp] theorem State.entryStart_timebase (s : State) (r : Nat) (e : TapeEntry) (q : List TapeEntry) : (s.entryStart r e q).timebase = s.timebase := rfl
@[simp] theorem State.entryStart_items (s : State) (r : Nat) (e : TapeEntry) (q : List TapeEntry) : (s.entryStart r e q).items = s.items := rfl

@[simp] theorem State.freed_pending (s : State) (r : Nat) : (s.freed r).pending = s.pending := by unfold State.freed; dsimp only; split <;> rfl
@[simp] theorem State.freed_inReset (s : State) (r : Nat) : (s.freed r).inReset = s.inReset := by unfold State.freed; dsimp only; split <;> rfl
@[simp] theorem State.freed_mode (s : State) (r : Nat) : (s.freed r).mode = s.mode := by unfold State.freed; dsimp only; split <;> rfl
@[simp] theorem State.freed_ports (s : State) (r : Nat) : (s.freed r).ports = s.ports := by unfold State.freed; dsimp only; split <;> rfl
@[simp] theorem State.freed_display (s : State) (r : Nat) : (s.freed r).display = s.display := by unfold State.freed; dsimp only; split <;> rfl
@[simp] theorem State.freed_pages (s : State) (r : Nat) : (s.freed r).pages = s.pages := by unfold State.freed; dsimp only; split <;> rfl
@[simp] theorem State.freed_notices (s : State) (r : Nat) : (s.freed r).notices = s.notices := by unfold State.freed; dsimp only; split <;> rfl
@[simp] theorem State.freed_timebase (s : State) (r : Nat) : (s.freed r).timebase = s.timebase := by unfold State.freed; dsimp only; split <;> rfl
@[simp] theorem State.freed_items (s : State) (r : Nat) : (s.freed r).items = s.items := by unfold State.freed; dsimp only; split <;> rfl

@[simp] theorem State.appendEntry_pending (s : State) (r : Nat) (e : TapeEntry) : (s.appendEntry r e).pending = s.pending := by
  unfold State.appendEntry; dsimp only; split <;> first | rfl | (split <;> simp)
@[simp] theorem State.appendEntry_inReset (s : State) (r : Nat) (e : TapeEntry) : (s.appendEntry r e).inReset = s.inReset := by
  unfold State.appendEntry; dsimp only; split <;> first | rfl | (split <;> simp)
@[simp] theorem State.appendEntry_mode (s : State) (r : Nat) (e : TapeEntry) : (s.appendEntry r e).mode = s.mode := by
  unfold State.appendEntry; dsimp only; split <;> first | rfl | (split <;> simp)
@[simp] theorem State.appendEntry_ports (s : State) (r : Nat) (e : TapeEntry) : (s.appendEntry r e).ports = s.ports := by
  unfold State.appendEntry; dsimp only; split <;> first | rfl | (split <;> simp)
@[simp] theorem State.appendEntry_display (s : State) (r : Nat) (e : TapeEntry) : (s.appendEntry r e).display = s.display := by
  unfold State.appendEntry; dsimp only; split <;> first | rfl | (split <;> simp)
@[simp] theorem State.appendEntry_pages (s : State) (r : Nat) (e : TapeEntry) : (s.appendEntry r e).pages = s.pages := by
  unfold State.appendEntry; dsimp only; split <;> first | rfl | (split <;> simp)
@[simp] theorem State.appendEntry_notices (s : State) (r : Nat) (e : TapeEntry) : (s.appendEntry r e).notices = s.notices := by
  unfold State.appendEntry; dsimp only; split <;> first | rfl | (split <;> simp)
@[simp] theorem State.appendEntry_timebase (s : State) (r : Nat) (e : TapeEntry) : (s.appendEntry r e).timebase = s.timebase := by
  unfold State.appendEntry; dsimp only; split <;> first | rfl | (split <;> simp)
@[simp] theorem State.appendEntry_items (s : State) (r : Nat) (e : TapeEntry) : (s.appendEntry r e).items = s.items := by
  unfold State.appendEntry; dsimp only; split <;> first | rfl | (split <;> simp)

@[simp] theorem State.withdraw_pending (s : State) (r i n : Nat) : (s.withdraw r i n).pending = s.pending := rfl
@[simp] theorem State.withdraw_inReset (s : State) (r i n : Nat) : (s.withdraw r i n).inReset = s.inReset := rfl
@[simp] theorem State.withdraw_mode (s : State) (r i n : Nat) : (s.withdraw r i n).mode = s.mode := rfl
@[simp] theorem State.withdraw_ports (s : State) (r i n : Nat) : (s.withdraw r i n).ports = s.ports := rfl
@[simp] theorem State.withdraw_quote (s : State) (r i n : Nat) : (s.withdraw r i n).quote = s.quote := rfl
@[simp] theorem State.withdraw_display (s : State) (r i n : Nat) : (s.withdraw r i n).display = s.display := rfl
@[simp] theorem State.withdraw_pages (s : State) (r i n : Nat) : (s.withdraw r i n).pages = s.pages := rfl
@[simp] theorem State.withdraw_notices (s : State) (r i n : Nat) : (s.withdraw r i n).notices = s.notices := rfl
@[simp] theorem State.withdraw_timebase (s : State) (r i n : Nat) : (s.withdraw r i n).timebase = s.timebase := rfl
@[simp] theorem State.withdraw_items (s : State) (r i n : Nat) : (s.withdraw r i n).items = s.items := rfl
@[simp] theorem State.withdraw_transit (s : State) (r i n : Nat) : (s.withdraw r i n).transit = s.transit := rfl

/-- What `handoffsFirst` leaves: the state, or the state with every handoff at the board engine taken. -/
theorem State.handoffsFirst_cases (ls : List Nat) (s : State) :
    s.overtakes ls = false ∧ s.handoffsFirst ls = s ∨ s.overtakes ls = true ∧ s.handoffsFirst ls = s.boardCaughtUp := by
  unfold State.handoffsFirst
  cases s.overtakes ls
  · exact .inl ⟨rfl, rfl⟩
  · exact .inr ⟨rfl, rfl⟩
/-- Taking the handoffs first touches no list on its way but the handoffs to the board engine. -/
theorem State.handoffsFirst_transit (ls : List Nat) (s : State) :
    (s.handoffsFirst ls).transit = { s.transit with boardChanges := (s.handoffsFirst ls).transit.boardChanges } := by
  obtain ⟨-, h⟩ | ⟨-, h⟩ := s.handoffsFirst_cases ls
  · rw [h]
  · rw [h]
    rfl
/-- With no handoff on its way, no link overtakes one. -/
theorem State.overtakes_of_none {s : State} (h : s.transit.boardChanges = []) (ls : List Nat) :
    s.overtakes ls = false := by
  have : s.outstanding = fun _ => false := by
    funext c
    simp [State.outstanding, h]
  simp [State.overtakes, this]
theorem Display.woken_self (d : Display) : d.woken d = [] := by simp [Display.woken]
theorem Display.wake_self (render : Renderer) (now : Time) (probe : Nat) (d : Display) :
    Display.wake render now probe d d = d := by simp [Display.wake]
/-- An action of the board engine that changes nothing brings nothing. -/
theorem State.onBoard_same {s : State} {f : Display → Display} (h : f s.display = s.display) : s.onBoard f = s := by
  have e : s.handoffsFirst [] = s := by
    obtain ⟨-, e⟩ | ⟨e, -⟩ := s.handoffsFirst_cases []
    · exact e
    · cases e
  simp only [State.onBoard, h, Display.woken_self, e, Display.wake_self]
theorem State.onBoard_transit (s : State) (f : Display → Display) :
    (s.onBoard f).transit = { s.transit with boardChanges := (s.onBoard f).transit.boardChanges } :=
  State.handoffsFirst_transit _ { s with display := f s.display }
theorem State.onLink_transit (s : State) (l : Nat) (f : Display → Display) :
    (s.onLink l f).transit = { s.transit with boardChanges := (s.onLink l f).transit.boardChanges } :=
  State.handoffsFirst_transit _ { s with display := f s.display }

@[simp] theorem State.onBoard_pending (s : State) (f : Display → Display) : (s.onBoard f).pending = s.pending := rfl
@[simp] theorem State.onBoard_inReset (s : State) (f : Display → Display) : (s.onBoard f).inReset = s.inReset := rfl
@[simp] theorem State.onBoard_mode (s : State) (f : Display → Display) : (s.onBoard f).mode = s.mode := rfl
@[simp] theorem State.onBoard_ports (s : State) (f : Display → Display) : (s.onBoard f).ports = s.ports := rfl
@[simp] theorem State.onBoard_quote (s : State) (f : Display → Display) : (s.onBoard f).quote = s.quote := rfl
@[simp] theorem State.onBoard_tape (s : State) (f : Display → Display) : (s.onBoard f).tape = s.tape := rfl
@[simp] theorem State.onBoard_pages (s : State) (f : Display → Display) : (s.onBoard f).pages = s.pages := rfl
@[simp] theorem State.onBoard_notices (s : State) (f : Display → Display) : (s.onBoard f).notices = s.notices := rfl
@[simp] theorem State.onBoard_timebase (s : State) (f : Display → Display) : (s.onBoard f).timebase = s.timebase := rfl
@[simp] theorem State.onBoard_items (s : State) (f : Display → Display) : (s.onBoard f).items = s.items := rfl

@[simp] theorem State.onLink_pending (s : State) (l : Nat) (f : Display → Display) : (s.onLink l f).pending = s.pending := rfl
@[simp] theorem State.onLink_inReset (s : State) (l : Nat) (f : Display → Display) : (s.onLink l f).inReset = s.inReset := rfl
@[simp] theorem State.onLink_mode (s : State) (l : Nat) (f : Display → Display) : (s.onLink l f).mode = s.mode := rfl
@[simp] theorem State.onLink_ports (s : State) (l : Nat) (f : Display → Display) : (s.onLink l f).ports = s.ports := rfl
@[simp] theorem State.onLink_quote (s : State) (l : Nat) (f : Display → Display) : (s.onLink l f).quote = s.quote := rfl
@[simp] theorem State.onLink_tape (s : State) (l : Nat) (f : Display → Display) : (s.onLink l f).tape = s.tape := rfl
@[simp] theorem State.onLink_pages (s : State) (l : Nat) (f : Display → Display) : (s.onLink l f).pages = s.pages := rfl
@[simp] theorem State.onLink_notices (s : State) (l : Nat) (f : Display → Display) : (s.onLink l f).notices = s.notices := rfl
@[simp] theorem State.onLink_timebase (s : State) (l : Nat) (f : Display → Display) : (s.onLink l f).timebase = s.timebase := rfl
@[simp] theorem State.onLink_items (s : State) (l : Nat) (f : Display → Display) : (s.onLink l f).items = s.items := rfl

@[simp] theorem State.setLine_pending (s : State) (n : Nat) (c : Option LineContent) : (s.setLine n c).pending = s.pending := rfl
@[simp] theorem State.setLine_inReset (s : State) (n : Nat) (c : Option LineContent) : (s.setLine n c).inReset = s.inReset := rfl
@[simp] theorem State.setLine_mode (s : State) (n : Nat) (c : Option LineContent) : (s.setLine n c).mode = s.mode := rfl
@[simp] theorem State.setLine_ports (s : State) (n : Nat) (c : Option LineContent) : (s.setLine n c).ports = s.ports := rfl
@[simp] theorem State.setLine_quote (s : State) (n : Nat) (c : Option LineContent) : (s.setLine n c).quote = s.quote := rfl
@[simp] theorem State.setLine_display (s : State) (n : Nat) (c : Option LineContent) : (s.setLine n c).display = s.display := rfl
@[simp] theorem State.setLine_tape (s : State) (n : Nat) (c : Option LineContent) : (s.setLine n c).tape = s.tape := rfl
@[simp] theorem State.setLine_notices (s : State) (n : Nat) (c : Option LineContent) : (s.setLine n c).notices = s.notices := rfl
@[simp] theorem State.setLine_timebase (s : State) (n : Nat) (c : Option LineContent) : (s.setLine n c).timebase = s.timebase := rfl
@[simp] theorem State.setLine_items (s : State) (n : Nat) (c : Option LineContent) : (s.setLine n c).items = s.items := rfl
@[simp] theorem State.setLine_transit (s : State) (n : Nat) (c : Option LineContent) : (s.setLine n c).transit = s.transit := rfl

@[simp] theorem State.setContext_pending (s : State) (t : Nat) (c : Context) : (s.setContext t c).pending = s.pending := rfl
@[simp] theorem State.setContext_inReset (s : State) (t : Nat) (c : Context) : (s.setContext t c).inReset = s.inReset := rfl
@[simp] theorem State.setContext_mode (s : State) (t : Nat) (c : Context) : (s.setContext t c).mode = s.mode := rfl
@[simp] theorem State.setContext_ports (s : State) (t : Nat) (c : Context) : (s.setContext t c).ports = s.ports := rfl
@[simp] theorem State.setContext_quote (s : State) (t : Nat) (c : Context) : (s.setContext t c).quote = s.quote := rfl
@[simp] theorem State.setContext_display (s : State) (t : Nat) (c : Context) : (s.setContext t c).display = s.display := rfl
@[simp] theorem State.setContext_tape (s : State) (t : Nat) (c : Context) : (s.setContext t c).tape = s.tape := rfl
@[simp] theorem State.setContext_notices (s : State) (t : Nat) (c : Context) : (s.setContext t c).notices = s.notices := rfl
@[simp] theorem State.setContext_timebase (s : State) (t : Nat) (c : Context) : (s.setContext t c).timebase = s.timebase := rfl
@[simp] theorem State.setContext_items (s : State) (t : Nat) (c : Context) : (s.setContext t c).items = s.items := rfl
@[simp] theorem State.setContext_transit (s : State) (t : Nat) (c : Context) : (s.setContext t c).transit = s.transit := rfl

@[simp] theorem State.setBindingHead_pending (s : State) (f : CellField) (h : Option Nat) : (s.setBindingHead f h).pending = s.pending := by cases f <;> rfl
@[simp] theorem State.setBindingHead_inReset (s : State) (f : CellField) (h : Option Nat) : (s.setBindingHead f h).inReset = s.inReset := by cases f <;> rfl
@[simp] theorem State.setBindingHead_mode (s : State) (f : CellField) (h : Option Nat) : (s.setBindingHead f h).mode = s.mode := by cases f <;> rfl
@[simp] theorem State.setBindingHead_ports (s : State) (f : CellField) (h : Option Nat) : (s.setBindingHead f h).ports = s.ports := by cases f <;> rfl
@[simp] theorem State.setBindingHead_tape (s : State) (f : CellField) (h : Option Nat) : (s.setBindingHead f h).tape = s.tape := by cases f <;> rfl
@[simp] theorem State.setBindingHead_pages (s : State) (f : CellField) (h : Option Nat) : (s.setBindingHead f h).pages = s.pages := by cases f <;> rfl
@[simp] theorem State.setBindingHead_notices (s : State) (f : CellField) (h : Option Nat) : (s.setBindingHead f h).notices = s.notices := by cases f <;> rfl
@[simp] theorem State.setBindingHead_timebase (s : State) (f : CellField) (h : Option Nat) : (s.setBindingHead f h).timebase = s.timebase := by cases f <;> rfl
@[simp] theorem State.setBindingHead_items (s : State) (f : CellField) (h : Option Nat) : (s.setBindingHead f h).items = s.items := by cases f <;> rfl
@[simp] theorem State.setBindingHead_transit (s : State) (f : CellField) (h : Option Nat) : (s.setBindingHead f h).transit = s.transit := by cases f <;> rfl

@[simp] theorem State.setNotices_pending (s : State) (n : Notices) : (s.setNotices n).pending = s.pending := rfl
@[simp] theorem State.setNotices_inReset (s : State) (n : Notices) : (s.setNotices n).inReset = s.inReset := rfl
@[simp] theorem State.setNotices_mode (s : State) (n : Notices) : (s.setNotices n).mode = s.mode := rfl
@[simp] theorem State.setNotices_ports (s : State) (n : Notices) : (s.setNotices n).ports = s.ports := rfl
@[simp] theorem State.setNotices_quote (s : State) (n : Notices) : (s.setNotices n).quote = s.quote := rfl
@[simp] theorem State.setNotices_display (s : State) (n : Notices) : (s.setNotices n).display = s.display := rfl
@[simp] theorem State.setNotices_tape (s : State) (n : Notices) : (s.setNotices n).tape = s.tape := rfl
@[simp] theorem State.setNotices_pages (s : State) (n : Notices) : (s.setNotices n).pages = s.pages := rfl
@[simp] theorem State.setNotices_timebase (s : State) (n : Notices) : (s.setNotices n).timebase = s.timebase := rfl
@[simp] theorem State.setNotices_items (s : State) (n : Notices) : (s.setNotices n).items = s.items := rfl
@[simp] theorem State.setNotices_transit (s : State) (n : Notices) : (s.setNotices n).transit = s.transit := rfl

@[simp] theorem State.configure_pending (s : State) (i : Item) (ops : List Word) : (s.configure i ops).pending = s.pending := rfl
@[simp] theorem State.configure_inReset (s : State) (i : Item) (ops : List Word) : (s.configure i ops).inReset = s.inReset := rfl
@[simp] theorem State.configure_mode (s : State) (i : Item) (ops : List Word) : (s.configure i ops).mode = s.mode := rfl
@[simp] theorem State.configure_ports (s : State) (i : Item) (ops : List Word) : (s.configure i ops).ports = s.ports := rfl
@[simp] theorem State.configure_quote (s : State) (i : Item) (ops : List Word) : (s.configure i ops).quote = s.quote := rfl
@[simp] theorem State.configure_pages (s : State) (i : Item) (ops : List Word) : (s.configure i ops).pages = s.pages := rfl
@[simp] theorem State.configure_notices (s : State) (i : Item) (ops : List Word) : (s.configure i ops).notices = s.notices := rfl
@[simp] theorem State.configure_timebase (s : State) (i : Item) (ops : List Word) : (s.configure i ops).timebase = s.timebase := rfl
@[simp] theorem State.configure_transit (s : State) (i : Item) (ops : List Word) : (s.configure i ops).transit = s.transit := rfl

@[simp] theorem State.goLive_pending (s : State) : (s.goLive).pending = s.pending := rfl
@[simp] theorem State.goLive_inReset (s : State) : (s.goLive).inReset = s.inReset := rfl
@[simp] theorem State.goLive_ports (s : State) : (s.goLive).ports = s.ports := rfl
@[simp] theorem State.goLive_quote (s : State) : (s.goLive).quote = s.quote := rfl
@[simp] theorem State.goLive_pages (s : State) : (s.goLive).pages = s.pages := rfl
@[simp] theorem State.goLive_notices (s : State) : (s.goLive).notices = s.notices := rfl
@[simp] theorem State.goLive_timebase (s : State) : (s.goLive).timebase = s.timebase := rfl
@[simp] theorem State.goLive_items (s : State) : (s.goLive).items = s.items := rfl
@[simp] theorem State.goLive_transit (s : State) : (s.goLive).transit = s.transit := rfl

@[simp] theorem State.goConfig_pending (s : State) : (s.goConfig).pending = s.pending := rfl
@[simp] theorem State.goConfig_inReset (s : State) : (s.goConfig).inReset = s.inReset := rfl
@[simp] theorem State.goConfig_ports (s : State) : (s.goConfig).ports = s.ports := rfl
@[simp] theorem State.goConfig_quote (s : State) : (s.goConfig).quote = s.quote := rfl
@[simp] theorem State.goConfig_pages (s : State) : (s.goConfig).pages = s.pages := rfl
@[simp] theorem State.goConfig_notices (s : State) : (s.goConfig).notices = s.notices := rfl
@[simp] theorem State.goConfig_timebase (s : State) : (s.goConfig).timebase = s.timebase := rfl
@[simp] theorem State.goConfig_items (s : State) : (s.goConfig).items = s.items := rfl
@[simp] theorem State.goConfig_transit (s : State) : (s.goConfig).transit = s.transit := rfl

@[simp] theorem State.setDayClock_pending (s : State) (n : Nat) : (s.setDayClock n).pending = s.pending := rfl
@[simp] theorem State.setDayClock_inReset (s : State) (n : Nat) : (s.setDayClock n).inReset = s.inReset := rfl
@[simp] theorem State.setDayClock_mode (s : State) (n : Nat) : (s.setDayClock n).mode = s.mode := rfl
@[simp] theorem State.setDayClock_ports (s : State) (n : Nat) : (s.setDayClock n).ports = s.ports := rfl
@[simp] theorem State.setDayClock_quote (s : State) (n : Nat) : (s.setDayClock n).quote = s.quote := rfl
@[simp] theorem State.setDayClock_display (s : State) (n : Nat) : (s.setDayClock n).display = s.display := rfl
@[simp] theorem State.setDayClock_tape (s : State) (n : Nat) : (s.setDayClock n).tape = s.tape := rfl
@[simp] theorem State.setDayClock_pages (s : State) (n : Nat) : (s.setDayClock n).pages = s.pages := rfl
@[simp] theorem State.setDayClock_notices (s : State) (n : Nat) : (s.setDayClock n).notices = s.notices := rfl
@[simp] theorem State.setDayClock_items (s : State) (n : Nat) : (s.setDayClock n).items = s.items := rfl

@[simp] theorem State.setSeconds_pending (s : State) (n : Nat) : (s.setSeconds n).pending = s.pending := rfl
@[simp] theorem State.setSeconds_inReset (s : State) (n : Nat) : (s.setSeconds n).inReset = s.inReset := rfl
@[simp] theorem State.setSeconds_mode (s : State) (n : Nat) : (s.setSeconds n).mode = s.mode := rfl
@[simp] theorem State.setSeconds_ports (s : State) (n : Nat) : (s.setSeconds n).ports = s.ports := rfl
@[simp] theorem State.setSeconds_quote (s : State) (n : Nat) : (s.setSeconds n).quote = s.quote := rfl
@[simp] theorem State.setSeconds_display (s : State) (n : Nat) : (s.setSeconds n).display = s.display := rfl
@[simp] theorem State.setSeconds_tape (s : State) (n : Nat) : (s.setSeconds n).tape = s.tape := rfl
@[simp] theorem State.setSeconds_pages (s : State) (n : Nat) : (s.setSeconds n).pages = s.pages := rfl
@[simp] theorem State.setSeconds_notices (s : State) (n : Nat) : (s.setSeconds n).notices = s.notices := rfl
@[simp] theorem State.setSeconds_timebase (s : State) (n : Nat) : (s.setSeconds n).timebase = s.timebase := rfl
@[simp] theorem State.setSeconds_items (s : State) (n : Nat) : (s.setSeconds n).items = s.items := rfl

@[simp] theorem State.clearConditions_pending (s : State) (p : PortId) (w : Word) : (s.clearConditions p w).pending = s.pending := rfl
@[simp] theorem State.clearConditions_inReset (s : State) (p : PortId) (w : Word) : (s.clearConditions p w).inReset = s.inReset := rfl
@[simp] theorem State.clearConditions_mode (s : State) (p : PortId) (w : Word) : (s.clearConditions p w).mode = s.mode := rfl
@[simp] theorem State.clearConditions_quote (s : State) (p : PortId) (w : Word) : (s.clearConditions p w).quote = s.quote := rfl
@[simp] theorem State.clearConditions_display (s : State) (p : PortId) (w : Word) : (s.clearConditions p w).display = s.display := rfl
@[simp] theorem State.clearConditions_tape (s : State) (p : PortId) (w : Word) : (s.clearConditions p w).tape = s.tape := rfl
@[simp] theorem State.clearConditions_pages (s : State) (p : PortId) (w : Word) : (s.clearConditions p w).pages = s.pages := rfl
@[simp] theorem State.clearConditions_notices (s : State) (p : PortId) (w : Word) : (s.clearConditions p w).notices = s.notices := rfl
@[simp] theorem State.clearConditions_timebase (s : State) (p : PortId) (w : Word) : (s.clearConditions p w).timebase = s.timebase := rfl
@[simp] theorem State.clearConditions_items (s : State) (p : PortId) (w : Word) : (s.clearConditions p w).items = s.items := rfl
@[simp] theorem State.clearConditions_transit (s : State) (p : PortId) (w : Word) : (s.clearConditions p w).transit = s.transit := rfl

@[simp] theorem State.setMaskWord_pending (s : State) (p : PortId) (w : Word) : (s.setMaskWord p w).pending = s.pending := rfl
@[simp] theorem State.setMaskWord_inReset (s : State) (p : PortId) (w : Word) : (s.setMaskWord p w).inReset = s.inReset := rfl
@[simp] theorem State.setMaskWord_mode (s : State) (p : PortId) (w : Word) : (s.setMaskWord p w).mode = s.mode := rfl
@[simp] theorem State.setMaskWord_quote (s : State) (p : PortId) (w : Word) : (s.setMaskWord p w).quote = s.quote := rfl
@[simp] theorem State.setMaskWord_display (s : State) (p : PortId) (w : Word) : (s.setMaskWord p w).display = s.display := rfl
@[simp] theorem State.setMaskWord_tape (s : State) (p : PortId) (w : Word) : (s.setMaskWord p w).tape = s.tape := rfl
@[simp] theorem State.setMaskWord_pages (s : State) (p : PortId) (w : Word) : (s.setMaskWord p w).pages = s.pages := rfl
@[simp] theorem State.setMaskWord_notices (s : State) (p : PortId) (w : Word) : (s.setMaskWord p w).notices = s.notices := rfl
@[simp] theorem State.setMaskWord_timebase (s : State) (p : PortId) (w : Word) : (s.setMaskWord p w).timebase = s.timebase := rfl
@[simp] theorem State.setMaskWord_items (s : State) (p : PortId) (w : Word) : (s.setMaskWord p w).items = s.items := rfl
@[simp] theorem State.setMaskWord_transit (s : State) (p : PortId) (w : Word) : (s.setMaskWord p w).transit = s.transit := rfl

@[simp] theorem State.setSeverityWord_pending (s : State) (p : PortId) (w : Word) : (s.setSeverityWord p w).pending = s.pending := rfl
@[simp] theorem State.setSeverityWord_inReset (s : State) (p : PortId) (w : Word) : (s.setSeverityWord p w).inReset = s.inReset := rfl
@[simp] theorem State.setSeverityWord_mode (s : State) (p : PortId) (w : Word) : (s.setSeverityWord p w).mode = s.mode := rfl
@[simp] theorem State.setSeverityWord_quote (s : State) (p : PortId) (w : Word) : (s.setSeverityWord p w).quote = s.quote := rfl
@[simp] theorem State.setSeverityWord_display (s : State) (p : PortId) (w : Word) : (s.setSeverityWord p w).display = s.display := rfl
@[simp] theorem State.setSeverityWord_tape (s : State) (p : PortId) (w : Word) : (s.setSeverityWord p w).tape = s.tape := rfl
@[simp] theorem State.setSeverityWord_pages (s : State) (p : PortId) (w : Word) : (s.setSeverityWord p w).pages = s.pages := rfl
@[simp] theorem State.setSeverityWord_notices (s : State) (p : PortId) (w : Word) : (s.setSeverityWord p w).notices = s.notices := rfl
@[simp] theorem State.setSeverityWord_timebase (s : State) (p : PortId) (w : Word) : (s.setSeverityWord p w).timebase = s.timebase := rfl
@[simp] theorem State.setSeverityWord_items (s : State) (p : PortId) (w : Word) : (s.setSeverityWord p w).items = s.items := rfl
@[simp] theorem State.setSeverityWord_transit (s : State) (p : PortId) (w : Word) : (s.setSeverityWord p w).transit = s.transit := rfl

@[simp] theorem State.closeTerminals_pending (s : State) : (s.closeTerminals).pending = s.pending := rfl
@[simp] theorem State.closeTerminals_inReset (s : State) : (s.closeTerminals).inReset = s.inReset := rfl
@[simp] theorem State.closeTerminals_mode (s : State) : (s.closeTerminals).mode = s.mode := rfl
@[simp] theorem State.closeTerminals_ports (s : State) : (s.closeTerminals).ports = s.ports := rfl
@[simp] theorem State.closeTerminals_display (s : State) : (s.closeTerminals).display = s.display := rfl
@[simp] theorem State.closeTerminals_tape (s : State) : (s.closeTerminals).tape = s.tape := rfl
@[simp] theorem State.closeTerminals_timebase (s : State) : (s.closeTerminals).timebase = s.timebase := rfl
@[simp] theorem State.closeTerminals_items (s : State) : (s.closeTerminals).items = s.items := rfl

@[simp] theorem State.resetFurther_pending (s : State) (p : PortId) : (s.resetFurther p).pending = s.pending := by cases p <;> rfl
@[simp] theorem State.resetFurther_inReset (s : State) (p : PortId) : (s.resetFurther p).inReset = s.inReset := by cases p <;> rfl
@[simp] theorem State.resetFurther_mode (s : State) (p : PortId) : (s.resetFurther p).mode = s.mode := by cases p <;> rfl
@[simp] theorem State.resetFurther_display (s : State) (p : PortId) : (s.resetFurther p).display = s.display := by cases p <;> rfl
@[simp] theorem State.resetFurther_tape (s : State) (p : PortId) : (s.resetFurther p).tape = s.tape := by cases p <;> rfl
@[simp] theorem State.resetFurther_pages (s : State) (p : PortId) : (s.resetFurther p).pages = s.pages := by cases p <;> rfl
@[simp] theorem State.resetFurther_notices (s : State) (p : PortId) : (s.resetFurther p).notices = s.notices := by cases p <;> rfl
@[simp] theorem State.resetFurther_timebase (s : State) (p : PortId) : (s.resetFurther p).timebase = s.timebase := by cases p <;> rfl
@[simp] theorem State.resetFurther_items (s : State) (p : PortId) : (s.resetFurther p).items = s.items := by cases p <;> rfl
@[simp] theorem State.resetFurther_transit (s : State) (p : PortId) : (s.resetFurther p).transit = s.transit := by cases p <;> rfl

@[simp] theorem State.appendNotice_pending (s : State) (rs : List Nat) (x : Text) (i : Option Nat) : (s.appendNotice rs x i).pending = s.pending := by
  unfold State.appendNotice
  induction rs generalizing s with
  | nil => rfl
  | cons x l ih => simp only [List.foldl_cons, ih]; first | rfl | simp
@[simp] theorem State.appendNotice_inReset (s : State) (rs : List Nat) (x : Text) (i : Option Nat) : (s.appendNotice rs x i).inReset = s.inReset := by
  unfold State.appendNotice
  induction rs generalizing s with
  | nil => rfl
  | cons x l ih => simp only [List.foldl_cons, ih]; first | rfl | simp
@[simp] theorem State.appendNotice_mode (s : State) (rs : List Nat) (x : Text) (i : Option Nat) : (s.appendNotice rs x i).mode = s.mode := by
  unfold State.appendNotice
  induction rs generalizing s with
  | nil => rfl
  | cons x l ih => simp only [List.foldl_cons, ih]; first | rfl | simp
@[simp] theorem State.appendNotice_ports (s : State) (rs : List Nat) (x : Text) (i : Option Nat) : (s.appendNotice rs x i).ports = s.ports := by
  unfold State.appendNotice
  induction rs generalizing s with
  | nil => rfl
  | cons x l ih => simp only [List.foldl_cons, ih]; first | rfl | simp
@[simp] theorem State.appendNotice_display (s : State) (rs : List Nat) (x : Text) (i : Option Nat) : (s.appendNotice rs x i).display = s.display := by
  unfold State.appendNotice
  induction rs generalizing s with
  | nil => rfl
  | cons x l ih => simp only [List.foldl_cons, ih]; first | rfl | simp
@[simp] theorem State.appendNotice_pages (s : State) (rs : List Nat) (x : Text) (i : Option Nat) : (s.appendNotice rs x i).pages = s.pages := by
  unfold State.appendNotice
  induction rs generalizing s with
  | nil => rfl
  | cons x l ih => simp only [List.foldl_cons, ih]; first | rfl | simp
@[simp] theorem State.appendNotice_notices (s : State) (rs : List Nat) (x : Text) (i : Option Nat) : (s.appendNotice rs x i).notices = s.notices := by
  unfold State.appendNotice
  induction rs generalizing s with
  | nil => rfl
  | cons x l ih => simp only [List.foldl_cons, ih]; first | rfl | simp
@[simp] theorem State.appendNotice_timebase (s : State) (rs : List Nat) (x : Text) (i : Option Nat) : (s.appendNotice rs x i).timebase = s.timebase := by
  unfold State.appendNotice
  induction rs generalizing s with
  | nil => rfl
  | cons x l ih => simp only [List.foldl_cons, ih]; first | rfl | simp
@[simp] theorem State.appendNotice_items (s : State) (rs : List Nat) (x : Text) (i : Option Nat) : (s.appendNotice rs x i).items = s.items := by
  unfold State.appendNotice
  induction rs generalizing s with
  | nil => rfl
  | cons x l ih => simp only [List.foldl_cons, ih]; first | rfl | simp

@[simp] theorem State.appendPrint_pending (s : State) (rs : List Nat) (i n : Nat) : (s.appendPrint rs i n).pending = s.pending := by
  unfold State.appendPrint
  induction rs generalizing s with
  | nil => rfl
  | cons x l ih => simp only [List.foldl_cons, ih]; first | rfl | simp
@[simp] theorem State.appendPrint_inReset (s : State) (rs : List Nat) (i n : Nat) : (s.appendPrint rs i n).inReset = s.inReset := by
  unfold State.appendPrint
  induction rs generalizing s with
  | nil => rfl
  | cons x l ih => simp only [List.foldl_cons, ih]; first | rfl | simp
@[simp] theorem State.appendPrint_mode (s : State) (rs : List Nat) (i n : Nat) : (s.appendPrint rs i n).mode = s.mode := by
  unfold State.appendPrint
  induction rs generalizing s with
  | nil => rfl
  | cons x l ih => simp only [List.foldl_cons, ih]; first | rfl | simp
@[simp] theorem State.appendPrint_ports (s : State) (rs : List Nat) (i n : Nat) : (s.appendPrint rs i n).ports = s.ports := by
  unfold State.appendPrint
  induction rs generalizing s with
  | nil => rfl
  | cons x l ih => simp only [List.foldl_cons, ih]; first | rfl | simp
@[simp] theorem State.appendPrint_display (s : State) (rs : List Nat) (i n : Nat) : (s.appendPrint rs i n).display = s.display := by
  unfold State.appendPrint
  induction rs generalizing s with
  | nil => rfl
  | cons x l ih => simp only [List.foldl_cons, ih]; first | rfl | simp
@[simp] theorem State.appendPrint_pages (s : State) (rs : List Nat) (i n : Nat) : (s.appendPrint rs i n).pages = s.pages := by
  unfold State.appendPrint
  induction rs generalizing s with
  | nil => rfl
  | cons x l ih => simp only [List.foldl_cons, ih]; first | rfl | simp
@[simp] theorem State.appendPrint_notices (s : State) (rs : List Nat) (i n : Nat) : (s.appendPrint rs i n).notices = s.notices := by
  unfold State.appendPrint
  induction rs generalizing s with
  | nil => rfl
  | cons x l ih => simp only [List.foldl_cons, ih]; first | rfl | simp
@[simp] theorem State.appendPrint_timebase (s : State) (rs : List Nat) (i n : Nat) : (s.appendPrint rs i n).timebase = s.timebase := by
  unfold State.appendPrint
  induction rs generalizing s with
  | nil => rfl
  | cons x l ih => simp only [List.foldl_cons, ih]; first | rfl | simp
@[simp] theorem State.appendPrint_items (s : State) (rs : List Nat) (i n : Nat) : (s.appendPrint rs i n).items = s.items := by
  unfold State.appendPrint
  induction rs generalizing s with
  | nil => rfl
  | cons x l ih => simp only [List.foldl_cons, ih]; first | rfl | simp

@[simp] theorem State.changeViewers_pending (s : State) (f : List Nat → List Nat) (is : List Nat) : (s.changeViewers f is).pending = s.pending := by
  unfold State.changeViewers
  induction is generalizing s with
  | nil => rfl
  | cons x l ih => simp only [List.foldl_cons, ih]; first | rfl | simp
@[simp] theorem State.changeViewers_inReset (s : State) (f : List Nat → List Nat) (is : List Nat) : (s.changeViewers f is).inReset = s.inReset := by
  unfold State.changeViewers
  induction is generalizing s with
  | nil => rfl
  | cons x l ih => simp only [List.foldl_cons, ih]; first | rfl | simp
@[simp] theorem State.changeViewers_mode (s : State) (f : List Nat → List Nat) (is : List Nat) : (s.changeViewers f is).mode = s.mode := by
  unfold State.changeViewers
  induction is generalizing s with
  | nil => rfl
  | cons x l ih => simp only [List.foldl_cons, ih]; first | rfl | simp
@[simp] theorem State.changeViewers_ports (s : State) (f : List Nat → List Nat) (is : List Nat) : (s.changeViewers f is).ports = s.ports := by
  unfold State.changeViewers
  induction is generalizing s with
  | nil => rfl
  | cons x l ih => simp only [List.foldl_cons, ih]; first | rfl | simp
@[simp] theorem State.changeViewers_display (s : State) (f : List Nat → List Nat) (is : List Nat) : (s.changeViewers f is).display = s.display := by
  unfold State.changeViewers
  induction is generalizing s with
  | nil => rfl
  | cons x l ih => simp only [List.foldl_cons, ih]; first | rfl | simp
@[simp] theorem State.changeViewers_tape (s : State) (f : List Nat → List Nat) (is : List Nat) : (s.changeViewers f is).tape = s.tape := by
  unfold State.changeViewers
  induction is generalizing s with
  | nil => rfl
  | cons x l ih => simp only [List.foldl_cons, ih]; first | rfl | simp
@[simp] theorem State.changeViewers_pages (s : State) (f : List Nat → List Nat) (is : List Nat) : (s.changeViewers f is).pages = s.pages := by
  unfold State.changeViewers
  induction is generalizing s with
  | nil => rfl
  | cons x l ih => simp only [List.foldl_cons, ih]; first | rfl | simp
@[simp] theorem State.changeViewers_notices (s : State) (f : List Nat → List Nat) (is : List Nat) : (s.changeViewers f is).notices = s.notices := by
  unfold State.changeViewers
  induction is generalizing s with
  | nil => rfl
  | cons x l ih => simp only [List.foldl_cons, ih]; first | rfl | simp
@[simp] theorem State.changeViewers_timebase (s : State) (f : List Nat → List Nat) (is : List Nat) : (s.changeViewers f is).timebase = s.timebase := by
  unfold State.changeViewers
  induction is generalizing s with
  | nil => rfl
  | cons x l ih => simp only [List.foldl_cons, ih]; first | rfl | simp
@[simp] theorem State.changeViewers_items (s : State) (f : List Nat → List Nat) (is : List Nat) : (s.changeViewers f is).items = s.items := by
  unfold State.changeViewers
  induction is generalizing s with
  | nil => rfl
  | cons x l ih => simp only [List.foldl_cons, ih]; first | rfl | simp
@[simp] theorem State.changeViewers_transit (s : State) (f : List Nat → List Nat) (is : List Nat) : (s.changeViewers f is).transit = s.transit := by
  unfold State.changeViewers
  induction is generalizing s with
  | nil => rfl
  | cons x l ih => simp only [List.foldl_cons, ih]; first | rfl | simp

@[simp] theorem State.tapeStep_pending (s : State) (rs : List Nat) (i n : Nat) (w : Bool) (x : Text) : (s.tapeStep rs i n w x).pending = s.pending := by
  unfold State.tapeStep
  induction rs generalizing s with
  | nil => rfl
  | cons r l ih => simp only [List.foldl_cons, ih]; split <;> [split <;> simp; simp]
@[simp] theorem State.tapeStep_inReset (s : State) (rs : List Nat) (i n : Nat) (w : Bool) (x : Text) : (s.tapeStep rs i n w x).inReset = s.inReset := by
  unfold State.tapeStep
  induction rs generalizing s with
  | nil => rfl
  | cons r l ih => simp only [List.foldl_cons, ih]; split <;> [split <;> simp; simp]
@[simp] theorem State.tapeStep_mode (s : State) (rs : List Nat) (i n : Nat) (w : Bool) (x : Text) : (s.tapeStep rs i n w x).mode = s.mode := by
  unfold State.tapeStep
  induction rs generalizing s with
  | nil => rfl
  | cons r l ih => simp only [List.foldl_cons, ih]; split <;> [split <;> simp; simp]
@[simp] theorem State.tapeStep_ports (s : State) (rs : List Nat) (i n : Nat) (w : Bool) (x : Text) : (s.tapeStep rs i n w x).ports = s.ports := by
  unfold State.tapeStep
  induction rs generalizing s with
  | nil => rfl
  | cons r l ih => simp only [List.foldl_cons, ih]; split <;> [split <;> simp; simp]
@[simp] theorem State.tapeStep_display (s : State) (rs : List Nat) (i n : Nat) (w : Bool) (x : Text) : (s.tapeStep rs i n w x).display = s.display := by
  unfold State.tapeStep
  induction rs generalizing s with
  | nil => rfl
  | cons r l ih => simp only [List.foldl_cons, ih]; split <;> [split <;> simp; simp]
@[simp] theorem State.tapeStep_pages (s : State) (rs : List Nat) (i n : Nat) (w : Bool) (x : Text) : (s.tapeStep rs i n w x).pages = s.pages := by
  unfold State.tapeStep
  induction rs generalizing s with
  | nil => rfl
  | cons r l ih => simp only [List.foldl_cons, ih]; split <;> [split <;> simp; simp]
@[simp] theorem State.tapeStep_notices (s : State) (rs : List Nat) (i n : Nat) (w : Bool) (x : Text) : (s.tapeStep rs i n w x).notices = s.notices := by
  unfold State.tapeStep
  induction rs generalizing s with
  | nil => rfl
  | cons r l ih => simp only [List.foldl_cons, ih]; split <;> [split <;> simp; simp]
@[simp] theorem State.tapeStep_timebase (s : State) (rs : List Nat) (i n : Nat) (w : Bool) (x : Text) : (s.tapeStep rs i n w x).timebase = s.timebase := by
  unfold State.tapeStep
  induction rs generalizing s with
  | nil => rfl
  | cons r l ih => simp only [List.foldl_cons, ih]; split <;> [split <;> simp; simp]
@[simp] theorem State.tapeStep_items (s : State) (rs : List Nat) (i n : Nat) (w : Bool) (x : Text) : (s.tapeStep rs i n w x).items = s.items := by
  unfold State.tapeStep
  induction rs generalizing s with
  | nil => rfl
  | cons r l ih => simp only [List.foldl_cons, ih]; split <;> [split <;> simp; simp]

@[simp] theorem State.closePage_pending (s : State) (t : Nat) : (s.closePage t).pending = s.pending := by unfold State.closePage; split <;> simp
@[simp] theorem State.closePage_inReset (s : State) (t : Nat) : (s.closePage t).inReset = s.inReset := by unfold State.closePage; split <;> simp
@[simp] theorem State.closePage_mode (s : State) (t : Nat) : (s.closePage t).mode = s.mode := by unfold State.closePage; split <;> simp
@[simp] theorem State.closePage_ports (s : State) (t : Nat) : (s.closePage t).ports = s.ports := by unfold State.closePage; split <;> simp
@[simp] theorem State.closePage_display (s : State) (t : Nat) : (s.closePage t).display = s.display := by unfold State.closePage; split <;> simp
@[simp] theorem State.closePage_tape (s : State) (t : Nat) : (s.closePage t).tape = s.tape := by unfold State.closePage; split <;> simp
@[simp] theorem State.closePage_notices (s : State) (t : Nat) : (s.closePage t).notices = s.notices := by unfold State.closePage; split <;> simp
@[simp] theorem State.closePage_timebase (s : State) (t : Nat) : (s.closePage t).timebase = s.timebase := by unfold State.closePage; split <;> simp
@[simp] theorem State.closePage_items (s : State) (t : Nat) : (s.closePage t).items = s.items := by unfold State.closePage; split <;> simp
@[simp] theorem State.closePage_transit (s : State) (t : Nat) : (s.closePage t).transit = s.transit := by unfold State.closePage; split <;> simp

@[simp] theorem State.openPage_pending (s : State) (t : Nat) (x : Selector) (d : Descriptor) : (s.openPage t x d).pending = s.pending := by unfold State.openPage; dsimp only; split <;> simp
@[simp] theorem State.openPage_inReset (s : State) (t : Nat) (x : Selector) (d : Descriptor) : (s.openPage t x d).inReset = s.inReset := by unfold State.openPage; dsimp only; split <;> simp
@[simp] theorem State.openPage_mode (s : State) (t : Nat) (x : Selector) (d : Descriptor) : (s.openPage t x d).mode = s.mode := by unfold State.openPage; dsimp only; split <;> simp
@[simp] theorem State.openPage_ports (s : State) (t : Nat) (x : Selector) (d : Descriptor) : (s.openPage t x d).ports = s.ports := by unfold State.openPage; dsimp only; split <;> simp
@[simp] theorem State.openPage_display (s : State) (t : Nat) (x : Selector) (d : Descriptor) : (s.openPage t x d).display = s.display := by unfold State.openPage; dsimp only; split <;> simp
@[simp] theorem State.openPage_tape (s : State) (t : Nat) (x : Selector) (d : Descriptor) : (s.openPage t x d).tape = s.tape := by unfold State.openPage; dsimp only; split <;> simp
@[simp] theorem State.openPage_notices (s : State) (t : Nat) (x : Selector) (d : Descriptor) : (s.openPage t x d).notices = s.notices := by unfold State.openPage; dsimp only; split <;> simp
@[simp] theorem State.openPage_timebase (s : State) (t : Nat) (x : Selector) (d : Descriptor) : (s.openPage t x d).timebase = s.timebase := by unfold State.openPage; dsimp only; split <;> simp
@[simp] theorem State.openPage_items (s : State) (t : Nat) (x : Selector) (d : Descriptor) : (s.openPage t x d).items = s.items := by unfold State.openPage; dsimp only; split <;> simp

@[simp] theorem State.advance_pending (n : Nat) (s : State) : (s.advance n).pending = s.pending := by
  induction n generalizing s with
  | zero => rfl
  | succ n ih => simp [State.advance, ih]
@[simp] theorem State.setTime_pending (s : State) (n : Nat) : (s.setTime n).pending = s.pending := by simp [State.setTime]
@[simp] theorem State.advance_inReset (n : Nat) (s : State) : (s.advance n).inReset = s.inReset := by
  induction n generalizing s with
  | zero => rfl
  | succ n ih => simp [State.advance, ih]
@[simp] theorem State.setTime_inReset (s : State) (n : Nat) : (s.setTime n).inReset = s.inReset := by simp [State.setTime]
@[simp] theorem State.advance_mode (n : Nat) (s : State) : (s.advance n).mode = s.mode := by
  induction n generalizing s with
  | zero => rfl
  | succ n ih => simp [State.advance, ih]
@[simp] theorem State.setTime_mode (s : State) (n : Nat) : (s.setTime n).mode = s.mode := by simp [State.setTime]
@[simp] theorem State.advance_ports (n : Nat) (s : State) : (s.advance n).ports = s.ports := by
  induction n generalizing s with
  | zero => rfl
  | succ n ih => simp [State.advance, ih]
@[simp] theorem State.setTime_ports (s : State) (n : Nat) : (s.setTime n).ports = s.ports := by simp [State.setTime]
@[simp] theorem State.advance_quote (n : Nat) (s : State) : (s.advance n).quote = s.quote := by
  induction n generalizing s with
  | zero => rfl
  | succ n ih => simp [State.advance, ih]
@[simp] theorem State.setTime_quote (s : State) (n : Nat) : (s.setTime n).quote = s.quote := by simp [State.setTime]
@[simp] theorem State.advance_display (n : Nat) (s : State) : (s.advance n).display = s.display := by
  induction n generalizing s with
  | zero => rfl
  | succ n ih => simp [State.advance, ih]
@[simp] theorem State.setTime_display (s : State) (n : Nat) : (s.setTime n).display = s.display := by simp [State.setTime]
@[simp] theorem State.advance_tape (n : Nat) (s : State) : (s.advance n).tape = s.tape := by
  induction n generalizing s with
  | zero => rfl
  | succ n ih => simp [State.advance, ih]
@[simp] theorem State.setTime_tape (s : State) (n : Nat) : (s.setTime n).tape = s.tape := by simp [State.setTime]
@[simp] theorem State.advance_pages (n : Nat) (s : State) : (s.advance n).pages = s.pages := by
  induction n generalizing s with
  | zero => rfl
  | succ n ih => simp [State.advance, ih]
@[simp] theorem State.setTime_pages (s : State) (n : Nat) : (s.setTime n).pages = s.pages := by simp [State.setTime]
@[simp] theorem State.advance_notices (n : Nat) (s : State) : (s.advance n).notices = s.notices := by
  induction n generalizing s with
  | zero => rfl
  | succ n ih => simp [State.advance, ih]
@[simp] theorem State.setTime_notices (s : State) (n : Nat) : (s.setTime n).notices = s.notices := by simp [State.setTime]
@[simp] theorem State.advance_items (n : Nat) (s : State) : (s.advance n).items = s.items := by
  induction n generalizing s with
  | zero => rfl
  | succ n ih => simp [State.advance, ih]
@[simp] theorem State.setTime_items (s : State) (n : Nat) : (s.setTime n).items = s.items := by simp [State.setTime]

@[simp] theorem State.changeSession_pending (s : State) (x : Session) (m : Text) : (s.changeSession x m).pending = s.pending := by simp [State.changeSession]
@[simp] theorem State.changeSession_inReset (s : State) (x : Session) (m : Text) : (s.changeSession x m).inReset = s.inReset := by simp [State.changeSession]
@[simp] theorem State.changeSession_mode (s : State) (x : Session) (m : Text) : (s.changeSession x m).mode = s.mode := by simp [State.changeSession]
@[simp] theorem State.changeSession_ports (s : State) (x : Session) (m : Text) : (s.changeSession x m).ports = s.ports := by simp [State.changeSession]
@[simp] theorem State.changeSession_display (s : State) (x : Session) (m : Text) : (s.changeSession x m).display = s.display := by simp [State.changeSession]
@[simp] theorem State.changeSession_pages (s : State) (x : Session) (m : Text) : (s.changeSession x m).pages = s.pages := by simp [State.changeSession]
@[simp] theorem State.changeSession_notices (s : State) (x : Session) (m : Text) : (s.changeSession x m).notices = s.notices := by simp [State.changeSession]
@[simp] theorem State.changeSession_timebase (s : State) (x : Session) (m : Text) : (s.changeSession x m).timebase = s.timebase := by simp [State.changeSession]
@[simp] theorem State.changeSession_items (s : State) (x : Session) (m : Text) : (s.changeSession x m).items = s.items := by simp [State.changeSession]

@[simp] theorem State.resetPort_pending (s : State) (p : PortId) : (s.resetPort p).pending = s.pending := by
  cases p <;> simp only [State.resetPort] <;> first | rfl | (split <;> simp) | simp
@[simp] theorem State.resetPort_inReset (s : State) (p : PortId) : (s.resetPort p).inReset = s.inReset := by
  cases p <;> simp only [State.resetPort] <;> first | rfl | (split <;> simp) | simp
@[simp] theorem State.resetPort_mode (s : State) (p : PortId) : (s.resetPort p).mode = s.mode := by
  cases p <;> simp only [State.resetPort] <;> first | rfl | (split <;> simp) | simp
@[simp] theorem State.resetPort_display (s : State) (p : PortId) : (s.resetPort p).display = s.display := by
  cases p <;> simp only [State.resetPort] <;> first | rfl | (split <;> simp) | simp
@[simp] theorem State.resetPort_tape (s : State) (p : PortId) : (s.resetPort p).tape = s.tape := by
  cases p <;> simp only [State.resetPort] <;> first | rfl | (split <;> simp) | simp
@[simp] theorem State.resetPort_timebase (s : State) (p : PortId) : (s.resetPort p).timebase = s.timebase := by
  cases p <;> simp only [State.resetPort] <;> first | rfl | (split <;> simp) | simp
@[simp] theorem State.resetPort_items (s : State) (p : PortId) : (s.resetPort p).items = s.items := by
  cases p <;> simp only [State.resetPort] <;> first | rfl | (split <;> simp) | simp

end Sys2Proof.Machine
end

