-- ==== Sys2Proof/Laws/Table.lean ====
section
/-! SUPPORT. The laws of the tables: reading after writing, and the canonical form kept by every write. -/

set_option linter.unusedSimpArgs false
set_option linter.unusedTactic false
set_option linter.unreachableTactic false

namespace Sys2Proof.Machine

variable {α : Type}

theorem Table.get_filter_self (d : α) (t : Table α) (k : Nat) :
    Table.get d (t.filter fun e => e.1 != k) k = d := by
  induction t with
  | nil => rfl
  | cons e t ih =>
    obtain ⟨k', v⟩ := e
    by_cases h : k' = k <;> simp [Table.get, List.filter_cons, h, ih]

theorem Table.get_filter_ne (d : α) (t : Table α) {k j : Nat} (h : j ≠ k) :
    Table.get d (t.filter fun e => e.1 != k) j = Table.get d t j := by
  induction t with
  | nil => rfl
  | cons e t ih =>
    obtain ⟨k', v⟩ := e
    by_cases hk : k' = k
    · subst hk; simp [Table.get, List.filter_cons, Ne.symm h, ih]
    · simp [Table.get, List.filter_cons, hk, ih]

theorem Table.get_place_self (d : α) (t : Table α) (k : Nat) (v : α) : Table.get d (t.place k v) k = v := by
  induction t with
  | nil => simp [Table.place, Table.get]
  | cons e t ih =>
    obtain ⟨k', v'⟩ := e
    simp only [Table.place]
    split
    · simp [Table.get]
    · split
      · simp [Table.get]
      · rename_i h; simp [Table.get, Ne.symm h, ih]

theorem Table.get_place_ne (d : α) (t : Table α) {k j : Nat} (v : α) (h : j ≠ k) :
    Table.get d (t.place k v) j = Table.get d t j := by
  induction t with
  | nil => simp [Table.place, Table.get, Ne.symm h]
  | cons e t ih =>
    obtain ⟨k', v'⟩ := e
    simp only [Table.place]
    split
    · simp [Table.get, Ne.symm h]
    · split
      · rename_i hk; subst hk; simp [Table.get, Ne.symm h]
      · simp [Table.get, ih]

/-- Reading the entry that was written gives what was written. -/
@[simp] theorem Table.get_put_self [DecidableEq α] (d : α) (t : Table α) (k : Nat) (v : α) :
    Table.get d (Table.put d t k v) k = v := by
  unfold Table.put
  split
  · rename_i h; rw [h]; exact Table.get_filter_self d t k
  · exact Table.get_place_self d t k v

/-- A write leaves every other entry. -/
@[simp] theorem Table.get_put_ne [DecidableEq α] (d : α) (t : Table α) {k j : Nat} (v : α) (h : j ≠ k) :
    Table.get d (Table.put d t k v) j = Table.get d t j := by
  unfold Table.put
  split
  · exact Table.get_filter_ne d t h
  · exact Table.get_place_ne d t v h

theorem Table.wfAbove_weaken [DecidableEq α] (d : α) {t : Table α} {a b : Option Nat}
    (hab : ∀ x, b = some x → ∃ y, a = some y ∧ x ≤ y) (h : Table.wfAbove d a t = true) :
    Table.wfAbove d b t = true := by
  cases t with
  | nil => rfl
  | cons e t =>
    obtain ⟨k, v⟩ := e
    simp only [Table.wfAbove, Bool.and_eq_true] at h ⊢
    refine ⟨⟨?_, h.1.2⟩, h.2⟩
    cases b with
    | none => rfl
    | some x =>
      obtain ⟨y, rfl, hy⟩ := hab x rfl
      have := h.1.1
      simp only [Option.all_some, decide_eq_true_eq] at this ⊢
      omega

theorem Table.wfAbove_filter [DecidableEq α] (d : α) (q : Nat × α → Bool) {t : Table α} {b : Option Nat}
    (h : Table.wfAbove d b t = true) : Table.wfAbove d b (t.filter q) = true := by
  induction t generalizing b with
  | nil => rfl
  | cons e t ih =>
    obtain ⟨k, v⟩ := e
    simp only [Table.wfAbove, Bool.and_eq_true] at h
    simp only [List.filter_cons]
    split
    · simp [Table.wfAbove, h.1.1, h.1.2, ih h.2]
    · refine Table.wfAbove_weaken d ?_ (ih h.2)
      rintro x rfl
      exact ⟨k, rfl, Nat.le_of_lt (by simpa using h.1.1)⟩

theorem Table.wfAbove_place [DecidableEq α] (d : α) {t : Table α} {b : Option Nat} {k : Nat} {v : α}
    (hb : b.all (fun b => decide (b < k)) = true) (hv : v ≠ d) (h : Table.wfAbove d b t = true) :
    Table.wfAbove d b (t.place k v) = true := by
  induction t generalizing b with
  | nil => simp [Table.place, Table.wfAbove, hb, hv]
  | cons e t ih =>
    obtain ⟨k', v'⟩ := e
    simp only [Table.wfAbove, Bool.and_eq_true] at h
    simp only [Table.place]
    split
    · rename_i hk
      simp only [Table.wfAbove, Bool.and_eq_true]
      exact ⟨⟨hb, by simpa using hv⟩, ⟨by simpa using hk, h.1.2⟩, h.2⟩
    · split
      · rename_i hk; subst hk
        simp only [Table.wfAbove, Bool.and_eq_true]
        exact ⟨⟨hb, by simpa using hv⟩, h.2⟩
      · rename_i h1 h2
        simp only [Table.wfAbove, Bool.and_eq_true]
        refine ⟨h.1, ih ?_ h.2⟩
        simp only [Option.all_some, decide_eq_true_eq]
        omega

/-- A write keeps the canonical form. -/
theorem Table.wf_put [DecidableEq α] (d : α) {t : Table α} (k : Nat) (v : α) (h : Table.wf d t = true) :
    Table.wf d (Table.put d t k v) = true := by
  unfold Table.put
  split
  · exact Table.wfAbove_filter d _ h
  · rename_i hv; exact Table.wfAbove_place d rfl hv h

theorem Table.wfAbove_map [DecidableEq α] (d : α) (f : α → α) {t : Table α} {b : Option Nat}
    (h : Table.wfAbove d b t = true) : Table.wfAbove d b (Table.mapValues d f t) = true := by
  induction t generalizing b with
  | nil => rfl
  | cons e t ih =>
    obtain ⟨k, v⟩ := e
    simp only [Table.wfAbove, Bool.and_eq_true] at h
    have ih' := ih h.2
    unfold Table.mapValues at ih' ⊢
    simp only [List.map_cons, List.filter_cons]
    split
    · rename_i hf
      simp only [Table.wfAbove, Bool.and_eq_true]
      exact ⟨⟨h.1.1, hf⟩, ih'⟩
    · refine Table.wfAbove_weaken d ?_ ih'
      rintro x rfl
      exact ⟨k, rfl, Nat.le_of_lt (by simpa using h.1.1)⟩

/-- Changing every entry keeps the canonical form. -/
theorem Table.wf_mapValues [DecidableEq α] (d : α) (f : α → α) {t : Table α} (h : Table.wf d t = true) :
    Table.wf d (Table.mapValues d f t) = true := Table.wfAbove_map d f h

theorem Table.get_of_wfAbove [DecidableEq α] (d : α) {t : Table α} {b i : Nat}
    (h : Table.wfAbove d (some b) t = true) (hi : i ≤ b) : Table.get d t i = d := by
  induction t generalizing b with
  | nil => rfl
  | cons e t ih =>
    obtain ⟨k, v⟩ := e
    simp only [Table.wfAbove, Bool.and_eq_true, Option.all_some, decide_eq_true_eq] at h
    rw [Table.get, if_neg (by omega)]
    exact ih h.2 (by omega)

theorem Table.get_map_filter [DecidableEq α] (d : α) (f : α → α) (hf : f d = d) {t : Table α} {b : Option Nat}
    (h : Table.wfAbove d b t = true) (i : Nat) :
    Table.get d (Table.mapValues d f t) i = f (Table.get d t i) := by
  induction t generalizing b with
  | nil => simp [Table.mapValues, Table.get, hf]
  | cons e t ih =>
    obtain ⟨k, v⟩ := e
    simp only [Table.wfAbove, Bool.and_eq_true] at h
    have ih' := ih h.2
    unfold Table.mapValues at ih' ⊢
    simp only [List.map_cons, List.filter_cons, Table.get]
    by_cases hd : f v = d
    · simp only [hd, decide_true, Bool.not_true, Bool.false_eq_true, if_false, ih']
      split
      · rename_i hk; subst hk
        rw [Table.get_of_wfAbove d h.2 (le_refl k), hf, hd]
      · rfl
    · simp only [hd, decide_false, Bool.not_false, if_true, Table.get, ih']
      split <;> rfl

/-- Reading after every entry has been changed gives the changed entry. -/
theorem Table.get_mapValues [DecidableEq α] (d : α) (f : α → α) (hf : f d = d) {t : Table α}
    (h : Table.wf d t = true) (i : Nat) : Table.get d (Table.mapValues d f t) i = f (Table.get d t i) :=
  Table.get_map_filter d f hf h i

/-- The keys of a canonical table's entries that satisfy `f` rise, and lie above its bound. -/
theorem Table.keys_pairwise [DecidableEq α] (d : α) (f : Nat → α → Bool) {t : Table α} {b : Option Nat}
    (h : Table.wfAbove d b t = true) :
    (Table.keys f t).Pairwise (· < ·) ∧ ∀ x, b = some x → ∀ i ∈ Table.keys f t, x < i := by
  induction t generalizing b with
  | nil => simp [Table.keys]
  | cons e t ih =>
    obtain ⟨k, v⟩ := e
    simp only [Table.wfAbove, Bool.and_eq_true] at h
    obtain ⟨h1, h2⟩ := ih h.2
    have h2 := h2 k rfl
    unfold Table.keys at *
    simp only [List.filter_cons]
    split
    · simp only [List.map_cons, List.pairwise_cons]
      refine ⟨⟨h2, h1⟩, ?_⟩
      rintro x rfl i hi
      have hb := h.1.1
      simp at hb
      rcases List.mem_cons.1 hi with rfl | hi
      · exact hb
      · exact lt_trans hb (h2 i hi)
    · refine ⟨h1, ?_⟩
      rintro x rfl i hi
      have hb := h.1.1
      simp at hb
      exact lt_trans hb (h2 i hi)

/-- Which keys `Table.keys` answers: those whose entry satisfies `f`. -/
theorem Table.mem_keys [DecidableEq α] (d : α) {f : α → Bool} (hd : f d = false) {t : Table α} {b : Option Nat}
    (h : Table.wfAbove d b t = true) (i : Nat) :
    i ∈ Table.keys (fun _ v => f v) t ↔ f (Table.get d t i) = true := by
  induction t generalizing b with
  | nil => simp [Table.keys, Table.get, hd]
  | cons e t ih =>
    obtain ⟨k, v⟩ := e
    simp only [Table.wfAbove, Bool.and_eq_true] at h
    have ih := ih h.2
    have hlow := (Table.keys_pairwise d (fun _ v => f v) h.2).2 k rfl
    unfold Table.keys at *
    simp only [List.filter_cons, Table.get]
    by_cases hk : k = i
    · subst hk
      have hnot : ¬ k ∈ (t.filter fun e => f e.2).map (·.1) := fun hm => lt_irrefl _ (hlow k hm)
      split
      · rename_i hf; simp [hf]
      · rename_i hf
        simp only [if_true]
        exact ⟨fun hm => absurd hm hnot, fun hm => absurd hm hf⟩
    · rw [if_neg hk]
      split
      · simp only [List.map_cons, List.mem_cons]
        rw [← ih]
        exact ⟨fun hm => hm.resolve_left (Ne.symm hk), Or.inr⟩
      · exact ih

/-- What a table reads is its default or one of its entries. -/
theorem Table.get_mem (d : α) (t : Table α) (k : Nat) : Table.get d t k = d ∨ (k, Table.get d t k) ∈ t := by
  induction t with
  | nil => exact .inl rfl
  | cons a t ih =>
    obtain ⟨k', v⟩ := a
    unfold Table.get
    split
    · rename_i h; subst h; exact .inr List.mem_cons_self
    · exact ih.imp id fun h => List.mem_cons_of_mem _ h

theorem Table.lt_of_wfAbove [DecidableEq α] (d : α) {t : Table α} {b : Nat} (h : Table.wfAbove d (some b) t = true)
    {e : Nat × α} (he : e ∈ t) : b < e.1 := by
  induction t generalizing b with
  | nil => cases he
  | cons a t ih =>
    obtain ⟨k, v⟩ := a
    simp only [Table.wfAbove, Bool.and_eq_true, Option.all_some, decide_eq_true_eq] at h
    rcases List.mem_cons.1 he with he | he
    · rw [he]; exact h.1.1
    · exact lt_trans h.1.1 (ih h.2 he)

/-- Every entry of a canonical table is what the table reads under its key. -/
theorem Table.get_of_mem [DecidableEq α] (d : α) {t : Table α} {b : Option Nat} (h : Table.wfAbove d b t = true)
    {e : Nat × α} (he : e ∈ t) : Table.get d t e.1 = e.2 := by
  induction t generalizing b with
  | nil => cases he
  | cons a t ih =>
    obtain ⟨k, v⟩ := a
    simp only [Table.wfAbove, Bool.and_eq_true] at h
    unfold Table.get
    rcases List.mem_cons.1 he with he | he
    · rw [he, if_pos rfl]
    · rw [if_neg (Nat.ne_of_lt (Table.lt_of_wfAbove d h.2 he)), ih h.2 he]

/-- An entry of a table after a write is the one written or stood in it before. -/
theorem Table.mem_put [DecidableEq α] {d : α} {t : Table α} {k : Nat} {v : α} {e : Nat × α}
    (h : e ∈ Table.put d t k v) : e.2 = v ∨ e ∈ t := by
  unfold Table.put at h
  split at h
  · exact .inr (List.mem_filter.1 h).1
  · clear * - h
    induction t with
    | nil => simp [Table.place] at h; exact .inl (by rw [h])
    | cons a t ih =>
      unfold Table.place at h
      split at h
      · rcases List.mem_cons.1 h with h | h
        · exact .inl (by rw [h])
        · exact .inr h
      · split at h
        · rcases List.mem_cons.1 h with h | h
          · exact .inl (by rw [h])
          · exact .inr (List.mem_cons_of_mem _ h)
        · rcases List.mem_cons.1 h with h | h
          · exact .inr (by rw [h]; exact List.mem_cons_self)
          · exact (ih h).imp id (List.mem_cons_of_mem _)

end Sys2Proof.Machine
end

