-- ==== Sys2Proof/Laws/Board.lean ====
section
/-! SUPPORT. Reading and writing the tables of the board and of the links, what each operation of the board engine
and of the link controllers leaves as it is, and that each keeps the invariants of the board. -/

set_option Elab.async false

namespace Sys2Proof.Machine

/-! ### Reading after writing -/

@[simp] theorem Display.cell_setCell_self (d : Display) (c : Nat) (v : Cell) : (d.setCell c v).cell c = v :=
  Table.get_put_self _ _ _ _

@[simp] theorem Display.cell_setCell_ne (d : Display) {c x : Nat} (v : Cell) (h : x ≠ c) :
    (d.setCell c v).cell x = d.cell x := Table.get_put_ne _ _ _ h

theorem Display.cell_setCell (d : Display) (c x : Nat) (v : Cell) :
    (d.setCell c v).cell x = if x = c then v else d.cell x := by
  split
  · subst x; simp
  · rename_i h; simp [h]

@[simp] theorem Display.panel_setPanel_self (d : Display) (n : Nat) (v : Panel) : (d.setPanel n v).panel n = v :=
  Table.get_put_self _ _ _ _

@[simp] theorem Display.panel_setPanel_ne (d : Display) {n x : Nat} (v : Panel) (h : x ≠ n) :
    (d.setPanel n v).panel x = d.panel x := Table.get_put_ne _ _ _ h

@[simp] theorem Display.link_setLink_self (d : Display) (l : Nat) (v : Link) : (d.setLink l v).link l = v :=
  Table.get_put_self _ _ _ _

@[simp] theorem Display.link_setLink_ne (d : Display) {l x : Nat} (v : Link) (h : x ≠ l) :
    (d.setLink l v).link x = d.link x := Table.get_put_ne _ _ _ h

@[simp] theorem Display.queue_setQueue_self (d : Display) (l : Nat) (q : List Nat) : (d.setQueue l q).queue l = q :=
  Table.get_put_self _ _ _ _

@[simp] theorem Display.queue_setQueue_ne (d : Display) {l x : Nat} (q : List Nat) (h : x ≠ l) :
    (d.setQueue l q).queue x = d.queue x := Table.get_put_ne _ _ _ h

@[simp] theorem Link.module_setModule_self (v : Link) (m : Nat) (e : Module) : (v.setModule m e).module m = e :=
  Table.get_put_self _ _ _ _

@[simp] theorem Link.module_setModule_ne (v : Link) {m x : Nat} (e : Module) (h : x ≠ m) :
    (v.setModule m e).module x = v.module x := Table.get_put_ne _ _ _ h

@[simp] theorem Display.setCell_panels (d : Display) (c : Nat) (v : Cell) : (d.setCell c v).panels = d.panels := rfl
@[simp] theorem Display.setCell_deviceHead (d : Display) (c : Nat) (v : Cell) : (d.setCell c v).deviceHead = d.deviceHead := rfl
@[simp] theorem Display.setCell_repaint (d : Display) (c : Nat) (v : Cell) : (d.setCell c v).repaint = d.repaint := rfl
@[simp] theorem Display.setCell_highlights (d : Display) (c : Nat) (v : Cell) : (d.setCell c v).highlights = d.highlights := rfl
@[simp] theorem Display.setCell_links (d : Display) (c : Nat) (v : Cell) : (d.setCell c v).links = d.links := rfl
@[simp] theorem Display.setPanel_cells (d : Display) (n : Nat) (v : Panel) : (d.setPanel n v).cells = d.cells := rfl
@[simp] theorem Display.setPanel_deviceHead (d : Display) (n : Nat) (v : Panel) : (d.setPanel n v).deviceHead = d.deviceHead := rfl
@[simp] theorem Display.setPanel_repaint (d : Display) (n : Nat) (v : Panel) : (d.setPanel n v).repaint = d.repaint := rfl
@[simp] theorem Display.setPanel_highlights (d : Display) (n : Nat) (v : Panel) : (d.setPanel n v).highlights = d.highlights := rfl
@[simp] theorem Display.setPanel_links (d : Display) (n : Nat) (v : Panel) : (d.setPanel n v).links = d.links := rfl
@[simp] theorem Display.setLink_panels (d : Display) (l : Nat) (v : Link) : (d.setLink l v).panels = d.panels := rfl
@[simp] theorem Display.setLink_cells (d : Display) (l : Nat) (v : Link) : (d.setLink l v).cells = d.cells := rfl
@[simp] theorem Display.setLink_deviceHead (d : Display) (l : Nat) (v : Link) : (d.setLink l v).deviceHead = d.deviceHead := rfl
@[simp] theorem Display.setLink_repaint (d : Display) (l : Nat) (v : Link) : (d.setLink l v).repaint = d.repaint := rfl
@[simp] theorem Display.setLink_highlights (d : Display) (l : Nat) (v : Link) : (d.setLink l v).highlights = d.highlights := rfl
@[simp] theorem Display.setQueue_panels (d : Display) (l : Nat) (q : List Nat) : (d.setQueue l q).panels = d.panels := rfl
@[simp] theorem Display.setQueue_cells (d : Display) (l : Nat) (q : List Nat) : (d.setQueue l q).cells = d.cells := rfl
@[simp] theorem Display.setQueue_deviceHead (d : Display) (l : Nat) (q : List Nat) : (d.setQueue l q).deviceHead = d.deviceHead := rfl
@[simp] theorem Display.setQueue_highlights (d : Display) (l : Nat) (q : List Nat) : (d.setQueue l q).highlights = d.highlights := rfl
@[simp] theorem Display.setQueue_links (d : Display) (l : Nat) (q : List Nat) : (d.setQueue l q).links = d.links := rfl

@[simp] theorem Display.cell_setPanel (d : Display) (n : Nat) (v : Panel) (c : Nat) : (d.setPanel n v).cell c = d.cell c := rfl
@[simp] theorem Display.cell_setLink (d : Display) (l : Nat) (v : Link) (c : Nat) : (d.setLink l v).cell c = d.cell c := rfl
@[simp] theorem Display.cell_setQueue (d : Display) (l : Nat) (q : List Nat) (c : Nat) : (d.setQueue l q).cell c = d.cell c := rfl
@[simp] theorem Display.panel_setCell (d : Display) (c : Nat) (v : Cell) (n : Nat) : (d.setCell c v).panel n = d.panel n := rfl
@[simp] theorem Display.panel_setLink (d : Display) (l : Nat) (v : Link) (n : Nat) : (d.setLink l v).panel n = d.panel n := rfl
@[simp] theorem Display.panel_setQueue (d : Display) (l : Nat) (q : List Nat) (n : Nat) : (d.setQueue l q).panel n = d.panel n := rfl
@[simp] theorem Display.panelOf_setCell (d : Display) (c : Nat) (v : Cell) (x : Nat) : (d.setCell c v).panelOf x = d.panelOf x := rfl
@[simp] theorem Display.panelOf_setLink (d : Display) (l : Nat) (v : Link) (x : Nat) : (d.setLink l v).panelOf x = d.panelOf x := rfl
@[simp] theorem Display.panelOf_setQueue (d : Display) (l : Nat) (q : List Nat) (x : Nat) : (d.setQueue l q).panelOf x = d.panelOf x := rfl
@[simp] theorem Display.linkOf_setCell (d : Display) (c : Nat) (v : Cell) (x : Nat) : (d.setCell c v).linkOf x = d.linkOf x := rfl
@[simp] theorem Display.linkOf_setLink (d : Display) (l : Nat) (v : Link) (x : Nat) : (d.setLink l v).linkOf x = d.linkOf x := rfl
@[simp] theorem Display.linkOf_setQueue (d : Display) (l : Nat) (q : List Nat) (x : Nat) : (d.setQueue l q).linkOf x = d.linkOf x := rfl
@[simp] theorem Display.link_setCell (d : Display) (c : Nat) (v : Cell) (l : Nat) : (d.setCell c v).link l = d.link l := rfl
@[simp] theorem Display.link_setPanel (d : Display) (n : Nat) (v : Panel) (l : Nat) : (d.setPanel n v).link l = d.link l := rfl
@[simp] theorem Display.link_setQueue (d : Display) (l : Nat) (q : List Nat) (k : Nat) : (d.setQueue l q).link k = d.link k := rfl
@[simp] theorem Display.queue_setCell (d : Display) (c : Nat) (v : Cell) (l : Nat) : (d.setCell c v).queue l = d.queue l := rfl
@[simp] theorem Display.queue_setPanel (d : Display) (n : Nat) (v : Panel) (l : Nat) : (d.setPanel n v).queue l = d.queue l := rfl
@[simp] theorem Display.queue_setLink (d : Display) (l : Nat) (v : Link) (k : Nat) : (d.setLink l v).queue k = d.queue k := rfl

/-! ### What the work on cells and messages leaves -/

/-- The panels, the head of the device binding list, the modules' geometry, and of each cell everything but its
queued flag and its highlight expiry stay. -/
structure Display.sameLayout (d d' : Display) : Prop where
  panels : d'.panels = d.panels
  head : d'.deviceHead = d.deviceHead
  cells : ∀ c, ∃ q e, d'.cell c = { d.cell c with queued := q, expiry := e }
  vacant : ∀ c, d.cell c = Cell.vacant → d'.cell c = Cell.vacant
  modules : d.canonical → ∀ l m, ((d'.link l).module m).rows = ((d.link l).module m).rows ∧
    ((d'.link l).module m).columns = ((d.link l).module m).columns ∧
    (((d.link l).module m).state ≠ .unconfigured → ((d'.link l).module m).state ≠ .unconfigured)
  canonical : d.canonical → d'.canonical

theorem Display.sameLayout.refl (d : Display) : d.sameLayout d :=
  ⟨rfl, rfl, fun c => ⟨(d.cell c).queued, (d.cell c).expiry, rfl⟩, fun _ h => h,
    fun _ _ _ => ⟨rfl, rfl, fun h => h⟩, fun h => h⟩

theorem Display.sameLayout.trans {d e f : Display} (h : d.sameLayout e) (g : e.sameLayout f) : d.sameLayout f := by
  refine ⟨g.panels.trans h.panels, g.head.trans h.head, fun c => ?_, fun c x => g.vacant c (h.vacant c x),
    fun w l m => ?_, fun w => g.canonical (h.canonical w)⟩
  · obtain ⟨q, x, h1⟩ := h.cells c
    obtain ⟨q', x', h2⟩ := g.cells c
    exact ⟨q', x', by rw [h2, h1]⟩
  · obtain ⟨a, b, c⟩ := h.modules w l m
    obtain ⟨a', b', c'⟩ := g.modules (h.canonical w) l m
    exact ⟨a'.trans a, b'.trans b, fun x => c' (c x)⟩

theorem Display.sameLayout.foldl {α : Type} (f : Display → α → Display)
    (hf : ∀ (d : Display) (a : α), d.sameLayout (f d a))
    (l : List α) (d : Display) : d.sameLayout (l.foldl f d) := by
  induction l generalizing d with
  | nil => exact .refl d
  | cons a l ih => exact (hf d a).trans (ih (f d a))

theorem Display.canonical.setCell {d : Display} (h : d.canonical) (c : Nat) (v : Cell) : (d.setCell c v).canonical :=
  ⟨Table.wf_put _ _ _ h.cells, h.panels, h.modules⟩

theorem Display.canonical.setQueue {d : Display} (h : d.canonical) (l : Nat) (q : List Nat) :
    (d.setQueue l q).canonical := ⟨h.cells, h.panels, h.modules⟩

theorem Display.canonical.setPanel {d : Display} (h : d.canonical) (n : Nat) (v : Panel) :
    (d.setPanel n v).canonical := ⟨h.cells, Table.wf_put _ _ _ h.panels, h.modules⟩

theorem Display.canonical.setLink {d : Display} (h : d.canonical) (l : Nat) {v : Link}
    (hv : Table.wf Module.reset v.modules = true) : (d.setLink l v).canonical := by
  refine ⟨h.cells, h.panels, fun e he => ?_⟩
  rcases Table.mem_put he with h' | h'
  · rw [h']; exact hv
  · exact h.modules e h'

theorem Display.canonical.link {d : Display} (h : d.canonical) (l : Nat) :
    Table.wf Module.reset (d.link l).modules = true := by
  rcases Table.get_mem Link.reset d.links l with h' | h'
  · show Table.wf Module.reset (Table.get Link.reset d.links l).modules = true
    rw [h']; rfl
  · exact h.modules _ h'

/-- A cell that keeps all but its queued flag and its expiry is written. -/
theorem Display.sameLayout.setCell (d : Display) (c : Nat) (q : Bool) (e : Option Time)
    (h : d.cell c = Cell.vacant → q = false ∧ e = none) :
    d.sameLayout (d.setCell c { d.cell c with queued := q, expiry := e }) := by
  refine ⟨rfl, rfl, fun x => ?_, fun x hx => ?_, fun _ _ _ => ⟨rfl, rfl, fun h => h⟩, fun w => w.setCell _ _⟩
  · rw [Display.cell_setCell]
    split
    · subst x; exact ⟨q, e, rfl⟩
    · exact ⟨(d.cell x).queued, (d.cell x).expiry, rfl⟩
  · rw [Display.cell_setCell]
    split
    · subst x
      obtain ⟨h1, h2⟩ := h hx
      rw [hx, h1, h2]; rfl
    · exact hx

theorem Display.sameLayout.setQueue (d : Display) (l : Nat) (q : List Nat) : d.sameLayout (d.setQueue l q) :=
  ⟨rfl, rfl, fun c => ⟨(d.cell c).queued, (d.cell c).expiry, rfl⟩, fun _ h => h,
    fun _ _ _ => ⟨rfl, rfl, fun h => h⟩, fun w => w.setQueue _ _⟩

theorem Display.sameLayout.withHighlights (d : Display) (l : List Nat) :
    d.sameLayout { d with highlights := l } :=
  ⟨rfl, rfl, fun c => ⟨(d.cell c).queued, (d.cell c).expiry, rfl⟩, fun _ h => h,
    fun _ _ _ => ⟨rfl, rfl, fun h => h⟩, fun w => ⟨w.cells, w.panels, w.modules⟩⟩

/-- A link record is written whose modules keep their geometry. -/
theorem Display.sameLayout.setLink (d : Display) (l : Nat) (v : Link)
    (hw : Table.wf Module.reset (d.link l).modules = true → Table.wf Module.reset v.modules = true)
    (h : Table.wf Module.reset (d.link l).modules = true → ∀ m, (v.module m).rows = ((d.link l).module m).rows ∧
      (v.module m).columns = ((d.link l).module m).columns ∧
      (((d.link l).module m).state ≠ .unconfigured → (v.module m).state ≠ .unconfigured)) :
    d.sameLayout (d.setLink l v) := by
  refine ⟨rfl, rfl, fun c => ⟨(d.cell c).queued, (d.cell c).expiry, rfl⟩, fun _ h => h, fun w k m => ?_,
    fun w => w.setLink l (hw (w.link l))⟩
  by_cases hk : k = l
  · subst k; rw [Display.link_setLink_self]; exact h (w.link l) m
  · rw [Display.link_setLink_ne _ _ hk]; exact ⟨rfl, rfl, fun h => h⟩

/-- A link record is written with one module entry changed, whose geometry stays. -/
theorem Display.sameLayout.setModule (d : Display) (l m : Nat) (e : Module) (v : Link)
    (hv : v.modules = ((d.link l).setModule m e).modules) (hr : e.rows = ((d.link l).module m).rows)
    (hc : e.columns = ((d.link l).module m).columns)
    (hs : ((d.link l).module m).state ≠ .unconfigured → e.state ≠ .unconfigured) :
    d.sameLayout (d.setLink l v) := by
  have key : ∀ x, v.module x = ((d.link l).setModule m e).module x := fun x => by
    show Table.get Module.reset v.modules x = _
    rw [hv]; rfl
  refine Display.sameLayout.setLink d l v (fun w => ?_) (fun _ x => ?_)
  · rw [hv]; exact Table.wf_put _ _ _ w
  · rw [key]
    by_cases hx : x = m
    · subst x; rw [Link.module_setModule_self]; exact ⟨hr, hc, hs⟩
    · rw [Link.module_setModule_ne _ _ hx]; exact ⟨rfl, rfl, fun h => h⟩

theorem Display.sameLayout.sameModules (d : Display) (l : Nat) (v : Link) (hv : v.modules = (d.link l).modules) :
    d.sameLayout (d.setLink l v) := by
  refine Display.sameLayout.setLink d l v (fun w => by rw [hv]; exact w) (fun _ x => ?_)
  have : v.module x = (d.link l).module x := by
    show Table.get Module.reset v.modules x = _
    rw [hv]; rfl
  rw [this]; exact ⟨rfl, rfl, fun h => h⟩

/-- A link record is written with every module entry changed by `f`, which keeps the geometry. -/
theorem Display.sameLayout.mapModules (d : Display) (l : Nat) (v : Link) (f : Module → Module)
    (hv : v.modules = Table.mapValues Module.reset f (d.link l).modules) (h0 : f Module.reset = Module.reset)
    (h : ∀ e, (f e).rows = e.rows ∧ (f e).columns = e.columns ∧
      (e.state ≠ .unconfigured → (f e).state ≠ .unconfigured)) :
    d.sameLayout (d.setLink l v) := by
  refine Display.sameLayout.setLink d l v (fun w => by rw [hv]; exact Table.wf_mapValues _ _ w) (fun w x => ?_)
  have : v.module x = f ((d.link l).module x) := by
    show Table.get Module.reset v.modules x = _
    rw [hv, Table.get_mapValues _ _ h0 w]; rfl
  rw [this]; exact h _

theorem Display.bound_of_paintable {d : Display} {c : Nat} (h : d.paintable c = true) : (d.cell c).bound = true := by
  unfold Display.paintable at h
  split at h
  · cases h
  · simp only [Bool.and_eq_true] at h; exact h.1.1

theorem Display.not_vacant_of_bound {d : Display} {c : Nat} (h : (d.cell c).bound = true) :
    d.cell c ≠ Cell.vacant := fun h' => by rw [h'] at h; cases h

theorem Display.enqueue_layout (d : Display) (c : Nat) : d.sameLayout (d.enqueue c) := by
  unfold Display.enqueue
  split
  · exact .refl d
  · split
    · rename_i h
      rw [Bool.and_eq_true] at h
      refine (Display.sameLayout.setCell d c true (d.cell c).expiry fun h' => ?_).trans (.setQueue _ _ _)
      exact absurd h' (Display.not_vacant_of_bound (Display.bound_of_paintable h.1))
    · exact .refl d

theorem Display.enqueueAll_layout (d : Display) (cs : List Nat) : d.sameLayout (d.enqueueAll cs) :=
  .foldl (fun d c => d.enqueue c) Display.enqueue_layout cs d

theorem Display.unhighlight_layout (d : Display) (c : Nat) : d.sameLayout (d.unhighlight c) :=
  (Display.sameLayout.setCell d c (d.cell c).queued none fun h => by rw [h]; exact ⟨rfl, rfl⟩).trans
    (.withHighlights _ _)

theorem Display.highlight_layout {d : Display} {c : Nat} (t : Time) (h : (d.cell c).bound = true) :
    d.sameLayout (d.highlight t c) :=
  (Display.sameLayout.setCell d c (d.cell c).queued (some t) fun h' =>
    absurd h' (Display.not_vacant_of_bound h)).trans (.withHighlights _ _)

theorem Display.sameLayout.bound {d d' : Display} (h : d.sameLayout d') (c : Nat) :
    (d'.cell c).bound = (d.cell c).bound := by
  obtain ⟨q, e, h⟩ := h.cells c
  rw [h]

theorem Display.showChange_layout (fields : List Field) (expiry : Option Time) (d : Display) (c : Nat) :
    d.sameLayout (d.showChange fields expiry c) := by
  unfold Display.showChange
  split
  · exact .refl d
  · split
    · rename_i h
      split
      · split
        · exact (d.enqueue_layout c).trans (Display.highlight_layout _
            (((d.enqueue_layout c).bound c).trans (Display.bound_of_paintable h)))
        · exact d.enqueue_layout c
      · exact d.enqueue_layout c
    · exact .refl d

theorem Display.handoff_layout (head : Option Nat) (fields : List Field) (expiry : Option Time) (d : Display) :
    d.sameLayout (d.handoff head fields expiry) :=
  .foldl _ (fun d c => d.showChange_layout fields expiry c) _ d

theorem Display.expire_layout (now : Time) (d : Display) : d.sameLayout (d.expire now) := by
  unfold Display.expire
  split
  · exact .refl d
  · rename_i c _
    exact (d.unhighlight_layout c).trans (Display.enqueue_layout _ c)

/-- Queued flags are cleared one after another. -/
theorem Display.clearQueued_layout (cs : List Nat) (d : Display) :
    d.sameLayout (cs.foldl (fun d c => d.setCell c { d.cell c with queued := false }) d) :=
  .foldl _ (fun d c => Display.sameLayout.setCell d c false (d.cell c).expiry fun h => by rw [h]; exact ⟨rfl, rfl⟩) cs d

theorem Display.moduleDrop_layout (l m : Nat) (d : Display) : d.sameLayout (d.moduleDrop l m) :=
  (d.clearQueued_layout _).trans (.setQueue _ _ _)

theorem Display.send_layout (l m : Nat) (x : Message) (purpose : Purpose) (d : Display) :
    d.sameLayout (d.send l m x purpose) := by
  unfold Display.send
  refine Display.sameLayout.setModule d l m _ _ rfl ?_ ?_ ?_ <;> cases purpose <;> first | rfl | exact fun h => h

theorem Display.takeHead_layout {l c : Nat} {d d' : Display} (h : d.takeHead l = some (c, d')) : d.sameLayout d' := by
  unfold Display.takeHead at h
  split at h
  · cases h
  · cases h
    exact (Display.sameLayout.setCell d c false (d.cell c).expiry fun h => by rw [h]; exact ⟨rfl, rfl⟩).trans
      (.setQueue _ _ _)

theorem Display.sendCell_layout (render : Renderer) (l : Nat) (d : Display) : d.sameLayout (d.sendCell render l) := by
  unfold Display.sendCell
  split
  · split
    · exact .refl d
    · rename_i h
      exact (Display.takeHead_layout h).trans (Display.send_layout _ _ _ _ _)
  · exact .refl d

theorem Display.arbitrate_layout (render : Renderer) (now : Time) (probe l : Nat) (d : Display) :
    d.sameLayout (d.arbitrate render now probe l) := by
  unfold Display.arbitrate
  dsimp only
  split
  · split
    · exact d.send_layout _ _ _ _
    · split
      · exact d.send_layout _ _ _ _
      · split
        · exact d.send_layout _ _ _ _
        · exact d.sendCell_layout _ _
  · exact .refl d

theorem Display.wake_layout (render : Renderer) (now : Time) (probe : Nat) (was d : Display) :
    d.sameLayout (Display.wake render now probe was d) :=
  .foldl (fun d' l =>
    if (was.queue l).isEmpty && !(d.queue l).isEmpty then d'.arbitrate render now probe l else d') (fun d' l => by
      split
      · exact d'.arbitrate_layout _ _ _ _
      · exact .refl d') _ d

/-- What taking the handoffs first leaves of the display: an operation that keeps the layout. -/
theorem State.handoffsFirst_layout (ls : List Nat) (s : State) :
    s.display.sameLayout (s.handoffsFirst ls).display := by
  obtain ⟨-, h⟩ | ⟨-, h⟩ := s.handoffsFirst_cases ls <;> rw [h]
  · exact .refl _
  · exact .foldl s.takeChange (fun d b => d.handoff_layout _ _ _) _ _

theorem State.onBoard_layout (f : Display → Display) (s : State) : (f s.display).sameLayout (s.onBoard f).display :=
  (State.handoffsFirst_layout _ { s with display := f s.display }).trans (Display.wake_layout _ _ _ _ _)

theorem State.onLink_layout (l : Nat) (f : Display → Display) (s : State) :
    (f s.display).sameLayout (s.onLink l f).display :=
  (State.handoffsFirst_layout [l] { s with display := f s.display }).trans
    ((Display.wake_layout _ _ _ _ _).trans (Display.arbitrate_layout _ _ _ _ _))

theorem Display.release_layout (l : Nat) (d : Display) : d.sameLayout (d.release l) := .sameModules d l _ rfl

theorem Display.linkSweep_layout (l : Nat) (d : Display) : d.sameLayout (d.linkSweep l) := d.enqueueAll_layout _

theorem Display.moduleSweep_layout (l m : Nat) (d : Display) : d.sameLayout (d.moduleSweep l m) :=
  d.enqueueAll_layout _

theorem Display.endSettling_layout (l : Nat) (d : Display) : d.sameLayout (d.endSettling l) := by
  unfold Display.endSettling
  split
  · exact (Display.sameLayout.sameModules d l { d.link l with state := .running } rfl).trans
      (Display.linkSweep_layout l _)
  · exact .refl d

theorem Display.takeDown_layout (l m : Nat) (d : Display) : d.sameLayout (d.takeDown l m) :=
  (Display.sameLayout.setModule d l m { (d.link l).module m with state := .down, owed := .nothing } _ rfl rfl rfl
    fun _ h => by cases h).trans (Display.moduleDrop_layout _ _ _)

/-- A module becomes UP. -/
theorem Display.setUp_layout (l m : Nat) (o : Owed) (d : Display) :
    d.sameLayout (d.setLink l ((d.link l).setModule m { (d.link l).module m with state := .up, owed := o })) :=
  Display.sameLayout.setModule d l m { (d.link l).module m with state := .up, owed := o } _ rfl rfl rfl
    fun _ h => by cases h

theorem Display.acknowledged_layout (l : Nat) (x : Sent) (d : Display) : d.sameLayout (d.acknowledged l x) := by
  obtain ⟨a, m, purpose, up⟩ := x
  cases purpose with
  | write => exact d.release_layout l
  | keepAlive => exact d.release_layout l
  | owedBlank => exact d.release_layout l
  | owedPattern => exact d.release_layout l
  | settleBlank =>
    exact ((d.release_layout l).trans (Display.setUp_layout l a _ _)).trans (Display.endSettling_layout _ _)
  | probe =>
    exact ((d.release_layout l).trans (Display.setUp_layout l a _ _)).trans (Display.moduleSweep_layout _ _ _)

theorem Display.timedOut_layout (l : Nat) (x : Sent) (d : Display) : d.sameLayout (d.timedOut l x) := by
  obtain ⟨a, m, purpose, up⟩ := x
  cases purpose with
  | settleBlank => exact (d.release_layout l).trans (Display.endSettling_layout _ _)
  | probe =>
    cases up with
    | true => exact (d.release_layout l).trans (Display.takeDown_layout _ _ _)
    | false => exact d.release_layout l
  | write => exact (d.release_layout l).trans (Display.takeDown_layout _ _ _)
  | keepAlive => exact (d.release_layout l).trans (Display.takeDown_layout _ _ _)
  | owedBlank => exact (d.release_layout l).trans (Display.takeDown_layout _ _ _)
  | owedPattern => exact (d.release_layout l).trans (Display.takeDown_layout _ _ _)

theorem Link.owe_layout (d : Display) (l : Nat) (p : Module → Bool) (o : Owed) (x : LinkState)
    (h0 : p Module.reset = false) : d.sameLayout (d.setLink l (Link.owe p o { d.link l with state := x })) := by
  refine Display.sameLayout.mapModules d l _ (fun e => if p e then { e with owed := o } else e) rfl ?_ fun e => ?_
  · simp [h0]
  · split <;> exact ⟨rfl, rfl, fun h => h⟩

theorem Display.settleEnd_layout (l : Nat) (d : Display) : d.sameLayout (d.settleEnd l) :=
  (Link.owe_layout d l _ _ _ rfl).trans (Display.endSettling_layout _ _)

theorem Display.stopTest_layout (l : Nat) (d : Display) : d.sameLayout (d.stopTest l) :=
  (Link.owe_layout d l _ _ _ rfl).trans (Display.linkSweep_layout _ _)

theorem Display.mapLinks_layout (f : Link → Link) (hf : ∀ d l, Display.sameLayout d (d.setLink l (f (d.link l))))
    (d : Display) : d.sameLayout (d.mapLinks f) := .foldl _ hf _ d

theorem Display.quiet_layout (d : Display) (h : d.canonical) : d.sameLayout d.quiet := by
  have key : ∀ c, d.quiet.cell c = { d.cell c with queued := false, expiry := none } := fun c =>
    Table.get_mapValues Cell.vacant (fun c => { c with queued := false, expiry := none }) rfl h.cells c
  refine ⟨rfl, rfl, fun c => ⟨_, _, key c⟩, fun c hc => by rw [key, hc]; rfl,
    fun _ _ _ => ⟨rfl, rfl, fun h => h⟩, fun w =>
      ⟨Table.wf_mapValues Cell.vacant (fun c => { c with queued := false, expiry := none }) w.cells, w.panels,
        w.modules⟩⟩

/-! ### The repaint queues -/

theorem Display.paintable_iff (d : Display) (c : Nat) : d.paintable c = true ↔
    ∃ p, d.panelOf c = some p ∧ (d.cell c).bound = true ∧ (d.link p.link).state ≠ .off ∧
      ((d.link p.link).module (d.cell c).address).state = .up := by
  unfold Display.paintable
  split
  · rename_i h; simp [h]
  · rename_i p h; simp [h, Link.isOff, Module.isUp, and_assoc]

theorem Display.sameLayout.panelOf {d d' : Display} (h : d.sameLayout d') (c : Nat) : d'.panelOf c = d.panelOf c := by
  unfold Display.panelOf; rw [h.panels]

theorem Display.sameLayout.linkOf {d d' : Display} (h : d.sameLayout d') (c : Nat) : d'.linkOf c = d.linkOf c := by
  unfold Display.linkOf; rw [h.panelOf]

theorem Display.sameLayout.address {d d' : Display} (h : d.sameLayout d') (c : Nat) :
    (d'.cell c).address = (d.cell c).address := by
  obtain ⟨q, e, h⟩ := h.cells c
  rw [h]

theorem Display.linkOf_of_panelOf {d : Display} {c : Nat} {p : Panel} (h : d.panelOf c = some p) :
    d.linkOf c = some p.link := by simp [Display.linkOf, h]

theorem Display.not_paintable_of_panelOf {d : Display} {c : Nat} (h : d.panelOf c = none) : d.paintable c = false := by
  simp [Display.paintable, h]

/-- No link has gone OFF and no module has ceased to be UP. -/
def Display.noDarker (d d' : Display) : Prop :=
  (∀ l, (d'.link l).state = .off → (d.link l).state = .off) ∧
    ∀ l m, ((d.link l).module m).state = .up → ((d'.link l).module m).state = .up

theorem Display.noDarker.of_links {d d' : Display} (h : d'.links = d.links) : d.noDarker d' := by
  have : ∀ l, d'.link l = d.link l := fun l => by unfold Display.link; rw [h]
  exact ⟨fun l => by rw [this]; exact id, fun l m => by rw [this]; exact id⟩

theorem Display.paintable_mono {d d' : Display} (hl : d.sameLayout d') (hn : d.noDarker d') {c : Nat}
    (h : d.paintable c = true) : d'.paintable c = true := by
  obtain ⟨p, h1, h2, h3, h4⟩ := (Display.paintable_iff d c).1 h
  refine (Display.paintable_iff d' c).2 ⟨p, (hl.panelOf c).trans h1, (hl.bound c).trans h2, fun h => h3 (hn.1 _ h), ?_⟩
  rw [hl.address]; exact hn.2 _ _ h4

theorem Display.paintable_eq {d d' : Display} (hl : d.sameLayout d') (h : d'.links = d.links) (c : Nat) :
    d'.paintable c = d.paintable c := by
  have hk : ∀ l, d'.link l = d.link l := fun l => by unfold Display.link; rw [h]
  simp only [Display.paintable, hl.panelOf, hl.bound, hl.address, hk]

/-- Where queues and queued flags stay and no cell ceases to be paintable, the queues keep their form. -/
theorem Display.queuesKept.mono {d d' : Display} (h : d.queuesKept) (hl : d.sameLayout d') (hn : d.noDarker d')
    (hq : d'.repaint = d.repaint) (hf : ∀ c, (d'.cell c).queued = (d.cell c).queued) : d'.queuesKept := by
  have hq' : ∀ l, d'.queue l = d.queue l := fun l => by unfold Display.queue; rw [hq]
  exact ⟨fun l => by rw [hq']; exact h.once l, fun c l => by rw [hq', hf, hl.linkOf]; exact h.queued c l,
    fun c hc => Display.paintable_mono hl hn (h.paintable c (by rw [← hf]; exact hc))⟩

theorem Display.queuesKept.mem {d : Display} (h : d.queuesKept) {c l : Nat} (hc : c ∈ d.queue l) :
    d.linkOf c = some l := ((h.queued c l).1 hc).2

theorem Display.queuesKept.enqueue {d : Display} (h : d.queuesKept) (c : Nat) : (d.enqueue c).queuesKept := by
  have hl := d.enqueue_layout c
  unfold Display.enqueue at hl ⊢
  split at hl
  · rename_i hp; simpa [hp] using h
  · rename_i p hp
    simp only at hl ⊢
    split at hl
    · rename_i hc
      simp only [hc, if_true] at hl ⊢
      rw [Bool.and_eq_true, Bool.not_eq_true'] at hc
      have hn : c ∉ d.queue p.link := fun h' => by simp [((h.queued c _).1 h').1] at hc
      have hpaint : ∀ x, ((d.setCell c { d.cell c with queued := true }).setQueue p.link
          (d.queue p.link ++ [c])).paintable x = d.paintable x := Display.paintable_eq hl rfl
      refine ⟨fun l => ?_, fun x l => ?_, fun x hx => ?_⟩
      · by_cases hk : l = p.link
        · subst hk
          rw [Display.queue_setQueue_self]
          exact List.nodup_append.2 ⟨h.once _, by simp, fun a ha b hb => by
            rw [List.mem_singleton.1 hb]; exact fun h' => hn (h' ▸ ha)⟩
        · rw [Display.queue_setQueue_ne _ _ hk]; exact h.once l
      · rw [Display.cell_setQueue, Display.cell_setCell, Display.linkOf_setQueue, Display.linkOf_setCell]
        have hlink := Display.linkOf_of_panelOf hp
        by_cases hk : l = p.link
        · subst hk
          rw [Display.queue_setQueue_self, List.mem_append, List.mem_singleton]
          by_cases hx : x = c
          · subst hx; simp [hlink]
          · simp only [hx, or_false, if_false]; exact h.queued x _
        · rw [Display.queue_setQueue_ne _ _ hk]
          by_cases hx : x = c
          · subst hx
            simp only [if_true, hlink, Option.some.injEq, true_and]
            constructor
            · intro h'
              have := h.mem h'
              rw [hlink, Option.some.injEq] at this
              exact this
            · intro h'; exact absurd h'.symm hk
          · rw [if_neg hx]; exact h.queued x l
      · rw [hpaint]
        rw [Display.cell_setQueue, Display.cell_setCell] at hx
        by_cases hxc : x = c
        · subst hxc; exact hc.1
        · rw [if_neg hxc] at hx; exact h.paintable x hx
    · rename_i hc
      simpa [hc] using h

theorem Display.queuesKept.enqueueAll {d : Display} (h : d.queuesKept) (cs : List Nat) :
    (d.enqueueAll cs).queuesKept := by
  unfold Display.enqueueAll
  induction cs generalizing d with
  | nil => exact h
  | cons c cs ih => exact ih (h.enqueue c)

theorem Display.queuesKept.unhighlight {d : Display} (h : d.queuesKept) (c : Nat) : (d.unhighlight c).queuesKept :=
  h.mono (d.unhighlight_layout c) (.of_links rfl) rfl fun x => by
    show ((d.setCell c { d.cell c with expiry := none }).cell x).queued = _
    rw [Display.cell_setCell]; split <;> rename_i hx
    · rw [hx]
    · rfl

theorem Display.queuesKept.highlight {d : Display} (h : d.queuesKept) {c : Nat} (t : Time)
    (hb : (d.cell c).bound = true) : (d.highlight t c).queuesKept :=
  h.mono (Display.highlight_layout t hb) (.of_links rfl) rfl fun x => by
    show ((d.setCell c { d.cell c with expiry := some t }).cell x).queued = _
    rw [Display.cell_setCell]; split <;> rename_i hx
    · rw [hx]
    · rfl

/-! ### The highlight list -/

theorem Display.highlightsKept.same {d d' : Display} (h : d.highlightsKept) (hl : d'.highlights = d.highlights)
    (he : ∀ c, (d'.cell c).expiry = (d.cell c).expiry) : d'.highlightsKept := by
  refine ⟨by rw [hl]; exact h.1, fun c => by rw [hl, he]; exact h.2 c⟩

theorem Display.enqueue_highlights (d : Display) (c : Nat) : (d.enqueue c).highlights = d.highlights := by
  unfold Display.enqueue
  split
  · rfl
  · split <;> rfl

theorem Display.enqueue_links (d : Display) (c : Nat) : (d.enqueue c).links = d.links := by
  unfold Display.enqueue
  split
  · rfl
  · split <;> rfl

theorem Display.enqueue_expiry (d : Display) (c x : Nat) : ((d.enqueue c).cell x).expiry = (d.cell x).expiry := by
  unfold Display.enqueue
  split
  · rfl
  · split
    · rw [Display.cell_setQueue, Display.cell_setCell]; split <;> rename_i hx
      · rw [hx]
      · rfl
    · rfl

theorem Display.highlightsKept.enqueue {d : Display} (h : d.highlightsKept) (c : Nat) : (d.enqueue c).highlightsKept :=
  h.same (d.enqueue_highlights c) (d.enqueue_expiry c)

theorem Display.highlightsKept.enqueueAll {d : Display} (h : d.highlightsKept) (cs : List Nat) :
    (d.enqueueAll cs).highlightsKept := by
  unfold Display.enqueueAll
  induction cs generalizing d with
  | nil => exact h
  | cons c cs ih => exact ih (h.enqueue c)

@[simp] theorem mem_setErase (n m : Nat) (l : List Nat) : m ∈ setErase n l ↔ m ∈ l ∧ m ≠ n := by simp [setErase]

theorem setErase_nodup (n : Nat) {l : List Nat} (h : l.Nodup) : (setErase n l).Nodup := h.filter _

theorem Display.highlightsKept.unhighlight {d : Display} (h : d.highlightsKept) (c : Nat) :
    (d.unhighlight c).highlightsKept := by
  refine ⟨setErase_nodup c h.1, fun x => ?_⟩
  show x ∈ setErase c d.highlights ↔ ((d.setCell c { d.cell c with expiry := none }).cell x).expiry.isSome = true
  rw [mem_setErase, Display.cell_setCell, h.2]
  by_cases hx : x = c <;> simp [hx]

theorem Display.highlightsKept.highlight {d : Display} (h : d.highlightsKept) (t : Time) (c : Nat) :
    (d.highlight t c).highlightsKept := by
  refine ⟨?_, fun x => ?_⟩
  · exact List.nodup_append.2 ⟨setErase_nodup c h.1, by simp, fun a ha b hb => by
      rw [List.mem_singleton.1 hb]; exact ((mem_setErase _ _ _).1 ha).2⟩
  · show x ∈ setErase c d.highlights ++ [c] ↔
      ((d.setCell c { d.cell c with expiry := some t }).cell x).expiry.isSome = true
    rw [List.mem_append, List.mem_singleton, mem_setErase, Display.cell_setCell, h.2]
    by_cases hx : x = c <;> simp [hx]

/-! ### The invariants of the board, operation by operation -/

/-- The panels, the cells, the repaint queues and the highlight list keep their form. -/
structure Display.kept (d : Display) : Prop where
  tables : d.canonical
  panels : d.panelsKept
  cells : d.cellsKept
  queues : d.queuesKept
  highlights : d.highlightsKept

theorem Display.panelsKept.same {d d' : Display} (h : d.panelsKept) (hp : d'.panels = d.panels) : d'.panelsKept := by
  have : ∀ n, d'.panel n = d.panel n := fun n => by unfold Display.panel; rw [hp]
  exact ⟨fun n => by rw [this]; exact h.range n, fun n m c => by rw [this, this]; exact h.apart n m c⟩

theorem Display.cellsKept.same {d d' : Display} (h : d.cellsKept) (w : d.canonical) (hl : d.sameLayout d') :
    d'.cellsKept := by
  have fields : ∀ c, (d'.cell c).bound = (d.cell c).bound ∧ (d'.cell c).address = (d.cell c).address ∧
      (d'.cell c).row = (d.cell c).row ∧ (d'.cell c).column = (d.cell c).column ∧
      (d'.cell c).width = (d.cell c).width := fun c => by
    obtain ⟨q, e, h⟩ := hl.cells c
    rw [h]; exact ⟨rfl, rfl, rfl, rfl, rfl⟩
  refine ⟨fun c hc => hl.vacant c (h.vacant c ((hl.bound c).symm.trans hc)), fun c hc => ?_, fun b c hbc hb hc => ?_⟩
  · obtain ⟨h1, p, h2, h3, h4, h5⟩ := h.placed c ((hl.bound c).symm.trans hc)
    obtain ⟨f1, f2, f3, f4, f5⟩ := fields c
    obtain ⟨g1, g2, g3⟩ := hl.modules w p.link (d.cell c).address
    refine ⟨h1, p, (hl.panelOf c).trans h2, ?_⟩
    dsimp only
    rw [f2, f3, f4, f5, g1, g2]
    exact ⟨g3 h3, h4, h5⟩
  · obtain ⟨-, b2, b3, b4, b5⟩ := fields b
    obtain ⟨-, c2, c3, c4, c5⟩ := fields c
    rw [hl.linkOf, hl.linkOf, b2, b3, b4, b5, c2, c3, c4, c5]
    exact h.apart b c hbc ((hl.bound b).symm.trans hb) ((hl.bound c).symm.trans hc)

/-- Where the layout stays, the queues and the highlight list are all there is to show. -/
theorem Display.kept.of {d d' : Display} (h : d.kept) (hl : d.sameLayout d') (hq : d'.queuesKept)
    (hh : d'.highlightsKept) : d'.kept :=
  ⟨hl.canonical h.tables, h.panels.same hl.panels, h.cells.same h.tables hl, hq, hh⟩

theorem Display.kept.enqueue {d : Display} (h : d.kept) (c : Nat) : (d.enqueue c).kept :=
  h.of (d.enqueue_layout c) (h.queues.enqueue c) (h.highlights.enqueue c)

theorem Display.kept.enqueueAll {d : Display} (h : d.kept) (cs : List Nat) : (d.enqueueAll cs).kept :=
  h.of (d.enqueueAll_layout cs) (h.queues.enqueueAll cs) (h.highlights.enqueueAll cs)

theorem Display.kept.unhighlight {d : Display} (h : d.kept) (c : Nat) : (d.unhighlight c).kept :=
  h.of (d.unhighlight_layout c) (h.queues.unhighlight c) (h.highlights.unhighlight c)

theorem Display.kept.highlight {d : Display} (h : d.kept) (t : Time) {c : Nat} (hb : (d.cell c).bound = true) :
    (d.highlight t c).kept :=
  h.of (Display.highlight_layout t hb) (h.queues.highlight t hb) (h.highlights.highlight t c)

theorem Display.kept.foldl {α : Type} (f : Display → α → Display)
    (hf : ∀ (d : Display) (a : α), d.kept → (f d a).kept) (l : List α) {d : Display} (h : d.kept) :
    (l.foldl f d).kept := by
  induction l generalizing d with
  | nil => exact h
  | cons a l ih => exact ih (hf d a h)

theorem Display.kept.showChange {d : Display} (h : d.kept) (fields : List Field) (expiry : Option Time) (c : Nat) :
    (d.showChange fields expiry c).kept := by
  unfold Display.showChange
  split
  · exact h
  · split
    · rename_i hp
      split
      · split
        · exact (h.enqueue c).highlight _ (((d.enqueue_layout c).bound c).trans (Display.bound_of_paintable hp))
        · exact h.enqueue c
      · exact h.enqueue c
    · exact h

theorem Display.kept.handoff {d : Display} (h : d.kept) (head : Option Nat) (fields : List Field)
    (expiry : Option Time) : (d.handoff head fields expiry).kept :=
  .foldl (fun d c => d.showChange fields expiry c) (fun _ c h => h.showChange fields expiry c) _ h

theorem Display.kept.deviceChange {d : Display} (h : d.kept) (named : CellField → Bool) :
    (d.deviceChange named).kept := h.enqueueAll _

theorem Display.kept.expire {d : Display} (h : d.kept) (now : Time) : (d.expire now).kept := by
  unfold Display.expire
  split
  · exact h
  · exact (h.unhighlight _).enqueue _

theorem Display.kept.linkSweep {d : Display} (h : d.kept) (l : Nat) : (d.linkSweep l).kept := h.enqueueAll _

theorem Display.kept.moduleSweep {d : Display} (h : d.kept) (l m : Nat) : (d.moduleSweep l m).kept := h.enqueueAll _

/-- A link record is written that is not OFF where it was not, and whose modules stay UP. -/
theorem Display.kept.setLink {d : Display} (h : d.kept) (l : Nat) (v : Link) (hl : d.sameLayout (d.setLink l v))
    (ho : v.state = .off → (d.link l).state = .off)
    (hu : ∀ m, ((d.link l).module m).state = .up → (v.module m).state = .up) : (d.setLink l v).kept := by
  refine h.of hl (h.queues.mono hl ⟨fun k hk => ?_, fun k m hk => ?_⟩ rfl fun _ => rfl) (h.highlights.same rfl fun _ => rfl)
  · by_cases e : k = l
    · subst e; rw [Display.link_setLink_self] at hk; exact ho hk
    · rwa [Display.link_setLink_ne _ _ e] at hk
  · by_cases e : k = l
    · subst e; rw [Display.link_setLink_self]; exact hu m hk
    · rwa [Display.link_setLink_ne _ _ e]

theorem Display.kept.sameModules {d : Display} (h : d.kept) (l : Nat) (v : Link) (hv : v.modules = (d.link l).modules)
    (ho : v.state = .off → (d.link l).state = .off) : (d.setLink l v).kept :=
  h.setLink l v (.sameModules d l v hv) ho fun m hm => by
    show (Table.get Module.reset v.modules m).state = .up
    rw [hv]; exact hm

/-- A module entry is written that keeps the geometry and is UP where it was. -/
theorem Display.kept.setModule {d : Display} (h : d.kept) (l m : Nat) (e : Module) (v : Link)
    (hv : v.modules = ((d.link l).setModule m e).modules) (ho : v.state = .off → (d.link l).state = .off)
    (hr : e.rows = ((d.link l).module m).rows) (hc : e.columns = ((d.link l).module m).columns)
    (hs : ((d.link l).module m).state ≠ .unconfigured → e.state ≠ .unconfigured)
    (hu : ((d.link l).module m).state = .up → e.state = .up) : (d.setLink l v).kept :=
  h.setLink l v (.setModule d l m e v hv hr hc hs) ho fun x hx => by
    show (Table.get Module.reset v.modules x).state = .up
    rw [hv]
    show (((d.link l).setModule m e).module x).state = .up
    by_cases hxm : x = m
    · subst hxm; rw [Link.module_setModule_self]; exact hu hx
    · rw [Link.module_setModule_ne _ _ hxm]; exact hx

theorem Display.kept.send {d : Display} (h : d.kept) (l m : Nat) (x : Message) (purpose : Purpose) :
    (d.send l m x purpose).kept := by
  unfold Display.send
  refine h.setModule l m _ _ rfl ?_ ?_ ?_ ?_ ?_ <;> cases purpose <;> first | rfl | exact fun h => h

theorem Display.kept.takeHead {d d' : Display} (h : d.kept) {l c : Nat} (he : d.takeHead l = some (c, d')) :
    d'.kept := by
  have hl := Display.takeHead_layout he
  unfold Display.takeHead at he
  split at he
  · cases he
  · rename_i c cs hq
    cases he
    have hc : c ∈ d.queue l := by rw [hq]; exact List.mem_cons_self
    have hk := h.queues.mem hc
    have hnd := h.queues.once l
    rw [hq, List.nodup_cons] at hnd
    refine h.of hl ⟨fun k => ?_, fun x k => ?_, fun x hx => ?_⟩ (h.highlights.same rfl fun x => ?_)
    · by_cases e : k = l
      · subst e; rw [Display.queue_setQueue_self]; exact hnd.2
      · rw [Display.queue_setQueue_ne _ _ e]; exact h.queues.once k
    · rw [Display.cell_setQueue, Display.cell_setCell, Display.linkOf_setQueue, Display.linkOf_setCell]
      have old := h.queues.queued x k
      by_cases e : k = l
      · subst e
        rw [Display.queue_setQueue_self]
        rw [hq, List.mem_cons] at old
        by_cases hx : x = c
        · subst hx; simp [hnd.1]
        · simp only [hx, false_or] at old; rw [if_neg hx]; exact old
      · rw [Display.queue_setQueue_ne _ _ e]
        by_cases hx : x = c
        · subst hx
          rw [if_pos rfl]
          constructor
          · intro h'
            have := h.queues.mem h'
            rw [hk, Option.some.injEq] at this
            exact absurd this.symm e
          · rintro ⟨h', -⟩; cases h'
        · rw [if_neg hx]; exact old
    · rw [Display.cell_setQueue, Display.cell_setCell] at hx
      by_cases e : x = c
      · rw [if_pos e] at hx; cases hx
      · rw [if_neg e] at hx
        rw [Display.paintable_eq hl rfl]; exact h.queues.paintable x hx
    · rw [Display.cell_setQueue, Display.cell_setCell]; split <;> rename_i e
      · rw [e]
      · rfl

theorem Display.kept.sendCell {d : Display} (h : d.kept) (render : Renderer) (l : Nat) :
    (d.sendCell render l).kept := by
  unfold Display.sendCell
  split
  · split
    · exact h
    · rename_i he; exact (h.takeHead he).send _ _ _ _
  · exact h

theorem Display.kept.arbitrate {d : Display} (h : d.kept) (render : Renderer) (now : Time) (probe l : Nat) :
    (d.arbitrate render now probe l).kept := by
  unfold Display.arbitrate
  dsimp only
  split
  · split
    · exact h.send _ _ _ _
    · split
      · exact h.send _ _ _ _
      · split
        · exact h.send _ _ _ _
        · exact h.sendCell _ _
  · exact h

theorem Display.kept.wake {d : Display} (h : d.kept) (render : Renderer) (now : Time) (probe : Nat) (was : Display) :
    (Display.wake render now probe was d).kept :=
  .foldl (fun d' l =>
    if (was.queue l).isEmpty && !(d.queue l).isEmpty then d'.arbitrate render now probe l else d') (fun d' l hd => by
      split
      · exact hd.arbitrate _ _ _ _
      · exact hd) _ h

theorem State.handoffsFirst_kept {s : State} (h : s.display.kept) (ls : List Nat) :
    (s.handoffsFirst ls).display.kept := by
  obtain ⟨-, e⟩ | ⟨-, e⟩ := s.handoffsFirst_cases ls <;> rw [e]
  · exact h
  · exact .foldl s.takeChange (fun _ _ h => h.handoff _ _ _) _ h

/-- An action of the board engine that keeps the board in order does so with its handoffs and choices. -/
theorem State.onBoard_kept {s : State} {f : Display → Display} (h : (f s.display).kept) : (s.onBoard f).display.kept :=
  (State.handoffsFirst_kept (s := { s with display := f s.display }) h _).wake _ _ _ _

/-- An action of a link controller that keeps the board in order does so with its handoffs and choices. -/
theorem State.onLink_kept {s : State} {f : Display → Display} (h : (f s.display).kept) (l : Nat) :
    (s.onLink l f).display.kept :=
  ((State.handoffsFirst_kept (s := { s with display := f s.display }) h [l]).wake _ _ _ _).arbitrate _ _ _ _

theorem Display.kept.release {d : Display} (h : d.kept) (l : Nat) : (d.release l).kept :=
  h.sameModules l _ rfl fun h => h

theorem Display.kept.endSettling {d : Display} (h : d.kept) (l : Nat) : (d.endSettling l).kept := by
  unfold Display.endSettling
  split
  · exact (h.sameModules l { d.link l with state := .running } rfl fun h => by cases h).linkSweep l
  · exact h

/-- Queued flags are cleared one after another. -/
theorem Display.clearQueued_cell (cs : List Nat) (d : Display) (x : Nat) :
    (cs.foldl (fun d c => d.setCell c { d.cell c with queued := false }) d).cell x =
      if x ∈ cs then { d.cell x with queued := false } else d.cell x := by
  induction cs generalizing d with
  | nil => simp
  | cons c cs ih =>
    rw [List.foldl_cons, ih, Display.cell_setCell]
    by_cases h : x = c
    · subst h; by_cases h' : x ∈ cs <;> simp [h']
    · by_cases h' : x ∈ cs <;> simp [h, h']

theorem Display.clearQueued_rest (cs : List Nat) (d : Display) :
    (cs.foldl (fun d c => d.setCell c { d.cell c with queued := false }) d) =
      { d with cells := (cs.foldl (fun d c => d.setCell c { d.cell c with queued := false }) d).cells } := by
  induction cs generalizing d with
  | nil => rfl
  | cons c cs ih => rw [List.foldl_cons]; rw [ih]; rfl

/-- The module drop empties the link's queue of the module's cells and clears their queued flags (R95). -/
theorem Display.moduleDrop_queue (l m : Nat) (d : Display) (k : Nat) :
    (d.moduleDrop l m).queue k =
      if k = l then (d.queue l).filter (fun c => !decide ((d.cell c).address = m)) else d.queue k := by
  unfold Display.moduleDrop
  dsimp only
  split
  · rename_i h; subst h; rw [Display.queue_setQueue_self]
  · rename_i h
    rw [Display.queue_setQueue_ne _ _ h, Display.clearQueued_rest]; rfl

theorem Display.moduleDrop_cell (l m : Nat) (d : Display) (c : Nat) :
    (d.moduleDrop l m).cell c =
      if c ∈ d.queue l ∧ (d.cell c).address = m then { d.cell c with queued := false } else d.cell c := by
  unfold Display.moduleDrop
  rw [Display.cell_setQueue, Display.clearQueued_cell]
  simp [List.mem_filter]

theorem Display.moduleDrop_rest (l m : Nat) (d : Display) :
    d.moduleDrop l m = { d with cells := (d.moduleDrop l m).cells, repaint := (d.moduleDrop l m).repaint } := by
  unfold Display.moduleDrop
  dsimp only
  rw [Display.clearQueued_rest]; rfl

theorem Display.kept.takeDown {d : Display} (h : d.kept) (l m : Nat) : (d.takeDown l m).kept := by
  have hl := d.takeDown_layout l m
  have hq : ∀ k, (d.takeDown l m).queue k =
      if k = l then (d.queue l).filter (fun c => !decide ((d.cell c).address = m)) else d.queue k := fun k => by
    unfold Display.takeDown; rw [Display.moduleDrop_queue]; rfl
  have hc : ∀ c, (d.takeDown l m).cell c =
      if c ∈ d.queue l ∧ (d.cell c).address = m then { d.cell c with queued := false } else d.cell c := fun c => by
    unfold Display.takeDown; rw [Display.moduleDrop_cell]; rfl
  have hlink : ∀ k, (d.takeDown l m).link k = if k = l then
      (d.link l).setModule m { (d.link l).module m with state := .down, owed := .nothing } else d.link k := fun k => by
    unfold Display.takeDown; rw [Display.moduleDrop_rest]
    show (Display.setLink _ _ _).link k = _
    split <;> rename_i e
    · rw [e, Display.link_setLink_self]
    · rw [Display.link_setLink_ne _ _ e]
  refine h.of hl ⟨fun k => ?_, fun x k => ?_, fun x hx => ?_⟩ (h.highlights.same ?_ fun x => ?_)
  · rw [hq]; split
    · exact (h.queues.once l).filter _
    · exact h.queues.once k
  · rw [hq, hc, hl.linkOf]
    have old := h.queues.queued x k
    by_cases e : k = l
    · subst e
      rw [if_pos rfl, List.mem_filter]
      by_cases a : (d.cell x).address = m
      · simp only [a, decide_true, Bool.not_true, Bool.false_eq_true, and_false, and_true, false_iff]
        split
        · rintro ⟨h', -⟩; cases h'
        · rename_i hn; rwa [← old]
      · simp only [a, decide_false, Bool.not_false, and_true, and_false, if_false]; exact old
    · rw [if_neg e]
      split
      · rename_i hn
        constructor
        · intro h'
          have h1 := h.queues.mem h'
          rw [h.queues.mem hn.1, Option.some.injEq] at h1
          exact absurd h1.symm e
        · rintro ⟨h', -⟩; cases h'
      · exact old
  · rw [hc] at hx
    split at hx
    · cases hx
    · rename_i hn
      obtain ⟨p, h1, h2, h3, h4⟩ := (Display.paintable_iff d x).1 (h.queues.paintable x hx)
      refine (Display.paintable_iff _ x).2 ⟨p, (hl.panelOf x).trans h1, (hl.bound x).trans h2, ?_, ?_⟩
      · rw [hlink]; split <;> rename_i e
        · rw [e] at h3; exact h3
        · exact h3
      · rw [hl.address, hlink]; split <;> rename_i e
        · have hin : x ∈ d.queue l :=
            (h.queues.queued x l).2 ⟨hx, by rw [← e]; exact Display.linkOf_of_panelOf h1⟩
          have hne : (d.cell x).address ≠ m := fun a => hn ⟨hin, a⟩
          rw [Link.module_setModule_ne _ _ hne, ← e]; exact h4
        · exact h4
  · unfold Display.takeDown; rw [Display.moduleDrop_rest]; rfl
  · rw [hc]; split <;> rfl

theorem Display.kept.acknowledged {d : Display} (h : d.kept) (l : Nat) (x : Sent) : (d.acknowledged l x).kept := by
  have up : ∀ o, ((d.release l).setLink l (((d.release l).link l).setModule x.address
      { ((d.release l).link l).module x.address with state := .up, owed := o })).kept := fun o =>
    (h.release l).setModule l x.address _ _ rfl (fun h => h) rfl rfl (fun _ h => by cases h) fun _ => rfl
  obtain ⟨a, m, purpose, u⟩ := x
  cases purpose with
  | write => exact h.release l
  | keepAlive => exact h.release l
  | owedBlank => exact h.release l
  | owedPattern => exact h.release l
  | settleBlank => exact (up _).endSettling l
  | probe => exact (up _).moduleSweep l a

theorem Display.kept.timedOut {d : Display} (h : d.kept) (l : Nat) (x : Sent) : (d.timedOut l x).kept := by
  obtain ⟨a, m, purpose, u⟩ := x
  cases purpose with
  | settleBlank => exact (h.release l).endSettling l
  | probe =>
    cases u with
    | true => exact (h.release l).takeDown l a
    | false => exact h.release l
  | write => exact (h.release l).takeDown l a
  | keepAlive => exact (h.release l).takeDown l a
  | owedBlank => exact (h.release l).takeDown l a
  | owedPattern => exact (h.release l).takeDown l a

/-- Modules of a link become owed a message, and the link stands in a state other than OFF. -/
theorem Display.kept.owe {d : Display} (h : d.kept) (l : Nat) (p : Module → Bool) (o : Owed) (x : LinkState)
    (h0 : p Module.reset = false) (hx : x ≠ .off) :
    (d.setLink l (Link.owe p o { d.link l with state := x })).kept := by
  refine h.setLink l _ (Link.owe_layout d l p o x h0) (fun h => absurd h hx) fun m hm => ?_
  show (Table.get Module.reset (Table.mapValues Module.reset
    (fun e => if p e then { e with owed := o } else e) (d.link l).modules) m).state = .up
  rw [Table.get_mapValues _ _ (by simp [h0]) (h.tables.link l)]
  split <;> exact hm

theorem Display.kept.settleEnd {d : Display} (h : d.kept) (l : Nat) : (d.settleEnd l).kept :=
  (h.owe l _ _ _ rfl (by simp)).endSettling l

theorem Display.kept.stopTest {d : Display} (h : d.kept) (l : Nat) : (d.stopTest l).kept :=
  (h.owe l _ _ _ rfl (by simp)).linkSweep l

theorem Display.kept.startTest {d : Display} (h : d.kept) (l : Nat) (p : LampPattern) :
    (d.setLink l ((d.link l).startTest p)).kept := h.owe l _ _ _ rfl (by simp)

theorem Display.kept.askRestart {d : Display} (h : d.kept) (l m : Nat) :
    (d.setLink l ((d.link l).askRestart m)).kept :=
  h.setModule l m { (d.link l).module m with restartPending := true } _ rfl (fun h => h) rfl rfl (fun h => h) fun h => h

/-! ### Panels, cells and mode changes -/

theorem Panel.present_of_covers {p : Panel} {c : Nat} (h : p.covers c = true) : p.present = true := by
  unfold Panel.covers at h
  rw [Bool.and_eq_true] at h
  exact h.1

/-- The panel of a cell index is the present panel whose range holds it (R77). -/
theorem Display.panelOf_iff {d : Display} (w : d.canonical) (h : d.panelsKept) (c : Nat) (p : Panel) :
    d.panelOf c = some p ↔ ∃ n, d.panel n = p ∧ p.covers c = true := by
  have reads : ∀ e ∈ d.panels, d.panel e.1 = e.2 := fun e he => Table.get_of_mem Panel.absent w.panels he
  unfold Display.panelOf Table.first
  constructor
  · intro hp
    rw [Option.map_eq_some_iff] at hp
    obtain ⟨e, he, rfl⟩ := hp
    have hc : e.2.covers c = true := by simpa using List.find?_some he
    exact ⟨e.1, reads e (List.mem_of_find?_eq_some he), hc⟩
  · rintro ⟨n, rfl, hc⟩
    have hm : (n, d.panel n) ∈ d.panels := by
      rcases Table.get_mem Panel.absent d.panels n with h' | h'
      · have hp := Panel.present_of_covers hc
        unfold Display.panel at hp
        rw [h'] at hp
        cases hp
      · exact h'
    cases hf : d.panels.find? fun e => e.2.covers c with
    | none =>
      have := List.find?_eq_none.1 hf _ hm
      exact absurd hc (by simpa using this)
    | some e =>
      have he : e.2.covers c = true := by simpa using List.find?_some hf
      have hr := reads e (List.mem_of_find?_eq_some hf)
      have : e.1 = n := h.apart _ _ c (by rw [hr]; exact he) hc
      rw [Option.map_some, ← hr, this]

/-- A change of the panels alone that leaves every BOUND cell the link of its panel. -/
theorem Display.kept.ofPanels {d d' : Display} (h : d.kept) (w : d'.canonical) (hp : d'.panelsKept)
    (hc : d'.cells = d.cells) (hq : d'.repaint = d.repaint) (hh : d'.highlights = d.highlights)
    (hl : d'.links = d.links)
    (same : ∀ c, (d.cell c).bound = true → ∀ p, d.panelOf c = some p →
      ∃ p', d'.panelOf c = some p' ∧ p'.link = p.link) : d'.kept := by
  have hc' : ∀ c, d'.cell c = d.cell c := fun c => by unfold Display.cell; rw [hc]
  have hq' : ∀ l, d'.queue l = d.queue l := fun l => by unfold Display.queue; rw [hq]
  have hl' : ∀ l, d'.link l = d.link l := fun l => by unfold Display.link; rw [hl]
  have hlink : ∀ c, (d.cell c).bound = true → d'.linkOf c = d.linkOf c := fun c hb => by
    obtain ⟨-, p, h2, -⟩ := h.cells.placed c hb
    obtain ⟨p', h3, h4⟩ := same c hb p h2
    rw [Display.linkOf_of_panelOf h2, Display.linkOf_of_panelOf h3, h4]
  have hpaint : ∀ c, d.paintable c = true → d'.paintable c = true := fun c hx => by
    obtain ⟨p, h1, h2, h3, h4⟩ := (Display.paintable_iff d c).1 hx
    obtain ⟨p', h5, h6⟩ := same c h2 p h1
    refine (Display.paintable_iff d' c).2 ⟨p', h5, ?_⟩
    rw [hc', hl', h6]
    exact ⟨h2, h3, h4⟩
  have hbound : ∀ c, (d.cell c).queued = true → (d.cell c).bound = true := fun c hx =>
    Display.bound_of_paintable (h.queues.paintable c hx)
  refine ⟨w, hp, ⟨fun c => by rw [hc']; exact h.cells.vacant c, fun c hb => ?_, fun b c hbc hb hcb e => ?_⟩,
    ⟨fun l => by rw [hq']; exact h.queues.once l, fun c l => ?_, fun c hx => ?_⟩,
    h.highlights.same hh fun c => by rw [hc']⟩
  · rw [hc'] at hb ⊢
    obtain ⟨h1, p, h2, h3⟩ := h.cells.placed c hb
    obtain ⟨p', h4, h5⟩ := same c hb p h2
    refine ⟨h1, p', h4, ?_⟩
    dsimp only
    rw [hl', h5]
    exact h3
  · rw [hc'] at hb hcb ⊢
    rw [hc']
    rw [hlink b hb, hlink c hcb] at e
    exact h.cells.apart b c hbc hb hcb e
  · rw [hq', hc', h.queues.queued]
    exact ⟨fun ⟨a, b⟩ => ⟨a, by rw [hlink c (hbound c a)]; exact b⟩,
      fun ⟨a, b⟩ => ⟨a, by rw [← hlink c (hbound c a)]; exact b⟩⟩
  · rw [hc'] at hx
    exact hpaint c (h.queues.paintable c hx)

/-- DEFINE PANEL keeps the board's form (R77, R78). -/
theorem Display.kept.definePanel {d : Display} (h : d.kept) (n l base limit : Nat) (hn : n < 64) (hl : l ≤ 3)
    (h1 : 1 ≤ limit) (h2 : base + limit ≤ 4096) (hp : (d.panel n).present = false)
    (ho : d.panelOverlap n base limit = false) : (d.setPanel n ⟨true, l, base, limit, false⟩).kept := by
  have apart : ∀ m c, m ≠ n → (d.panel m).covers c = true →
      Panel.covers ⟨true, l, base, limit, false⟩ c = false := fun m c hm hc => by
    have hpm := Panel.present_of_covers hc
    have hmem : (m, d.panel m) ∈ d.panels := by
      rcases Table.get_mem Panel.absent d.panels m with h' | h'
      · unfold Display.panel at hpm; rw [h'] at hpm; cases hpm
      · exact h'
    unfold Display.panelOverlap at ho
    have := List.any_eq_false.1 ho _ hmem
    simp only [Panel.covers, Bool.and_eq_true, decide_eq_true_eq] at hc
    simp only [hm, ne_eq, not_false_eq_true, decide_true, hc.1, Bool.and_self, Bool.true_and, decide_eq_true_eq] at this
    simp only [Panel.covers, Bool.true_and, decide_eq_false_iff_not]
    intro hx
    exact this ⟨by omega, by omega⟩
  have w : (d.setPanel n ⟨true, l, base, limit, false⟩).canonical := h.tables.setPanel _ _
  have hk : (d.setPanel n ⟨true, l, base, limit, false⟩).panelsKept := by
    refine ⟨fun m hm => ?_, fun a b c ha hb => ?_⟩
    · by_cases e : m = n
      · subst e; rw [Display.panel_setPanel_self]; exact ⟨hn, hl, h1, h2⟩
      · rw [Display.panel_setPanel_ne _ _ e] at hm ⊢; exact h.panels.range m hm
    · by_cases ea : a = n <;> by_cases eb : b = n
      · rw [ea, eb]
      · subst ea
        rw [Display.panel_setPanel_self] at ha
        rw [Display.panel_setPanel_ne _ _ eb] at hb
        rw [apart b c eb hb] at ha; cases ha
      · subst eb
        rw [Display.panel_setPanel_self] at hb
        rw [Display.panel_setPanel_ne _ _ ea] at ha
        rw [apart a c ea ha] at hb; cases hb
      · rw [Display.panel_setPanel_ne _ _ ea] at ha
        rw [Display.panel_setPanel_ne _ _ eb] at hb
        exact h.panels.apart a b c ha hb
  refine h.ofPanels w hk rfl rfl rfl rfl fun c hb p hc => ⟨p, ?_, rfl⟩
  obtain ⟨m, hm, hcov⟩ := (Display.panelOf_iff h.tables h.panels c p).1 hc
  refine (Display.panelOf_iff w hk c p).2 ⟨m, ?_, hcov⟩
  have e : m ≠ n := fun e => by
    subst e
    have := Panel.present_of_covers hcov
    rw [← hm, hp] at this; cases this
  rw [Display.panel_setPanel_ne _ _ e]; exact hm

theorem Display.mem_boundCells {d : Display} (w : d.canonical) (c : Nat) :
    c ∈ d.boundCells ↔ (d.cell c).bound = true :=
  Table.mem_keys Cell.vacant (f := fun v => v.bound) rfl w.cells c

theorem Display.boundCells_rise {d : Display} (w : d.canonical) : d.boundCells.Pairwise (· < ·) :=
  (Table.keys_pairwise Cell.vacant _ w.cells).1

theorem Display.mem_cellsOfPanel {d : Display} (w : d.canonical) (p : Panel) (c : Nat) :
    c ∈ d.cellsOfPanel p ↔ (d.cell c).bound = true ∧ p.covers c = true := by
  unfold Display.cellsOfPanel
  rw [List.mem_filter, Display.mem_boundCells w]

/-- REMOVE PANEL keeps the board's form (R79). -/
theorem Display.kept.removePanel {d : Display} (h : d.kept) (n : Nat)
    (he : (d.cellsOfPanel (d.panel n)).isEmpty = true) : (d.setPanel n Panel.absent).kept := by
  have w : (d.setPanel n Panel.absent).canonical := h.tables.setPanel _ _
  have hk : (d.setPanel n Panel.absent).panelsKept := by
    refine ⟨fun m hm => ?_, fun a b c ha hb => ?_⟩
    · by_cases e : m = n
      · subst e; rw [Display.panel_setPanel_self] at hm; cases hm
      · rw [Display.panel_setPanel_ne _ _ e] at hm ⊢; exact h.panels.range m hm
    · by_cases ea : a = n
      · subst ea; rw [Display.panel_setPanel_self] at ha; cases ha
      · by_cases eb : b = n
        · subst eb; rw [Display.panel_setPanel_self] at hb; cases hb
        · rw [Display.panel_setPanel_ne _ _ ea] at ha
          rw [Display.panel_setPanel_ne _ _ eb] at hb
          exact h.panels.apart a b c ha hb
  refine h.ofPanels w hk rfl rfl rfl rfl fun c hb p hc => ⟨p, ?_, rfl⟩
  obtain ⟨m, hm, hcov⟩ := (Display.panelOf_iff h.tables h.panels c p).1 hc
  refine (Display.panelOf_iff w hk c p).2 ⟨m, ?_, hcov⟩
  have e : m ≠ n := fun e => by
    subst e
    have : c ∈ d.cellsOfPanel (d.panel m) := (Display.mem_cellsOfPanel h.tables _ c).2 ⟨hb, by rw [hm]; exact hcov⟩
    rw [List.isEmpty_iff.1 he] at this; cases this
  rw [Display.panel_setPanel_ne _ _ e]; exact hm

/-- PANEL DARK and PANEL LIGHT keep the board's form (R86). -/
theorem Display.kept.setDark {d : Display} (h : d.kept) (n : Nat) (dark : Bool) : (d.setDark n dark).kept := by
  have w : (d.setPanel n { d.panel n with dark := dark }).canonical := h.tables.setPanel _ _
  have pan : ∀ m, ∃ k, (d.setPanel n { d.panel n with dark := dark }).panel m = { d.panel m with dark := k } := fun m => by
    by_cases e : m = n
    · subst e; exact ⟨dark, by rw [Display.panel_setPanel_self]⟩
    · exact ⟨(d.panel m).dark, by rw [Display.panel_setPanel_ne _ _ e]⟩
  have cov : ∀ m c, ((d.setPanel n { d.panel n with dark := dark }).panel m).covers c = (d.panel m).covers c := fun m c => by
    obtain ⟨k, hk⟩ := pan m
    rw [hk]; rfl
  have hk : (d.setPanel n { d.panel n with dark := dark }).panelsKept := by
    refine ⟨fun m hm => ?_, fun a b c ha hb => ?_⟩
    · obtain ⟨k, hk⟩ := pan m
      rw [hk] at hm ⊢; exact h.panels.range m hm
    · rw [cov] at ha hb; exact h.panels.apart a b c ha hb
  have h0 : (d.setPanel n { d.panel n with dark := dark }).kept := by
    refine h.ofPanels w hk rfl rfl rfl rfl fun c hb p hc => ?_
    obtain ⟨m, hm, hcov⟩ := (Display.panelOf_iff h.tables h.panels c p).1 hc
    obtain ⟨k, hp⟩ := pan m
    refine ⟨_, (Display.panelOf_iff w hk c _).2 ⟨m, rfl, by rw [cov, hm]; exact hcov⟩, ?_⟩
    rw [hp, ← hm]
  unfold Display.setDark
  dsimp only
  refine Display.kept.enqueueAll ?_ _
  split
  · exact .foldl (fun d c => d.unhighlight c) (fun _ c h => h.unhighlight c) _ h0
  · exact h0

/-- DEFINE CELL keeps the form of the panels, cells, queues and highlights (R81, R82). -/
theorem Display.kept.setBound {d : Display} (h : d.kept) {c : Nat} {v : Cell} {p : Panel} (hc : c < 4096)
    (hb : (d.cell c).bound = false) (hp : d.panelOf c = some p) (vb : v.bound = true) (vq : v.queued = false)
    (ve : v.expiry = none) (hm : ((d.link p.link).module v.address).state ≠ .unconfigured)
    (hr : v.row ≤ ((d.link p.link).module v.address).rows)
    (hcol : v.column + v.width - 1 ≤ ((d.link p.link).module v.address).columns)
    (ho : d.cellOverlap p.link v.address v.row v.column v.width = false) : (d.setCell c v).kept := by
  have hvac := h.cells.vacant c hb
  have hother : ∀ x, (d.cell x).bound = true → x ≠ c := fun x hx e => by subst e; rw [hb] at hx; cases hx
  have hfree : ∀ x, (d.cell x).bound = true → d.linkOf x = some p.link → (d.cell x).address = v.address →
      (d.cell x).row = v.row → (d.cell x).column + (d.cell x).width ≤ v.column ∨
        v.column + v.width ≤ (d.cell x).column := fun x hx h1 h2 h3 => by
    unfold Display.cellOverlap at ho
    have := List.any_eq_false.1 ho x ((Display.mem_boundCells h.tables x).2 hx)
    simp only [Display.onModule, h1, h2, h3, decide_true, Bool.and_self, Bool.true_and, columnsMeet,
      decide_eq_true_eq] at this
    omega
  have hpl := Display.linkOf_of_panelOf hp
  refine ⟨h.tables.setCell c v, h.panels.same rfl, ⟨fun x hx => ?_, fun x hx => ?_, fun x y hxy hx hy e1 e2 e3 => ?_⟩,
    ⟨h.queues.once, fun x l => ?_, fun x hx => ?_⟩, h.highlights.same rfl fun x => ?_⟩
  · rw [Display.cell_setCell] at hx ⊢
    split at hx
    · rw [vb] at hx; cases hx
    · rename_i e; rw [if_neg e]; exact h.cells.vacant x hx
  · rw [Display.cell_setCell] at hx ⊢
    split at hx
    · rename_i e; subst e; rw [if_pos rfl]; exact ⟨hc, p, hp, hm, hr, hcol⟩
    · rename_i e; rw [if_neg e]; exact h.cells.placed x hx
  · rw [Display.linkOf_setCell, Display.linkOf_setCell] at e1
    rw [Display.cell_setCell] at hx hy e2 e3 ⊢
    rw [Display.cell_setCell] at e2 e3 ⊢
    by_cases ex : x = c
    · subst ex
      have ey : y ≠ x := fun e => hxy e.symm
      simp only [if_true, if_neg ey] at hx hy e2 e3 ⊢
      exact (hfree y hy (by rw [← e1]; exact hpl) e2.symm e3.symm).symm
    · by_cases ey : y = c
      · subst ey
        simp only [if_true, if_neg ex] at hx hy e2 e3 ⊢
        exact hfree x hx (by rw [e1]; exact hpl) e2 e3
      · simp only [if_neg ex, if_neg ey] at hx hy e2 e3 ⊢
        exact h.cells.apart x y hxy hx hy e1 e2 e3
  · rw [Display.queue_setCell, Display.linkOf_setCell, Display.cell_setCell, h.queues.queued]
    split
    · rename_i e; subst e; rw [hvac, vq]; simp [Cell.vacant]
    · rfl
  · rw [Display.cell_setCell] at hx
    split at hx
    · rw [vq] at hx; cases hx
    · rename_i e
      obtain ⟨q, h1, h2, h3, h4⟩ := (Display.paintable_iff d x).1 (h.queues.paintable x hx)
      refine (Display.paintable_iff _ x).2 ⟨q, h1, ?_⟩
      rw [Display.cell_setCell, if_neg e]
      exact ⟨h2, h3, h4⟩
  · rw [Display.cell_setCell]
    split
    · rename_i e; subst e; rw [hvac, ve]; rfl
    · rfl

theorem Display.kept.bind {d : Display} {c : Nat} {v : Cell} (h : (d.setCell c v).kept) : (d.bind c v).kept := by
  unfold Display.bind
  dsimp only
  split
  · exact h
  · exact h.enqueue c

/-- What REMOVE CELL does with the tables of the board (R83). -/
theorem Display.unbind_cell (head : Option Nat) (c : Nat) (d : Display) (x : Nat) :
    (d.unbind head c).cell x = if x = c then Cell.vacant
      else if d.before head c = some x then { d.cell x with next := (d.cell c).next } else d.cell x := by
  have hdq : ∀ e : Display, (e.dequeue c).cell x = e.cell x := fun e => by
    unfold Display.dequeue; split <;> rfl
  show (((d.unlink head c).dequeue c).setCell c Cell.vacant).cell x = _
  rw [Display.cell_setCell]
  split
  · rfl
  · rw [hdq]
    unfold Display.unlink
    split
    · rename_i hb; simp [hb]
    · rename_i b hb
      rw [Display.cell_setCell]
      simp only [hb, Option.some.injEq]
      by_cases e : x = b
      · subst e; simp
      · rw [if_neg e, if_neg (Ne.symm e)]

theorem Display.unlink_frame (head : Option Nat) (c : Nat) (d : Display) :
    d.unlink head c = { d with cells := (d.unlink head c).cells } := by
  unfold Display.unlink; split <;> rfl

theorem Display.unbind_frame (head : Option Nat) (c : Nat) (d : Display) :
    d.unbind head c = { d with
      cells := (d.unbind head c).cells, repaint := (d.unbind head c).repaint
      highlights := setErase c d.highlights } := by
  have h1 : ∀ e : Display, e.dequeue c = { e with repaint := (e.dequeue c).repaint } := fun e => by
    unfold Display.dequeue; split <;> rfl
  unfold Display.unbind
  dsimp only
  rw [h1, Display.unlink_frame]; rfl

theorem Display.unbind_queue (head : Option Nat) (c : Nat) (d : Display) (l : Nat) :
    (d.unbind head c).queue l = if d.linkOf c = some l then setErase c (d.queue l) else d.queue l := by
  have h0 : (d.unlink head c).linkOf c = d.linkOf c := by
    rw [Display.unlink_frame]; rfl
  have h1 : ∀ k, (d.unlink head c).queue k = d.queue k := fun k => by rw [Display.unlink_frame]; rfl
  show ((d.unlink head c).dequeue c).queue l = _
  unfold Display.dequeue
  rw [h0]
  split
  · rename_i hk; rw [h1]; simp [hk]
  · rename_i k hk
    simp only [hk, Option.some.injEq]
    by_cases e : k = l
    · subst e; rw [Display.queue_setQueue_self, if_pos rfl, h1]
    · rw [Display.queue_setQueue_ne _ _ (Ne.symm e), if_neg e, h1]

theorem Display.canonical.unbind {d : Display} (h : d.canonical) (head : Option Nat) (c : Nat) :
    (d.unbind head c).canonical := by
  have h1 : (d.unlink head c).canonical := by
    unfold Display.unlink; split
    · exact h
    · exact h.setCell _ _
  have h2 : ((d.unlink head c).dequeue c).canonical := by
    unfold Display.dequeue; split
    · exact h1
    · exact h1.setQueue _ _
  exact ⟨(h2.setCell c Cell.vacant).cells, h2.panels, h2.modules⟩

/-- REMOVE CELL keeps the form of the panels, cells, queues and highlights (R83). -/
theorem Display.kept.unbind {d : Display} (h : d.kept) (head : Option Nat) (c : Nat)
    (hb : ∀ b, d.before head c = some b → (d.cell b).bound = true) : (d.unbind head c).kept := by
  have hf := Display.unbind_frame head c d
  have hp : ∀ x, (d.unbind head c).panelOf x = d.panelOf x := fun x => by rw [hf]; rfl
  have hl : ∀ x, (d.unbind head c).linkOf x = d.linkOf x := fun x => by rw [hf]; rfl
  have hk : ∀ x, (d.unbind head c).link x = d.link x := fun x => by rw [hf]; rfl
  have hc : ∀ x, x ≠ c → ∃ n, (d.unbind head c).cell x = { d.cell x with next := n } := fun x hx => by
    rw [Display.unbind_cell, if_neg hx]; split
    · exact ⟨_, rfl⟩
    · exact ⟨(d.cell x).next, rfl⟩
  have hcc : (d.unbind head c).cell c = Cell.vacant := by rw [Display.unbind_cell, if_pos rfl]
  have hnot : ∀ x, ((d.unbind head c).cell x).bound = true → x ≠ c := fun x hx e => by
    subst e; rw [hcc] at hx; cases hx
  refine ⟨h.tables.unbind head c, h.panels.same (by rw [hf]), ⟨fun x hx => ?_, fun x hx => ?_,
    fun x y hxy hx hy => ?_⟩, ⟨fun l => ?_, fun x l => ?_, fun x hx => ?_⟩, ?_, fun x => ?_⟩
  · rw [Display.unbind_cell] at hx ⊢
    split
    · rfl
    · rename_i e
      rw [if_neg e] at hx
      split
      · rename_i e2
        rw [if_pos e2] at hx
        have : (d.cell x).bound = true := hb x e2
        rw [this] at hx; cases hx
      · rename_i e2; rw [if_neg e2] at hx; exact h.cells.vacant x hx
  · have e := hnot x hx
    obtain ⟨n, hn⟩ := hc x e
    rw [hn] at hx ⊢
    obtain ⟨h1, p, h2, h3⟩ := h.cells.placed x hx
    refine ⟨h1, p, (hp x).trans h2, ?_⟩
    rw [hk]; exact h3
  · obtain ⟨n, hn⟩ := hc x (hnot x hx)
    obtain ⟨m, hm⟩ := hc y (hnot y hy)
    rw [hn] at hx; rw [hm] at hy
    rw [hn, hm, hl, hl]
    exact h.cells.apart x y hxy hx hy
  · rw [Display.unbind_queue]; split
    · exact setErase_nodup c (h.queues.once l)
    · exact h.queues.once l
  · rw [Display.unbind_queue, hl]
    by_cases e : x = c
    · subst e
      rw [hcc]
      split
      · simp [Cell.vacant]
      · rename_i hn
        simp only [Cell.vacant, Bool.false_eq_true, false_and, iff_false]
        exact fun h' => hn (h.queues.mem h')
    · obtain ⟨n, hn⟩ := hc x e
      rw [hn]
      split
      · rw [mem_setErase]; simp only [e, ne_eq, not_false_eq_true, and_true]; exact h.queues.queued x l
      · exact h.queues.queued x l
  · have e : x ≠ c := fun e => by subst e; rw [hcc] at hx; cases hx
    obtain ⟨n, hn⟩ := hc x e
    rw [hn] at hx
    obtain ⟨p, h1, h2, h3, h4⟩ := (Display.paintable_iff d x).1 (h.queues.paintable x hx)
    refine (Display.paintable_iff _ x).2 ⟨p, (hp x).trans h1, ?_⟩
    rw [hn, hk]; exact ⟨h2, h3, h4⟩
  · rw [hf]; exact setErase_nodup c h.highlights.1
  · have : (d.unbind head c).highlights = setErase c d.highlights := by rw [hf]
    rw [this, mem_setErase, h.highlights.2]
    by_cases e : x = c
    · subst e; rw [hcc]; simp [Cell.vacant]
    · obtain ⟨n, hn⟩ := hc x e
      rw [hn]; simp [e]

/-- With every link OFF no cell is queued. -/
theorem Display.kept.idle {d : Display} (h : d.kept) (ho : ∀ l < 4, (d.link l).state = .off) :
    (∀ c, (d.cell c).queued = false) ∧ ∀ l, d.queue l = [] := by
  have hq : ∀ c, (d.cell c).queued = false := fun c => by
    cases hc : (d.cell c).queued with
    | false => rfl
    | true =>
      obtain ⟨p, h1, -, h3, -⟩ := (Display.paintable_iff d c).1 (h.queues.paintable c hc)
      obtain ⟨n, hn, hcov⟩ := (Display.panelOf_iff h.tables h.panels c p).1 h1
      have := (h.panels.range n (by rw [hn]; exact Panel.present_of_covers hcov)).2.1
      rw [hn] at this
      exact absurd (ho _ (by omega)) h3
  refine ⟨hq, fun l => List.eq_nil_iff_forall_not_mem.2 fun c hc => ?_⟩
  have := ((h.queues.queued c l).1 hc).1
  rw [hq] at this; cases this

/-- A module item of CONFIGURE keeps the board's form while every link is OFF (R85, R177). -/
theorem Display.kept.configureModule {d : Display} (h : d.kept) (ho : ∀ l < 4, (d.link l).state = .off)
    (l m rows columns : Nat) (configured : Bool) (hg : d.guards l m configured rows columns = false) :
    (d.setLink l ((d.link l).setModule m (((d.link l).module m).configure configured rows columns))).kept := by
  obtain ⟨hq, hn⟩ := h.idle ho
  refine ⟨h.tables.setLink l (Table.wf_put _ _ _ (h.tables.link l)), h.panels.same rfl,
    ⟨h.cells.vacant, fun c hc => ?_, h.cells.apart⟩, ⟨fun k => ?_, fun c k => ?_, fun c hc => ?_⟩, h.highlights⟩
  · obtain ⟨h1, p, h2, h3, h4, h5⟩ := h.cells.placed c hc
    refine ⟨h1, p, h2, ?_⟩
    dsimp only
    rw [Display.cell_setLink]
    by_cases e : p.link = l
    · rw [e, Display.link_setLink_self]
      by_cases em : (d.cell c).address = m
      · rw [em, Link.module_setModule_self]
        unfold Display.guards at hg
        have := List.any_eq_false.1 hg c ((Display.mem_boundCells h.tables c).2 hc)
        have hk : d.linkOf c = some l := by rw [Display.linkOf_of_panelOf h2, e]
        simp only [Display.onModule, hk, em, decide_true, Bool.and_self, Bool.true_and, Bool.or_eq_true,
          Bool.not_eq_true', decide_eq_true_eq, not_or, Bool.not_eq_false, Nat.not_lt] at this
        obtain ⟨⟨t1, t2⟩, t3⟩ := this
        subst t1
        exact ⟨by simp [Module.configure], t2, t3⟩
      · rw [Link.module_setModule_ne _ _ em, ← e]; exact ⟨h3, h4, h5⟩
    · rw [Display.link_setLink_ne _ _ e]; exact ⟨h3, h4, h5⟩
  · rw [Display.queue_setLink, hn]; exact List.nodup_nil
  · rw [Display.queue_setLink, hn, Display.cell_setLink, hq]; simp
  · rw [Display.cell_setLink, hq] at hc; cases hc

theorem Display.kept.mapLinks {d : Display} (h : d.kept) (f : Link → Link)
    (hf : ∀ d : Display, d.kept → ∀ l, (d.setLink l (f (d.link l))).kept) : (d.mapLinks f).kept :=
  .foldl (fun d l => d.setLink l (f (d.link l))) (fun d l h => hf d h l) _ h

/-- GO LIVE keeps the board's form (R105). -/
theorem Display.kept.goLive {d : Display} (h : d.kept) (now : Time) : (d.mapLinks (Link.goLive now)).kept :=
  h.mapLinks _ fun d h l => by
    refine h.sameModules l _ ?_ ?_ <;> unfold Link.goLive <;> split
    · rfl
    · rfl
    · intro h'; cases h'
    · exact fun h' => h'

/-- GO CONFIG keeps the board's form (R96, R107). -/
theorem Display.kept.goConfig {d : Display} (h : d.kept) :
    (d.mapLinks fun v => if v.isOff then v else v.goConfig).quiet.kept := by
  have hl : d.sameLayout (d.mapLinks fun v => if v.isOff then v else v.goConfig) :=
    Display.mapLinks_layout _ (fun d l => by
      split
      · exact .sameModules d l _ rfl
      · refine .mapModules d l _ Module.rest rfl rfl fun e => ⟨rfl, rfl, fun he => ?_⟩
        show (if e.configured then ModuleState.down else .unconfigured) ≠ .unconfigured
        simp [Module.configured, he]) d
  have hq := Display.quiet_layout _ (hl.canonical h.tables)
  generalize d.mapLinks (fun v => if v.isOff then v else v.goConfig) = e at hl hq ⊢
  have key : ∀ c, e.quiet.cell c = { e.cell c with queued := false, expiry := none } := fun c =>
    Table.get_mapValues Cell.vacant (fun c => { c with queued := false, expiry := none }) rfl
      (hl.canonical h.tables).cells c
  refine h.of (hl.trans hq) ⟨fun _ => List.nodup_nil, fun c l => ?_, fun c hc => ?_⟩ ⟨List.nodup_nil, fun c => ?_⟩
  · rw [key]
    show c ∈ ([] : List Nat) ↔ _
    simp
  · rw [key] at hc; cases hc
  · rw [key]
    show c ∈ ([] : List Nat) ↔ _
    simp

/-- FRAME_SENT keeps the board's form (R101). -/
theorem Display.kept.frameSent {d : Display} (h : d.kept) (l m : Nat) (t : Option Time) (x : Line) :
    (d.setLink l { (d.link l).setModule m { (d.link l).module m with lastSent := t } with line := x }).kept :=
  h.setModule l m { (d.link l).module m with lastSent := t } _ rfl (fun h => h) rfl rfl (fun h => h) fun h => h

/-! ### Binding lists -/

/-- Where the next fields agree, a list strung from a head stays strung from it. -/
theorem Display.strung_congr {d d' : Display} {l : List Nat} {head : Option Nat}
    (h : ∀ c ∈ l, (d'.cell c).next = (d.cell c).next) : d'.strung head l ↔ d.strung head l := by
  induction l generalizing head with
  | nil => cases head <;> simp [Display.strung]
  | cons b l ih =>
    cases head with
    | none => simp [Display.strung]
    | some c =>
      simp only [Display.strung]
      constructor
      · rintro ⟨rfl, h2⟩
        rw [h c List.mem_cons_self] at h2
        exact ⟨rfl, (ih fun x hx => h x (List.mem_cons_of_mem _ hx)).1 h2⟩
      · rintro ⟨rfl, h2⟩
        rw [h c List.mem_cons_self]
        exact ⟨rfl, (ih fun x hx => h x (List.mem_cons_of_mem _ hx)).2 h2⟩

/-- The walk from a head meets the cells strung from it, where its fuel reaches that far. -/
theorem Display.walk_of_strung {d : Display} {l : List Nat} {head : Option Nat} (h : d.strung head l) :
    ∀ fuel, l.length ≤ fuel → d.walk fuel head = l := by
  induction l generalizing head with
  | nil =>
    intro fuel _
    cases head with
    | none => cases fuel <;> rfl
    | some c => exact absurd h (by simp [Display.strung])
  | cons b l ih =>
    intro fuel hf
    cases head with
    | none => exact absurd h (by simp [Display.strung])
    | some c =>
      simp only [Display.strung] at h
      obtain ⟨rfl, h⟩ := h
      cases fuel with
      | zero => simp at hf
      | succ n => rw [Display.walk, ih h n (by simpa using hf)]

/-- A list of cell indices without repeats holds at most 4,096. -/
theorem length_le_cellCount {l : List Nat} (hn : l.Nodup) (hb : ∀ c ∈ l, c < 4096) : l.length ≤ Config.cellCount := by
  have : l.toFinset ⊆ Finset.range 4096 := fun c hc => Finset.mem_range.2 (hb c (List.mem_toFinset.1 hc))
  have h := Finset.card_le_card this
  rw [List.toFinset_card_of_nodup hn, Finset.card_range] at h
  exact h

/-- A binding list given by its cells. -/
theorem Display.lists_of {d : Display} {head : Option Nat} {owns : CellField → Bool} {l : List Nat}
    (hs : d.strung head l) (hn : l.Nodup) (hm : ∀ c, c ∈ l ↔ (d.cell c).bound = true ∧ owns (d.cell c).field = true)
    (hb : ∀ c, (d.cell c).bound = true → c < 4096) : d.lists head owns := by
  have : d.bindingList head = l :=
    Display.walk_of_strung hs _ (length_le_cellCount hn fun c hc => hb c ((hm c).1 hc).1)
  unfold Display.lists
  rw [this]
  exact ⟨hs, hn, hm⟩

theorem Display.lists.same {d d' : Display} {head : Option Nat} {owns : CellField → Bool} (h : d.lists head owns)
    (hb : ∀ c, (d.cell c).bound = true → c < 4096) (hl : d.sameLayout d') : d'.lists head owns := by
  obtain ⟨h1, h2, h3⟩ := h
  have hc : ∀ c, (d'.cell c).bound = (d.cell c).bound ∧ (d'.cell c).field = (d.cell c).field ∧
      (d'.cell c).next = (d.cell c).next := fun c => by
    obtain ⟨q, e, h⟩ := hl.cells c
    rw [h]; exact ⟨rfl, rfl, rfl⟩
  refine Display.lists_of ((Display.strung_congr fun c _ => (hc c).2.2).2 h1) h2 (fun c => ?_) fun c hx => ?_
  · rw [(hc c).1, (hc c).2.1]; exact h3 c
  · rw [(hc c).1] at hx; exact hb c hx

/-- Every cell of a binding list but the first is the next of a cell of it. -/
theorem Display.strung_head {d : Display} {head : Option Nat} {l : List Nat} (h : d.strung head l) :
    l.head? = head := by
  cases l <;> cases head <;> simp_all [Display.strung]

/-- DEFINE CELL puts the cell at the head of its owner's list (R82). -/
theorem Display.lists.push {d : Display} {head : Option Nat} {owns : CellField → Bool} {c : Nat} {v : Cell}
    (h : d.lists head owns) (hb : ∀ c, (d.cell c).bound = true → c < 4096) (hc : c < 4096)
    (hu : (d.cell c).bound = false) (vb : v.bound = true) (vo : owns v.field = true) (vn : v.next = head) :
    (d.setCell c v).lists (some c) owns := by
  obtain ⟨h1, h2, h3⟩ := h
  have hnot : c ∉ d.bindingList head := fun hx => by
    have := ((h3 c).1 hx).1; rw [hu] at this; cases this
  have hne : ∀ x ∈ d.bindingList head, x ≠ c := fun x hx e => hnot (e ▸ hx)
  refine Display.lists_of (l := c :: d.bindingList head) ⟨rfl, ?_⟩ (List.nodup_cons.2 ⟨hnot, h2⟩) (fun x => ?_) fun x hx => ?_
  · rw [Display.cell_setCell_self, vn]
    exact (Display.strung_congr fun x hx => by rw [Display.cell_setCell_ne _ _ (hne x hx)]).2 h1
  · rw [List.mem_cons, Display.cell_setCell]
    by_cases e : x = c
    · subst e; simp [vb, vo]
    · simp only [e, false_or, if_false]; exact h3 x
  · rw [Display.cell_setCell] at hx
    split at hx
    · rename_i e; rw [e]; exact hc
    · exact hb x hx

/-- DEFINE CELL leaves every other list (R84). -/
theorem Display.lists.pushOther {d : Display} {head : Option Nat} {owns : CellField → Bool} {c : Nat} {v : Cell}
    (h : d.lists head owns) (hb : ∀ c, (d.cell c).bound = true → c < 4096) (hc : c < 4096)
    (hu : (d.cell c).bound = false) (vo : owns v.field = false) : (d.setCell c v).lists head owns := by
  obtain ⟨h1, h2, h3⟩ := h
  have hne : ∀ x ∈ d.bindingList head, x ≠ c := fun x hx e => by
    subst e
    have := ((h3 x).1 hx).1; rw [hu] at this; cases this
  refine Display.lists_of ((Display.strung_congr fun x hx => by rw [Display.cell_setCell_ne _ _ (hne x hx)]).2 h1) h2
    (fun x => ?_) fun x hx => ?_
  · rw [Display.cell_setCell]
    by_cases e : x = c
    · subst e
      rw [if_pos rfl, vo]
      simp only [Bool.false_eq_true, and_false, iff_false]
      exact fun hx => hne x hx rfl
    · rw [if_neg e]; exact h3 x
  · rw [Display.cell_setCell] at hx
    split at hx
    · rename_i e; rw [e]; exact hc
    · exact hb x hx

/-- The cell before `c` in a list in which `c` stands: the one whose next is `c` (R83). -/
theorem Display.before_some {d : Display} {head : Option Nat} {c b : Nat} (h : d.before head c = some b) :
    b ∈ d.bindingList head ∧ (d.cell b).next = some c := by
  unfold Display.before at h
  exact ⟨List.mem_of_find?_eq_some h, by simpa using List.find?_some h⟩

theorem Display.before_none {d : Display} {head : Option Nat} {c : Nat} (h : d.before head c = none) :
    ∀ b ∈ d.bindingList head, (d.cell b).next ≠ some c := fun b hb => by
  unfold Display.before at h
  simpa using List.find?_eq_none.1 h b hb

/-- The next of a cell of a strung list stands in the list, after its head. -/
theorem Display.strung_next_mem {d : Display} {c : Nat} {m : List Nat} {head : Option Nat} (hs : d.strung head m)
    {x : Nat} (hx : x ∈ m) (hn : (d.cell x).next = some c) : c ∈ m.tail := by
  induction m generalizing head with
  | nil => cases hx
  | cons z m ih =>
    cases head with
    | none => exact absurd hs (by simp [Display.strung])
    | some w =>
      simp only [Display.strung] at hs
      obtain ⟨rfl, hs⟩ := hs
      rcases List.mem_cons.1 hx with rfl | hx
      · rw [hn] at hs
        have := Display.strung_head hs
        cases m with
        | nil => cases this
        | cons q m => simp at this; simp [this]
      · exact List.mem_of_mem_tail (ih hs hx)

theorem filter_ne_of_not_mem {c : Nat} {l : List Nat} (h : c ∉ l) : l.filter (fun x => decide (x ≠ c)) = l :=
  List.filter_eq_self.2 fun _ ha => decide_eq_true fun e => h (e ▸ ha)

/-- In a strung list without repeats only one cell has a given next. -/
theorem Display.strung_next_unique {d : Display} {l : List Nat} {head : Option Nat} (h : d.strung head l)
    (hn : l.Nodup) {a b c : Nat} (ha : a ∈ l) (hb : b ∈ l) (na : (d.cell a).next = some c)
    (nb : (d.cell b).next = some c) : a = b := by
  induction l generalizing head with
  | nil => cases ha
  | cons x l ih =>
    cases head with
    | none => exact absurd h (by simp [Display.strung])
    | some y =>
      simp only [Display.strung] at h
      obtain ⟨rfl, h⟩ := h
      rw [List.nodup_cons] at hn
      have later : ∀ {e : Nat}, e ∈ l → (d.cell e).next = some c → (d.cell y).next ≠ some c := by
        intro e he ne ny
        rw [ny] at h
        -- c is the head of l, and e in l points at c, so c stands twice
        clear ih ha hb na nb a b
        have hc : l.head? = some c := Display.strung_head h
        obtain ⟨l', rfl⟩ : ∃ l', l = c :: l' := by
          cases l with
          | nil => cases hc
          | cons z l' => simp at hc; exact ⟨l', by rw [hc]⟩
        have := Display.strung_next_mem h he ne
        rw [List.tail_cons] at this
        exact (List.nodup_cons.1 hn.2).1 this
      rcases List.mem_cons.1 ha with ea | ha' <;> rcases List.mem_cons.1 hb with eb | hb'
      · rw [ea, eb]
      · exact absurd (ea ▸ na) (later hb' nb)
      · exact absurd (eb ▸ nb) (later ha' na)
      · exact ih h hn.2 ha' hb'

/-- The list with a cell taken out that does not head it: its predecessor takes the cell's next. -/
theorem Display.strung_remove {d d' : Display} {l : List Nat} {head : Option Nat} {c : Nat} (h : d.strung head l)
    (hn : l.Nodup) (hc : c ∈ l) (hh : head ≠ some c)
    (hp : ∀ x ∈ l, x ≠ c → (d.cell x).next = some c → (d'.cell x).next = (d.cell c).next)
    (ho : ∀ x ∈ l, x ≠ c → (d.cell x).next ≠ some c → (d'.cell x).next = (d.cell x).next) :
    d'.strung head (l.filter (· ≠ c)) := by
  induction l generalizing head with
  | nil => cases hc
  | cons x l ih =>
    cases head with
    | none => exact absurd h (by simp [Display.strung])
    | some y =>
      simp only [Display.strung] at h
      obtain ⟨rfl, h⟩ := h
      rw [List.nodup_cons] at hn
      have hyc : y ≠ c := fun e => hh (by rw [e])
      have hcl : c ∈ l := (List.mem_cons.1 hc).resolve_left (Ne.symm hyc)
      rw [List.filter_cons_of_pos (by simpa using hyc)]
      refine ⟨rfl, ?_⟩
      by_cases hnx : (d.cell y).next = some c
      · rw [hp y List.mem_cons_self hyc hnx]
        rw [hnx] at h
        cases l with
        | nil => cases hcl
        | cons z l =>
          simp only [Display.strung] at h
          obtain ⟨rfl, h⟩ := h
          rw [List.filter_cons_of_neg (by simp)]
          have hcn : c ∉ l := (List.nodup_cons.1 hn.2).1
          rw [filter_ne_of_not_mem hcn]
          refine (Display.strung_congr fun a ha => ?_).2 h
          have hac : a ≠ c := fun e => hcn (e ▸ ha)
          refine ho a (List.mem_cons_of_mem _ (List.mem_cons_of_mem _ ha)) hac fun hn2 => ?_
          have : a = y := Display.strung_next_unique (head := some y) (d := d) (l := y :: c :: l)
            ⟨rfl, by rw [hnx]; exact ⟨rfl, h⟩⟩ (List.nodup_cons.2 hn)
            (List.mem_cons_of_mem _ (List.mem_cons_of_mem _ ha)) List.mem_cons_self hn2 hnx
          exact hn.1 (this ▸ List.mem_cons_of_mem _ ha)
      · rw [ho y List.mem_cons_self hyc hnx]
        exact ih h hn.2 hcl hnx (fun a ha => hp a (List.mem_cons_of_mem _ ha))
          fun a ha => ho a (List.mem_cons_of_mem _ ha)

/-- REMOVE CELL takes the cell out of its owner's list (R83). -/
theorem Display.lists.remove {d : Display} {head : Option Nat} {owns : CellField → Bool} {c : Nat}
    (h : d.lists head owns) (hb : ∀ c, (d.cell c).bound = true → c < 4096) (hc : (d.cell c).bound = true)
    (ho : owns (d.cell c).field = true) :
    (d.unbind head c).lists (if head = some c then (d.cell c).next else head) owns := by
  obtain ⟨h1, h2, h3⟩ := h
  have hmem : c ∈ d.bindingList head := (h3 c).2 ⟨hc, ho⟩
  have hcell : ∀ x, x ≠ c → ∃ n, (d.unbind head c).cell x = { d.cell x with next := n } := fun x hx => by
    rw [Display.unbind_cell, if_neg hx]; split
    · exact ⟨_, rfl⟩
    · exact ⟨(d.cell x).next, rfl⟩
  have hvac : (d.unbind head c).cell c = Cell.vacant := by rw [Display.unbind_cell, if_pos rfl]
  have hmems : ∀ x, x ∈ (d.bindingList head).filter (· ≠ c) ↔
      ((d.unbind head c).cell x).bound = true ∧ owns ((d.unbind head c).cell x).field = true := fun x => by
    rw [List.mem_filter]
    by_cases e : x = c
    · subst e; rw [hvac]; simp [Cell.vacant]
    · obtain ⟨n, hn⟩ := hcell x e
      rw [hn]
      simp only [ne_eq, e, not_false_eq_true, decide_true, and_true]
      exact h3 x
  have hlt : ∀ x, ((d.unbind head c).cell x).bound = true → x < 4096 := fun x hx => by
    by_cases e : x = c
    · subst e; exact hb x hc
    · obtain ⟨n, hn⟩ := hcell x e
      rw [hn] at hx; exact hb x hx
  refine Display.lists_of (l := (d.bindingList head).filter (· ≠ c)) ?_ (h2.filter _) hmems hlt
  split
  · rename_i e
    subst e
    generalize hL : d.bindingList (some c) = L at *
    cases L with
    | nil => cases hmem
    | cons x l =>
      simp only [Display.strung] at h1
      obtain ⟨rfl, h1⟩ := h1
      rw [List.nodup_cons] at h2
      rw [List.filter_cons_of_neg (by simp)]
      rw [filter_ne_of_not_mem h2.1]
      refine (Display.strung_congr fun a ha => ?_).2 h1
      have hac : a ≠ c := fun e => h2.1 (e ▸ ha)
      rw [Display.unbind_cell, if_neg hac]
      split
      · rename_i hbf
        -- the predecessor would have to precede the head
        have hn := (Display.before_some hbf).2
        exfalso
        exact h2.1 (List.mem_of_mem_tail (Display.strung_next_mem h1 ha hn))
      · rfl
  · rename_i e
    refine Display.strung_remove h1 h2 hmem e (fun x hx hxc hn => ?_) fun x hx hxc hn => ?_
    · rw [Display.unbind_cell, if_neg hxc]
      have : d.before head c = some x := by
        cases hbf : d.before head c with
        | none => exact absurd hn (Display.before_none hbf x hx)
        | some b =>
          obtain ⟨b1, b2⟩ := Display.before_some hbf
          rw [Display.strung_next_unique h1 h2 b1 hx b2 hn]
      rw [if_pos this]
    · rw [Display.unbind_cell, if_neg hxc, if_neg fun hbf => hn (Display.before_some hbf).2]

/-- REMOVE CELL leaves every other list (R84). -/
theorem Display.lists.removeOther {d : Display} {head other : Option Nat} {owns rest : CellField → Bool} {c : Nat}
    (h : d.lists head owns) (g : d.lists other rest) (hb : ∀ c, (d.cell c).bound = true → c < 4096)
    (hc : (d.cell c).bound = true) (ho : rest (d.cell c).field = false)
    (hd : ∀ f, owns f = true → rest f = false) : (d.unbind head c).lists other rest := by
  obtain ⟨h1, h2, h3⟩ := h
  obtain ⟨g1, g2, g3⟩ := g
  have hcell : ∀ x, x ≠ c → ∃ n, (d.unbind head c).cell x = { d.cell x with next := n } := fun x hx => by
    rw [Display.unbind_cell, if_neg hx]; split
    · exact ⟨_, rfl⟩
    · exact ⟨(d.cell x).next, rfl⟩
  have hvac : (d.unbind head c).cell c = Cell.vacant := by rw [Display.unbind_cell, if_pos rfl]
  refine Display.lists_of (l := d.bindingList other) ((Display.strung_congr fun a ha => ?_).2 g1) g2 (fun x => ?_)
    fun x hx => ?_
  · have hac : a ≠ c := fun e => by
      subst e
      have := ((g3 a).1 ha).2; rw [ho] at this; cases this
    rw [Display.unbind_cell, if_neg hac, if_neg fun hbf => ?_]
    have k1 := ((h3 a).1 (Display.before_some hbf).1).2
    have k2 := ((g3 a).1 ha).2
    rw [hd _ k1] at k2; cases k2
  · by_cases e : x = c
    · subst e
      rw [hvac, g3, ho]; simp [Cell.vacant]
    · obtain ⟨n, hn⟩ := hcell x e
      rw [hn]; exact g3 x
  · by_cases e : x = c
    · subst e; rw [hvac] at hx; cases hx
    · obtain ⟨n, hn⟩ := hcell x e
      rw [hn] at hx; exact hb x hx

end Sys2Proof.Machine
end

