-- ==== Sys2Proof/Laws/Engines.lean ====
section
/-! SUPPORT. One lemma for each field of `State` that the engine of each request leaves as it is, and those
fields that no engine touches. -/

set_option Elab.async false
set_option linter.unusedSimpArgs false
set_option linter.unusedTactic false
set_option linter.unreachableTactic false

namespace Sys2Proof.Machine

/-! ### The ways an engine is put together -/

/-- A part of the state that the action leaves is left by the engine with its checks. -/
theorem checked_frame {α : Type} (π : State → α) {check : List Word → State → Option Answer} {act : Engine}
    {ops : List Word} {s : State} (h : π (act ops s).state = π s) : π (checked check act ops s).state = π s := by
  unfold checked
  split
  · rfl
  · exact h

/-- A part of the state that the engine leaves is left where the device mode is checked first. -/
theorem liveOnly_frame {α : Type} (π : State → α) {body : Engine} {ops : List Word} {s : State}
    (h : π (body ops s).state = π s) : π (liveOnly body ops s).state = π s := by
  unfold liveOnly
  split
  · rfl
  · exact h

/-- A part of the state other than the feed sequence expectation and the F-port's error status, left by a
report's own steps, is left by the report. -/
theorem reportEngine_frame {α : Type} (π : State → α) {body : Engine} {ops : List Word} {s : State}
    (h1 : ∀ e t, π (State.setExpectation e t) = π t) (h2 : ∀ c t, π (State.recordSome .feed c t) = π t)
    (h : π (body ops s).state = π s) : π (reportEngine body ops s).state = π s := by
  have after : ∀ c n, π (afterReport c n (body ops s)).state = π s := by
    intro c n
    unfold afterReport
    split
    · exact h
    · simp only [h1, h2, h]
  unfold reportEngine
  split
  · rfl
  split
  · rfl
  split
  · rfl
  · exact after _ _
  · exact after _ _

@[simp] theorem tradeReportEngine_pending (ops : List Word) (s : State) :
    (tradeReportEngine ops s).state.pending = s.pending :=
  reportEngine_frame (fun t => t.pending) (fun _ _ => rfl) (by simp) (checked_frame (fun t => t.pending) (by simp [tradeApply, doneWith]))
@[simp] theorem tradeReportEngine_inReset (ops : List Word) (s : State) :
    (tradeReportEngine ops s).state.inReset = s.inReset :=
  reportEngine_frame (fun t => t.inReset) (fun _ _ => rfl) (by simp) (checked_frame (fun t => t.inReset) (by simp [tradeApply, doneWith]))
@[simp] theorem tradeReportEngine_mode (ops : List Word) (s : State) :
    (tradeReportEngine ops s).state.mode = s.mode :=
  reportEngine_frame (fun t => t.mode) (fun _ _ => rfl) (by simp) (checked_frame (fun t => t.mode) (by simp [tradeApply, doneWith]))
@[simp] theorem tradeReportEngine_display (ops : List Word) (s : State) :
    (tradeReportEngine ops s).state.display = s.display :=
  reportEngine_frame (fun t => t.display) (fun _ _ => rfl) (by simp) (checked_frame (fun t => t.display) (by simp [tradeApply, doneWith]))
@[simp] theorem tradeReportEngine_pages (ops : List Word) (s : State) :
    (tradeReportEngine ops s).state.pages = s.pages :=
  reportEngine_frame (fun t => t.pages) (fun _ _ => rfl) (by simp) (checked_frame (fun t => t.pages) (by simp [tradeApply, doneWith]))
@[simp] theorem tradeReportEngine_notices (ops : List Word) (s : State) :
    (tradeReportEngine ops s).state.notices = s.notices :=
  reportEngine_frame (fun t => t.notices) (fun _ _ => rfl) (by simp) (checked_frame (fun t => t.notices) (by simp [tradeApply, doneWith]))
@[simp] theorem tradeReportEngine_timebase (ops : List Word) (s : State) :
    (tradeReportEngine ops s).state.timebase = s.timebase :=
  reportEngine_frame (fun t => t.timebase) (fun _ _ => rfl) (by simp) (checked_frame (fun t => t.timebase) (by simp [tradeApply, doneWith]))
@[simp] theorem tradeReportEngine_items (ops : List Word) (s : State) :
    (tradeReportEngine ops s).state.items = s.items :=
  reportEngine_frame (fun t => t.items) (fun _ _ => rfl) (by simp) (checked_frame (fun t => t.items) (by simp [tradeApply, doneWith]))

@[simp] theorem quoteReportEngine_pending (ops : List Word) (s : State) :
    (quoteReportEngine ops s).state.pending = s.pending :=
  reportEngine_frame (fun t => t.pending) (fun _ _ => rfl) (by simp) (checked_frame (fun t => t.pending) rfl)
@[simp] theorem quoteReportEngine_inReset (ops : List Word) (s : State) :
    (quoteReportEngine ops s).state.inReset = s.inReset :=
  reportEngine_frame (fun t => t.inReset) (fun _ _ => rfl) (by simp) (checked_frame (fun t => t.inReset) rfl)
@[simp] theorem quoteReportEngine_mode (ops : List Word) (s : State) :
    (quoteReportEngine ops s).state.mode = s.mode :=
  reportEngine_frame (fun t => t.mode) (fun _ _ => rfl) (by simp) (checked_frame (fun t => t.mode) rfl)
@[simp] theorem quoteReportEngine_display (ops : List Word) (s : State) :
    (quoteReportEngine ops s).state.display = s.display :=
  reportEngine_frame (fun t => t.display) (fun _ _ => rfl) (by simp) (checked_frame (fun t => t.display) rfl)
@[simp] theorem quoteReportEngine_tape (ops : List Word) (s : State) :
    (quoteReportEngine ops s).state.tape = s.tape :=
  reportEngine_frame (fun t => t.tape) (fun _ _ => rfl) (by simp) (checked_frame (fun t => t.tape) rfl)
@[simp] theorem quoteReportEngine_pages (ops : List Word) (s : State) :
    (quoteReportEngine ops s).state.pages = s.pages :=
  reportEngine_frame (fun t => t.pages) (fun _ _ => rfl) (by simp) (checked_frame (fun t => t.pages) rfl)
@[simp] theorem quoteReportEngine_notices (ops : List Word) (s : State) :
    (quoteReportEngine ops s).state.notices = s.notices :=
  reportEngine_frame (fun t => t.notices) (fun _ _ => rfl) (by simp) (checked_frame (fun t => t.notices) rfl)
@[simp] theorem quoteReportEngine_timebase (ops : List Word) (s : State) :
    (quoteReportEngine ops s).state.timebase = s.timebase :=
  reportEngine_frame (fun t => t.timebase) (fun _ _ => rfl) (by simp) (checked_frame (fun t => t.timebase) rfl)
@[simp] theorem quoteReportEngine_items (ops : List Word) (s : State) :
    (quoteReportEngine ops s).state.items = s.items :=
  reportEngine_frame (fun t => t.items) (fun _ _ => rfl) (by simp) (checked_frame (fun t => t.items) rfl)

@[simp] theorem sequenceResetEngine_pending (ops : List Word) (s : State) :
    (sequenceResetEngine ops s).state.pending = s.pending := by
  simp only [sequenceResetEngine, checked, liveOnly, refuse, done, doneWith]
  repeat' split
  all_goals first | rfl | simp
@[simp] theorem sequenceResetEngine_inReset (ops : List Word) (s : State) :
    (sequenceResetEngine ops s).state.inReset = s.inReset := by
  simp only [sequenceResetEngine, checked, liveOnly, refuse, done, doneWith]
  repeat' split
  all_goals first | rfl | simp
@[simp] theorem sequenceResetEngine_mode (ops : List Word) (s : State) :
    (sequenceResetEngine ops s).state.mode = s.mode := by
  simp only [sequenceResetEngine, checked, liveOnly, refuse, done, doneWith]
  repeat' split
  all_goals first | rfl | simp
@[simp] theorem sequenceResetEngine_ports (ops : List Word) (s : State) :
    (sequenceResetEngine ops s).state.ports = s.ports := by
  simp only [sequenceResetEngine, checked, liveOnly, refuse, done, doneWith]
  repeat' split
  all_goals first | rfl | simp
@[simp] theorem sequenceResetEngine_display (ops : List Word) (s : State) :
    (sequenceResetEngine ops s).state.display = s.display := by
  simp only [sequenceResetEngine, checked, liveOnly, refuse, done, doneWith]
  repeat' split
  all_goals first | rfl | simp
@[simp] theorem sequenceResetEngine_tape (ops : List Word) (s : State) :
    (sequenceResetEngine ops s).state.tape = s.tape := by
  simp only [sequenceResetEngine, checked, liveOnly, refuse, done, doneWith]
  repeat' split
  all_goals first | rfl | simp
@[simp] theorem sequenceResetEngine_pages (ops : List Word) (s : State) :
    (sequenceResetEngine ops s).state.pages = s.pages := by
  simp only [sequenceResetEngine, checked, liveOnly, refuse, done, doneWith]
  repeat' split
  all_goals first | rfl | simp
@[simp] theorem sequenceResetEngine_notices (ops : List Word) (s : State) :
    (sequenceResetEngine ops s).state.notices = s.notices := by
  simp only [sequenceResetEngine, checked, liveOnly, refuse, done, doneWith]
  repeat' split
  all_goals first | rfl | simp
@[simp] theorem sequenceResetEngine_timebase (ops : List Word) (s : State) :
    (sequenceResetEngine ops s).state.timebase = s.timebase := by
  simp only [sequenceResetEngine, checked, liveOnly, refuse, done, doneWith]
  repeat' split
  all_goals first | rfl | simp
@[simp] theorem sequenceResetEngine_items (ops : List Word) (s : State) :
    (sequenceResetEngine ops s).state.items = s.items := by
  simp only [sequenceResetEngine, checked, liveOnly, refuse, done, doneWith]
  repeat' split
  all_goals first | rfl | simp
@[simp] theorem sequenceResetEngine_transit (ops : List Word) (s : State) :
    (sequenceResetEngine ops s).state.transit = s.transit := by
  simp only [sequenceResetEngine, checked, liveOnly, refuse, done, doneWith]
  repeat' split
  all_goals first | rfl | simp

@[simp] theorem readInstrumentEngine_pending (ops : List Word) (s : State) :
    (readInstrumentEngine ops s).state.pending = s.pending := by
  simp only [readInstrumentEngine, checked, liveOnly, refuse, done, doneWith]
  repeat' split
  all_goals first | rfl | simp
@[simp] theorem readInstrumentEngine_inReset (ops : List Word) (s : State) :
    (readInstrumentEngine ops s).state.inReset = s.inReset := by
  simp only [readInstrumentEngine, checked, liveOnly, refuse, done, doneWith]
  repeat' split
  all_goals first | rfl | simp
@[simp] theorem readInstrumentEngine_mode (ops : List Word) (s : State) :
    (readInstrumentEngine ops s).state.mode = s.mode := by
  simp only [readInstrumentEngine, checked, liveOnly, refuse, done, doneWith]
  repeat' split
  all_goals first | rfl | simp
@[simp] theorem readInstrumentEngine_ports (ops : List Word) (s : State) :
    (readInstrumentEngine ops s).state.ports = s.ports := by
  simp only [readInstrumentEngine, checked, liveOnly, refuse, done, doneWith]
  repeat' split
  all_goals first | rfl | simp
@[simp] theorem readInstrumentEngine_quote (ops : List Word) (s : State) :
    (readInstrumentEngine ops s).state.quote = s.quote := by
  simp only [readInstrumentEngine, checked, liveOnly, refuse, done, doneWith]
  repeat' split
  all_goals first | rfl | simp
@[simp] theorem readInstrumentEngine_display (ops : List Word) (s : State) :
    (readInstrumentEngine ops s).state.display = s.display := by
  simp only [readInstrumentEngine, checked, liveOnly, refuse, done, doneWith]
  repeat' split
  all_goals first | rfl | simp
@[simp] theorem readInstrumentEngine_tape (ops : List Word) (s : State) :
    (readInstrumentEngine ops s).state.tape = s.tape := by
  simp only [readInstrumentEngine, checked, liveOnly, refuse, done, doneWith]
  repeat' split
  all_goals first | rfl | simp
@[simp] theorem readInstrumentEngine_pages (ops : List Word) (s : State) :
    (readInstrumentEngine ops s).state.pages = s.pages := by
  simp only [readInstrumentEngine, checked, liveOnly, refuse, done, doneWith]
  repeat' split
  all_goals first | rfl | simp
@[simp] theorem readInstrumentEngine_notices (ops : List Word) (s : State) :
    (readInstrumentEngine ops s).state.notices = s.notices := by
  simp only [readInstrumentEngine, checked, liveOnly, refuse, done, doneWith]
  repeat' split
  all_goals first | rfl | simp
@[simp] theorem readInstrumentEngine_timebase (ops : List Word) (s : State) :
    (readInstrumentEngine ops s).state.timebase = s.timebase := by
  simp only [readInstrumentEngine, checked, liveOnly, refuse, done, doneWith]
  repeat' split
  all_goals first | rfl | simp
@[simp] theorem readInstrumentEngine_items (ops : List Word) (s : State) :
    (readInstrumentEngine ops s).state.items = s.items := by
  simp only [readInstrumentEngine, checked, liveOnly, refuse, done, doneWith]
  repeat' split
  all_goals first | rfl | simp
@[simp] theorem readInstrumentEngine_transit (ops : List Word) (s : State) :
    (readInstrumentEngine ops s).state.transit = s.transit := by
  simp only [readInstrumentEngine, checked, liveOnly, refuse, done, doneWith]
  repeat' split
  all_goals first | rfl | simp

@[simp] theorem findSymbolEngine_pending (ops : List Word) (s : State) :
    (findSymbolEngine ops s).state.pending = s.pending := by
  simp only [findSymbolEngine, checked, liveOnly, refuse, done, doneWith]
  repeat' split
  all_goals first | rfl | simp
@[simp] theorem findSymbolEngine_inReset (ops : List Word) (s : State) :
    (findSymbolEngine ops s).state.inReset = s.inReset := by
  simp only [findSymbolEngine, checked, liveOnly, refuse, done, doneWith]
  repeat' split
  all_goals first | rfl | simp
@[simp] theorem findSymbolEngine_mode (ops : List Word) (s : State) :
    (findSymbolEngine ops s).state.mode = s.mode := by
  simp only [findSymbolEngine, checked, liveOnly, refuse, done, doneWith]
  repeat' split
  all_goals first | rfl | simp
@[simp] theorem findSymbolEngine_ports (ops : List Word) (s : State) :
    (findSymbolEngine ops s).state.ports = s.ports := by
  simp only [findSymbolEngine, checked, liveOnly, refuse, done, doneWith]
  repeat' split
  all_goals first | rfl | simp
@[simp] theorem findSymbolEngine_quote (ops : List Word) (s : State) :
    (findSymbolEngine ops s).state.quote = s.quote := by
  simp only [findSymbolEngine, checked, liveOnly, refuse, done, doneWith]
  repeat' split
  all_goals first | rfl | simp
@[simp] theorem findSymbolEngine_display (ops : List Word) (s : State) :
    (findSymbolEngine ops s).state.display = s.display := by
  simp only [findSymbolEngine, checked, liveOnly, refuse, done, doneWith]
  repeat' split
  all_goals first | rfl | simp
@[simp] theorem findSymbolEngine_tape (ops : List Word) (s : State) :
    (findSymbolEngine ops s).state.tape = s.tape := by
  simp only [findSymbolEngine, checked, liveOnly, refuse, done, doneWith]
  repeat' split
  all_goals first | rfl | simp
@[simp] theorem findSymbolEngine_pages (ops : List Word) (s : State) :
    (findSymbolEngine ops s).state.pages = s.pages := by
  simp only [findSymbolEngine, checked, liveOnly, refuse, done, doneWith]
  repeat' split
  all_goals first | rfl | simp
@[simp] theorem findSymbolEngine_notices (ops : List Word) (s : State) :
    (findSymbolEngine ops s).state.notices = s.notices := by
  simp only [findSymbolEngine, checked, liveOnly, refuse, done, doneWith]
  repeat' split
  all_goals first | rfl | simp
@[simp] theorem findSymbolEngine_timebase (ops : List Word) (s : State) :
    (findSymbolEngine ops s).state.timebase = s.timebase := by
  simp only [findSymbolEngine, checked, liveOnly, refuse, done, doneWith]
  repeat' split
  all_goals first | rfl | simp
@[simp] theorem findSymbolEngine_items (ops : List Word) (s : State) :
    (findSymbolEngine ops s).state.items = s.items := by
  simp only [findSymbolEngine, checked, liveOnly, refuse, done, doneWith]
  repeat' split
  all_goals first | rfl | simp
@[simp] theorem findSymbolEngine_transit (ops : List Word) (s : State) :
    (findSymbolEngine ops s).state.transit = s.transit := by
  simp only [findSymbolEngine, checked, liveOnly, refuse, done, doneWith]
  repeat' split
  all_goals first | rfl | simp

@[simp] theorem defineInstrumentEngine_pending (ops : List Word) (s : State) :
    (defineInstrumentEngine ops s).state.pending = s.pending := by
  simp only [defineInstrumentEngine, checked, liveOnly, refuse, done, doneWith]
  repeat' split
  all_goals first | rfl | simp
@[simp] theorem defineInstrumentEngine_inReset (ops : List Word) (s : State) :
    (defineInstrumentEngine ops s).state.inReset = s.inReset := by
  simp only [defineInstrumentEngine, checked, liveOnly, refuse, done, doneWith]
  repeat' split
  all_goals first | rfl | simp
@[simp] theorem defineInstrumentEngine_mode (ops : List Word) (s : State) :
    (defineInstrumentEngine ops s).state.mode = s.mode := by
  simp only [defineInstrumentEngine, checked, liveOnly, refuse, done, doneWith]
  repeat' split
  all_goals first | rfl | simp
@[simp] theorem defineInstrumentEngine_ports (ops : List Word) (s : State) :
    (defineInstrumentEngine ops s).state.ports = s.ports := by
  simp only [defineInstrumentEngine, checked, liveOnly, refuse, done, doneWith]
  repeat' split
  all_goals first | rfl | simp
@[simp] theorem defineInstrumentEngine_display (ops : List Word) (s : State) :
    (defineInstrumentEngine ops s).state.display = s.display := by
  simp only [defineInstrumentEngine, checked, liveOnly, refuse, done, doneWith]
  repeat' split
  all_goals first | rfl | simp
@[simp] theorem defineInstrumentEngine_tape (ops : List Word) (s : State) :
    (defineInstrumentEngine ops s).state.tape = s.tape := by
  simp only [defineInstrumentEngine, checked, liveOnly, refuse, done, doneWith]
  repeat' split
  all_goals first | rfl | simp
@[simp] theorem defineInstrumentEngine_pages (ops : List Word) (s : State) :
    (defineInstrumentEngine ops s).state.pages = s.pages := by
  simp only [defineInstrumentEngine, checked, liveOnly, refuse, done, doneWith]
  repeat' split
  all_goals first | rfl | simp
@[simp] theorem defineInstrumentEngine_notices (ops : List Word) (s : State) :
    (defineInstrumentEngine ops s).state.notices = s.notices := by
  simp only [defineInstrumentEngine, checked, liveOnly, refuse, done, doneWith]
  repeat' split
  all_goals first | rfl | simp
@[simp] theorem defineInstrumentEngine_timebase (ops : List Word) (s : State) :
    (defineInstrumentEngine ops s).state.timebase = s.timebase := by
  simp only [defineInstrumentEngine, checked, liveOnly, refuse, done, doneWith]
  repeat' split
  all_goals first | rfl | simp
@[simp] theorem defineInstrumentEngine_items (ops : List Word) (s : State) :
    (defineInstrumentEngine ops s).state.items = s.items := by
  simp only [defineInstrumentEngine, checked, liveOnly, refuse, done, doneWith]
  repeat' split
  all_goals first | rfl | simp

@[simp] theorem modifyInstrumentEngine_pending (ops : List Word) (s : State) :
    (modifyInstrumentEngine ops s).state.pending = s.pending := by
  simp only [modifyInstrumentEngine, checked, liveOnly, refuse, done, doneWith]
  repeat' split
  all_goals first | rfl | simp
@[simp] theorem modifyInstrumentEngine_inReset (ops : List Word) (s : State) :
    (modifyInstrumentEngine ops s).state.inReset = s.inReset := by
  simp only [modifyInstrumentEngine, checked, liveOnly, refuse, done, doneWith]
  repeat' split
  all_goals first | rfl | simp
@[simp] theorem modifyInstrumentEngine_mode (ops : List Word) (s : State) :
    (modifyInstrumentEngine ops s).state.mode = s.mode := by
  simp only [modifyInstrumentEngine, checked, liveOnly, refuse, done, doneWith]
  repeat' split
  all_goals first | rfl | simp
@[simp] theorem modifyInstrumentEngine_ports (ops : List Word) (s : State) :
    (modifyInstrumentEngine ops s).state.ports = s.ports := by
  simp only [modifyInstrumentEngine, checked, liveOnly, refuse, done, doneWith]
  repeat' split
  all_goals first | rfl | simp
@[simp] theorem modifyInstrumentEngine_display (ops : List Word) (s : State) :
    (modifyInstrumentEngine ops s).state.display = s.display := by
  simp only [modifyInstrumentEngine, checked, liveOnly, refuse, done, doneWith]
  repeat' split
  all_goals first | rfl | simp
@[simp] theorem modifyInstrumentEngine_tape (ops : List Word) (s : State) :
    (modifyInstrumentEngine ops s).state.tape = s.tape := by
  simp only [modifyInstrumentEngine, checked, liveOnly, refuse, done, doneWith]
  repeat' split
  all_goals first | rfl | simp
@[simp] theorem modifyInstrumentEngine_pages (ops : List Word) (s : State) :
    (modifyInstrumentEngine ops s).state.pages = s.pages := by
  simp only [modifyInstrumentEngine, checked, liveOnly, refuse, done, doneWith]
  repeat' split
  all_goals first | rfl | simp
@[simp] theorem modifyInstrumentEngine_notices (ops : List Word) (s : State) :
    (modifyInstrumentEngine ops s).state.notices = s.notices := by
  simp only [modifyInstrumentEngine, checked, liveOnly, refuse, done, doneWith]
  repeat' split
  all_goals first | rfl | simp
@[simp] theorem modifyInstrumentEngine_timebase (ops : List Word) (s : State) :
    (modifyInstrumentEngine ops s).state.timebase = s.timebase := by
  simp only [modifyInstrumentEngine, checked, liveOnly, refuse, done, doneWith]
  repeat' split
  all_goals first | rfl | simp
@[simp] theorem modifyInstrumentEngine_items (ops : List Word) (s : State) :
    (modifyInstrumentEngine ops s).state.items = s.items := by
  simp only [modifyInstrumentEngine, checked, liveOnly, refuse, done, doneWith]
  repeat' split
  all_goals first | rfl | simp

@[simp] theorem removeInstrumentEngine_pending (ops : List Word) (s : State) :
    (removeInstrumentEngine ops s).state.pending = s.pending := by
  simp only [removeInstrumentEngine, checked, liveOnly, refuse, done, doneWith]
  repeat' split
  all_goals first | rfl | simp
@[simp] theorem removeInstrumentEngine_inReset (ops : List Word) (s : State) :
    (removeInstrumentEngine ops s).state.inReset = s.inReset := by
  simp only [removeInstrumentEngine, checked, liveOnly, refuse, done, doneWith]
  repeat' split
  all_goals first | rfl | simp
@[simp] theorem removeInstrumentEngine_mode (ops : List Word) (s : State) :
    (removeInstrumentEngine ops s).state.mode = s.mode := by
  simp only [removeInstrumentEngine, checked, liveOnly, refuse, done, doneWith]
  repeat' split
  all_goals first | rfl | simp
@[simp] theorem removeInstrumentEngine_ports (ops : List Word) (s : State) :
    (removeInstrumentEngine ops s).state.ports = s.ports := by
  simp only [removeInstrumentEngine, checked, liveOnly, refuse, done, doneWith]
  repeat' split
  all_goals first | rfl | simp
@[simp] theorem removeInstrumentEngine_display (ops : List Word) (s : State) :
    (removeInstrumentEngine ops s).state.display = s.display := by
  simp only [removeInstrumentEngine, checked, liveOnly, refuse, done, doneWith]
  repeat' split
  all_goals first | rfl | simp
@[simp] theorem removeInstrumentEngine_tape (ops : List Word) (s : State) :
    (removeInstrumentEngine ops s).state.tape = s.tape := by
  simp only [removeInstrumentEngine, checked, liveOnly, refuse, done, doneWith]
  repeat' split
  all_goals first | rfl | simp
@[simp] theorem removeInstrumentEngine_pages (ops : List Word) (s : State) :
    (removeInstrumentEngine ops s).state.pages = s.pages := by
  simp only [removeInstrumentEngine, checked, liveOnly, refuse, done, doneWith]
  repeat' split
  all_goals first | rfl | simp
@[simp] theorem removeInstrumentEngine_notices (ops : List Word) (s : State) :
    (removeInstrumentEngine ops s).state.notices = s.notices := by
  simp only [removeInstrumentEngine, checked, liveOnly, refuse, done, doneWith]
  repeat' split
  all_goals first | rfl | simp
@[simp] theorem removeInstrumentEngine_timebase (ops : List Word) (s : State) :
    (removeInstrumentEngine ops s).state.timebase = s.timebase := by
  simp only [removeInstrumentEngine, checked, liveOnly, refuse, done, doneWith]
  repeat' split
  all_goals first | rfl | simp
@[simp] theorem removeInstrumentEngine_items (ops : List Word) (s : State) :
    (removeInstrumentEngine ops s).state.items = s.items := by
  simp only [removeInstrumentEngine, checked, liveOnly, refuse, done, doneWith]
  repeat' split
  all_goals first | rfl | simp
@[simp] theorem removeInstrumentEngine_transit (ops : List Word) (s : State) :
    (removeInstrumentEngine ops s).state.transit = s.transit := by
  simp only [removeInstrumentEngine, checked, liveOnly, refuse, done, doneWith]
  repeat' split
  all_goals first | rfl | simp

@[simp] theorem openSessionEngine_pending (ops : List Word) (s : State) :
    (openSessionEngine ops s).state.pending = s.pending := by
  simp only [openSessionEngine, checked, liveOnly, refuse, done, doneWith]
  repeat' split
  all_goals first | rfl | simp
@[simp] theorem openSessionEngine_inReset (ops : List Word) (s : State) :
    (openSessionEngine ops s).state.inReset = s.inReset := by
  simp only [openSessionEngine, checked, liveOnly, refuse, done, doneWith]
  repeat' split
  all_goals first | rfl | simp
@[simp] theorem openSessionEngine_mode (ops : List Word) (s : State) :
    (openSessionEngine ops s).state.mode = s.mode := by
  simp only [openSessionEngine, checked, liveOnly, refuse, done, doneWith]
  repeat' split
  all_goals first | rfl | simp
@[simp] theorem openSessionEngine_ports (ops : List Word) (s : State) :
    (openSessionEngine ops s).state.ports = s.ports := by
  simp only [openSessionEngine, checked, liveOnly, refuse, done, doneWith]
  repeat' split
  all_goals first | rfl | simp
@[simp] theorem openSessionEngine_display (ops : List Word) (s : State) :
    (openSessionEngine ops s).state.display = s.display := by
  simp only [openSessionEngine, checked, liveOnly, refuse, done, doneWith]
  repeat' split
  all_goals first | rfl | simp
@[simp] theorem openSessionEngine_pages (ops : List Word) (s : State) :
    (openSessionEngine ops s).state.pages = s.pages := by
  simp only [openSessionEngine, checked, liveOnly, refuse, done, doneWith]
  repeat' split
  all_goals first | rfl | simp
@[simp] theorem openSessionEngine_notices (ops : List Word) (s : State) :
    (openSessionEngine ops s).state.notices = s.notices := by
  simp only [openSessionEngine, checked, liveOnly, refuse, done, doneWith]
  repeat' split
  all_goals first | rfl | simp
@[simp] theorem openSessionEngine_timebase (ops : List Word) (s : State) :
    (openSessionEngine ops s).state.timebase = s.timebase := by
  simp only [openSessionEngine, checked, liveOnly, refuse, done, doneWith]
  repeat' split
  all_goals first | rfl | simp
@[simp] theorem openSessionEngine_items (ops : List Word) (s : State) :
    (openSessionEngine ops s).state.items = s.items := by
  simp only [openSessionEngine, checked, liveOnly, refuse, done, doneWith]
  repeat' split
  all_goals first | rfl | simp

@[simp] theorem closeSessionEngine_pending (ops : List Word) (s : State) :
    (closeSessionEngine ops s).state.pending = s.pending := by
  simp only [closeSessionEngine, checked, liveOnly, refuse, done, doneWith]
  repeat' split
  all_goals first | rfl | simp
@[simp] theorem closeSessionEngine_inReset (ops : List Word) (s : State) :
    (closeSessionEngine ops s).state.inReset = s.inReset := by
  simp only [closeSessionEngine, checked, liveOnly, refuse, done, doneWith]
  repeat' split
  all_goals first | rfl | simp
@[simp] theorem closeSessionEngine_mode (ops : List Word) (s : State) :
    (closeSessionEngine ops s).state.mode = s.mode := by
  simp only [closeSessionEngine, checked, liveOnly, refuse, done, doneWith]
  repeat' split
  all_goals first | rfl | simp
@[simp] theorem closeSessionEngine_ports (ops : List Word) (s : State) :
    (closeSessionEngine ops s).state.ports = s.ports := by
  simp only [closeSessionEngine, checked, liveOnly, refuse, done, doneWith]
  repeat' split
  all_goals first | rfl | simp
@[simp] theorem closeSessionEngine_display (ops : List Word) (s : State) :
    (closeSessionEngine ops s).state.display = s.display := by
  simp only [closeSessionEngine, checked, liveOnly, refuse, done, doneWith]
  repeat' split
  all_goals first | rfl | simp
@[simp] theorem closeSessionEngine_pages (ops : List Word) (s : State) :
    (closeSessionEngine ops s).state.pages = s.pages := by
  simp only [closeSessionEngine, checked, liveOnly, refuse, done, doneWith]
  repeat' split
  all_goals first | rfl | simp
@[simp] theorem closeSessionEngine_notices (ops : List Word) (s : State) :
    (closeSessionEngine ops s).state.notices = s.notices := by
  simp only [closeSessionEngine, checked, liveOnly, refuse, done, doneWith]
  repeat' split
  all_goals first | rfl | simp
@[simp] theorem closeSessionEngine_timebase (ops : List Word) (s : State) :
    (closeSessionEngine ops s).state.timebase = s.timebase := by
  simp only [closeSessionEngine, checked, liveOnly, refuse, done, doneWith]
  repeat' split
  all_goals first | rfl | simp
@[simp] theorem closeSessionEngine_items (ops : List Word) (s : State) :
    (closeSessionEngine ops s).state.items = s.items := by
  simp only [closeSessionEngine, checked, liveOnly, refuse, done, doneWith]
  repeat' split
  all_goals first | rfl | simp

@[simp] theorem rollSessionEngine_pending (ops : List Word) (s : State) :
    (rollSessionEngine ops s).state.pending = s.pending := by
  simp only [rollSessionEngine, checked, liveOnly, refuse, done, doneWith]
  repeat' split
  all_goals first | rfl | simp
@[simp] theorem rollSessionEngine_inReset (ops : List Word) (s : State) :
    (rollSessionEngine ops s).state.inReset = s.inReset := by
  simp only [rollSessionEngine, checked, liveOnly, refuse, done, doneWith]
  repeat' split
  all_goals first | rfl | simp
@[simp] theorem rollSessionEngine_mode (ops : List Word) (s : State) :
    (rollSessionEngine ops s).state.mode = s.mode := by
  simp only [rollSessionEngine, checked, liveOnly, refuse, done, doneWith]
  repeat' split
  all_goals first | rfl | simp
@[simp] theorem rollSessionEngine_ports (ops : List Word) (s : State) :
    (rollSessionEngine ops s).state.ports = s.ports := by
  simp only [rollSessionEngine, checked, liveOnly, refuse, done, doneWith]
  repeat' split
  all_goals first | rfl | simp
@[simp] theorem rollSessionEngine_display (ops : List Word) (s : State) :
    (rollSessionEngine ops s).state.display = s.display := by
  simp only [rollSessionEngine, checked, liveOnly, refuse, done, doneWith]
  repeat' split
  all_goals first | rfl | simp
@[simp] theorem rollSessionEngine_tape (ops : List Word) (s : State) :
    (rollSessionEngine ops s).state.tape = s.tape := by
  simp only [rollSessionEngine, checked, liveOnly, refuse, done, doneWith]
  repeat' split
  all_goals first | rfl | simp
@[simp] theorem rollSessionEngine_pages (ops : List Word) (s : State) :
    (rollSessionEngine ops s).state.pages = s.pages := by
  simp only [rollSessionEngine, checked, liveOnly, refuse, done, doneWith]
  repeat' split
  all_goals first | rfl | simp
@[simp] theorem rollSessionEngine_notices (ops : List Word) (s : State) :
    (rollSessionEngine ops s).state.notices = s.notices := by
  simp only [rollSessionEngine, checked, liveOnly, refuse, done, doneWith]
  repeat' split
  all_goals first | rfl | simp
@[simp] theorem rollSessionEngine_timebase (ops : List Word) (s : State) :
    (rollSessionEngine ops s).state.timebase = s.timebase := by
  simp only [rollSessionEngine, checked, liveOnly, refuse, done, doneWith]
  repeat' split
  all_goals first | rfl | simp
@[simp] theorem rollSessionEngine_items (ops : List Word) (s : State) :
    (rollSessionEngine ops s).state.items = s.items := by
  simp only [rollSessionEngine, checked, liveOnly, refuse, done, doneWith]
  repeat' split
  all_goals first | rfl | simp
@[simp] theorem rollSessionEngine_transit (ops : List Word) (s : State) :
    (rollSessionEngine ops s).state.transit = s.transit := by
  simp only [rollSessionEngine, checked, liveOnly, refuse, done, doneWith]
  repeat' split
  all_goals first | rfl | simp

@[simp] theorem haltEngine_pending (ops : List Word) (s : State) :
    (haltEngine ops s).state.pending = s.pending := by
  simp only [haltEngine, checked, liveOnly, refuse, done, doneWith]
  repeat' split
  all_goals first | rfl | simp
@[simp] theorem haltEngine_inReset (ops : List Word) (s : State) :
    (haltEngine ops s).state.inReset = s.inReset := by
  simp only [haltEngine, checked, liveOnly, refuse, done, doneWith]
  repeat' split
  all_goals first | rfl | simp
@[simp] theorem haltEngine_mode (ops : List Word) (s : State) :
    (haltEngine ops s).state.mode = s.mode := by
  simp only [haltEngine, checked, liveOnly, refuse, done, doneWith]
  repeat' split
  all_goals first | rfl | simp
@[simp] theorem haltEngine_ports (ops : List Word) (s : State) :
    (haltEngine ops s).state.ports = s.ports := by
  simp only [haltEngine, checked, liveOnly, refuse, done, doneWith]
  repeat' split
  all_goals first | rfl | simp
@[simp] theorem haltEngine_display (ops : List Word) (s : State) :
    (haltEngine ops s).state.display = s.display := by
  simp only [haltEngine, checked, liveOnly, refuse, done, doneWith]
  repeat' split
  all_goals first | rfl | simp
@[simp] theorem haltEngine_pages (ops : List Word) (s : State) :
    (haltEngine ops s).state.pages = s.pages := by
  simp only [haltEngine, checked, liveOnly, refuse, done, doneWith]
  repeat' split
  all_goals first | rfl | simp
@[simp] theorem haltEngine_notices (ops : List Word) (s : State) :
    (haltEngine ops s).state.notices = s.notices := by
  simp only [haltEngine, checked, liveOnly, refuse, done, doneWith]
  repeat' split
  all_goals first | rfl | simp
@[simp] theorem haltEngine_timebase (ops : List Word) (s : State) :
    (haltEngine ops s).state.timebase = s.timebase := by
  simp only [haltEngine, checked, liveOnly, refuse, done, doneWith]
  repeat' split
  all_goals first | rfl | simp
@[simp] theorem haltEngine_items (ops : List Word) (s : State) :
    (haltEngine ops s).state.items = s.items := by
  simp only [haltEngine, checked, liveOnly, refuse, done, doneWith]
  repeat' split
  all_goals first | rfl | simp

@[simp] theorem resumeEngine_pending (ops : List Word) (s : State) :
    (resumeEngine ops s).state.pending = s.pending := by
  simp only [resumeEngine, checked, liveOnly, refuse, done, doneWith]
  repeat' split
  all_goals first | rfl | simp
@[simp] theorem resumeEngine_inReset (ops : List Word) (s : State) :
    (resumeEngine ops s).state.inReset = s.inReset := by
  simp only [resumeEngine, checked, liveOnly, refuse, done, doneWith]
  repeat' split
  all_goals first | rfl | simp
@[simp] theorem resumeEngine_mode (ops : List Word) (s : State) :
    (resumeEngine ops s).state.mode = s.mode := by
  simp only [resumeEngine, checked, liveOnly, refuse, done, doneWith]
  repeat' split
  all_goals first | rfl | simp
@[simp] theorem resumeEngine_ports (ops : List Word) (s : State) :
    (resumeEngine ops s).state.ports = s.ports := by
  simp only [resumeEngine, checked, liveOnly, refuse, done, doneWith]
  repeat' split
  all_goals first | rfl | simp
@[simp] theorem resumeEngine_display (ops : List Word) (s : State) :
    (resumeEngine ops s).state.display = s.display := by
  simp only [resumeEngine, checked, liveOnly, refuse, done, doneWith]
  repeat' split
  all_goals first | rfl | simp
@[simp] theorem resumeEngine_pages (ops : List Word) (s : State) :
    (resumeEngine ops s).state.pages = s.pages := by
  simp only [resumeEngine, checked, liveOnly, refuse, done, doneWith]
  repeat' split
  all_goals first | rfl | simp
@[simp] theorem resumeEngine_notices (ops : List Word) (s : State) :
    (resumeEngine ops s).state.notices = s.notices := by
  simp only [resumeEngine, checked, liveOnly, refuse, done, doneWith]
  repeat' split
  all_goals first | rfl | simp
@[simp] theorem resumeEngine_timebase (ops : List Word) (s : State) :
    (resumeEngine ops s).state.timebase = s.timebase := by
  simp only [resumeEngine, checked, liveOnly, refuse, done, doneWith]
  repeat' split
  all_goals first | rfl | simp
@[simp] theorem resumeEngine_items (ops : List Word) (s : State) :
    (resumeEngine ops s).state.items = s.items := by
  simp only [resumeEngine, checked, liveOnly, refuse, done, doneWith]
  repeat' split
  all_goals first | rfl | simp

@[simp] theorem setFastMarketEngine_pending (ops : List Word) (s : State) :
    (setFastMarketEngine ops s).state.pending = s.pending := by
  simp only [setFastMarketEngine, fastMarketEngine, checked, liveOnly, refuse, done, doneWith]
  repeat' split
  all_goals first | rfl | simp
@[simp] theorem setFastMarketEngine_inReset (ops : List Word) (s : State) :
    (setFastMarketEngine ops s).state.inReset = s.inReset := by
  simp only [setFastMarketEngine, fastMarketEngine, checked, liveOnly, refuse, done, doneWith]
  repeat' split
  all_goals first | rfl | simp
@[simp] theorem setFastMarketEngine_mode (ops : List Word) (s : State) :
    (setFastMarketEngine ops s).state.mode = s.mode := by
  simp only [setFastMarketEngine, fastMarketEngine, checked, liveOnly, refuse, done, doneWith]
  repeat' split
  all_goals first | rfl | simp
@[simp] theorem setFastMarketEngine_ports (ops : List Word) (s : State) :
    (setFastMarketEngine ops s).state.ports = s.ports := by
  simp only [setFastMarketEngine, fastMarketEngine, checked, liveOnly, refuse, done, doneWith]
  repeat' split
  all_goals first | rfl | simp
@[simp] theorem setFastMarketEngine_display (ops : List Word) (s : State) :
    (setFastMarketEngine ops s).state.display = s.display := by
  simp only [setFastMarketEngine, fastMarketEngine, checked, liveOnly, refuse, done, doneWith]
  repeat' split
  all_goals first | rfl | simp
@[simp] theorem setFastMarketEngine_tape (ops : List Word) (s : State) :
    (setFastMarketEngine ops s).state.tape = s.tape := by
  simp only [setFastMarketEngine, fastMarketEngine, checked, liveOnly, refuse, done, doneWith]
  repeat' split
  all_goals first | rfl | simp
@[simp] theorem setFastMarketEngine_pages (ops : List Word) (s : State) :
    (setFastMarketEngine ops s).state.pages = s.pages := by
  simp only [setFastMarketEngine, fastMarketEngine, checked, liveOnly, refuse, done, doneWith]
  repeat' split
  all_goals first | rfl | simp
@[simp] theorem setFastMarketEngine_notices (ops : List Word) (s : State) :
    (setFastMarketEngine ops s).state.notices = s.notices := by
  simp only [setFastMarketEngine, fastMarketEngine, checked, liveOnly, refuse, done, doneWith]
  repeat' split
  all_goals first | rfl | simp
@[simp] theorem setFastMarketEngine_timebase (ops : List Word) (s : State) :
    (setFastMarketEngine ops s).state.timebase = s.timebase := by
  simp only [setFastMarketEngine, fastMarketEngine, checked, liveOnly, refuse, done, doneWith]
  repeat' split
  all_goals first | rfl | simp
@[simp] theorem setFastMarketEngine_items (ops : List Word) (s : State) :
    (setFastMarketEngine ops s).state.items = s.items := by
  simp only [setFastMarketEngine, fastMarketEngine, checked, liveOnly, refuse, done, doneWith]
  repeat' split
  all_goals first | rfl | simp

@[simp] theorem clearFastMarketEngine_pending (ops : List Word) (s : State) :
    (clearFastMarketEngine ops s).state.pending = s.pending := by
  simp only [clearFastMarketEngine, fastMarketEngine, checked, liveOnly, refuse, done, doneWith]
  repeat' split
  all_goals first | rfl | simp
@[simp] theorem clearFastMarketEngine_inReset (ops : List Word) (s : State) :
    (clearFastMarketEngine ops s).state.inReset = s.inReset := by
  simp only [clearFastMarketEngine, fastMarketEngine, checked, liveOnly, refuse, done, doneWith]
  repeat' split
  all_goals first | rfl | simp
@[simp] theorem clearFastMarketEngine_mode (ops : List Word) (s : State) :
    (clearFastMarketEngine ops s).state.mode = s.mode := by
  simp only [clearFastMarketEngine, fastMarketEngine, checked, liveOnly, refuse, done, doneWith]
  repeat' split
  all_goals first | rfl | simp
@[simp] theorem clearFastMarketEngine_ports (ops : List Word) (s : State) :
    (clearFastMarketEngine ops s).state.ports = s.ports := by
  simp only [clearFastMarketEngine, fastMarketEngine, checked, liveOnly, refuse, done, doneWith]
  repeat' split
  all_goals first | rfl | simp
@[simp] theorem clearFastMarketEngine_display (ops : List Word) (s : State) :
    (clearFastMarketEngine ops s).state.display = s.display := by
  simp only [clearFastMarketEngine, fastMarketEngine, checked, liveOnly, refuse, done, doneWith]
  repeat' split
  all_goals first | rfl | simp
@[simp] theorem clearFastMarketEngine_tape (ops : List Word) (s : State) :
    (clearFastMarketEngine ops s).state.tape = s.tape := by
  simp only [clearFastMarketEngine, fastMarketEngine, checked, liveOnly, refuse, done, doneWith]
  repeat' split
  all_goals first | rfl | simp
@[simp] theorem clearFastMarketEngine_pages (ops : List Word) (s : State) :
    (clearFastMarketEngine ops s).state.pages = s.pages := by
  simp only [clearFastMarketEngine, fastMarketEngine, checked, liveOnly, refuse, done, doneWith]
  repeat' split
  all_goals first | rfl | simp
@[simp] theorem clearFastMarketEngine_notices (ops : List Word) (s : State) :
    (clearFastMarketEngine ops s).state.notices = s.notices := by
  simp only [clearFastMarketEngine, fastMarketEngine, checked, liveOnly, refuse, done, doneWith]
  repeat' split
  all_goals first | rfl | simp
@[simp] theorem clearFastMarketEngine_timebase (ops : List Word) (s : State) :
    (clearFastMarketEngine ops s).state.timebase = s.timebase := by
  simp only [clearFastMarketEngine, fastMarketEngine, checked, liveOnly, refuse, done, doneWith]
  repeat' split
  all_goals first | rfl | simp
@[simp] theorem clearFastMarketEngine_items (ops : List Word) (s : State) :
    (clearFastMarketEngine ops s).state.items = s.items := by
  simp only [clearFastMarketEngine, fastMarketEngine, checked, liveOnly, refuse, done, doneWith]
  repeat' split
  all_goals first | rfl | simp

@[simp] theorem cancelPrintEngine_pending (ops : List Word) (s : State) :
    (cancelPrintEngine ops s).state.pending = s.pending := by
  simp only [cancelPrintEngine, checked, liveOnly, refuse, done, doneWith]
  repeat' split
  all_goals first | rfl | simp
@[simp] theorem cancelPrintEngine_inReset (ops : List Word) (s : State) :
    (cancelPrintEngine ops s).state.inReset = s.inReset := by
  simp only [cancelPrintEngine, checked, liveOnly, refuse, done, doneWith]
  repeat' split
  all_goals first | rfl | simp
@[simp] theorem cancelPrintEngine_mode (ops : List Word) (s : State) :
    (cancelPrintEngine ops s).state.mode = s.mode := by
  simp only [cancelPrintEngine, checked, liveOnly, refuse, done, doneWith]
  repeat' split
  all_goals first | rfl | simp
@[simp] theorem cancelPrintEngine_ports (ops : List Word) (s : State) :
    (cancelPrintEngine ops s).state.ports = s.ports := by
  simp only [cancelPrintEngine, checked, liveOnly, refuse, done, doneWith]
  repeat' split
  all_goals first | rfl | simp
@[simp] theorem cancelPrintEngine_display (ops : List Word) (s : State) :
    (cancelPrintEngine ops s).state.display = s.display := by
  simp only [cancelPrintEngine, checked, liveOnly, refuse, done, doneWith]
  repeat' split
  all_goals first | rfl | simp
@[simp] theorem cancelPrintEngine_pages (ops : List Word) (s : State) :
    (cancelPrintEngine ops s).state.pages = s.pages := by
  simp only [cancelPrintEngine, checked, liveOnly, refuse, done, doneWith]
  repeat' split
  all_goals first | rfl | simp
@[simp] theorem cancelPrintEngine_notices (ops : List Word) (s : State) :
    (cancelPrintEngine ops s).state.notices = s.notices := by
  simp only [cancelPrintEngine, checked, liveOnly, refuse, done, doneWith]
  repeat' split
  all_goals first | rfl | simp
@[simp] theorem cancelPrintEngine_timebase (ops : List Word) (s : State) :
    (cancelPrintEngine ops s).state.timebase = s.timebase := by
  simp only [cancelPrintEngine, checked, liveOnly, refuse, done, doneWith]
  repeat' split
  all_goals first | rfl | simp
@[simp] theorem cancelPrintEngine_items (ops : List Word) (s : State) :
    (cancelPrintEngine ops s).state.items = s.items := by
  simp only [cancelPrintEngine, checked, liveOnly, refuse, done, doneWith]
  repeat' split
  all_goals first | rfl | simp

@[simp] theorem correctPrintEngine_pending (ops : List Word) (s : State) :
    (correctPrintEngine ops s).state.pending = s.pending := by
  simp only [correctPrintEngine, checked, liveOnly, refuse, done, doneWith]
  repeat' split
  all_goals first | rfl | simp
@[simp] theorem correctPrintEngine_inReset (ops : List Word) (s : State) :
    (correctPrintEngine ops s).state.inReset = s.inReset := by
  simp only [correctPrintEngine, checked, liveOnly, refuse, done, doneWith]
  repeat' split
  all_goals first | rfl | simp
@[simp] theorem correctPrintEngine_mode (ops : List Word) (s : State) :
    (correctPrintEngine ops s).state.mode = s.mode := by
  simp only [correctPrintEngine, checked, liveOnly, refuse, done, doneWith]
  repeat' split
  all_goals first | rfl | simp
@[simp] theorem correctPrintEngine_ports (ops : List Word) (s : State) :
    (correctPrintEngine ops s).state.ports = s.ports := by
  simp only [correctPrintEngine, checked, liveOnly, refuse, done, doneWith]
  repeat' split
  all_goals first | rfl | simp
@[simp] theorem correctPrintEngine_display (ops : List Word) (s : State) :
    (correctPrintEngine ops s).state.display = s.display := by
  simp only [correctPrintEngine, checked, liveOnly, refuse, done, doneWith]
  repeat' split
  all_goals first | rfl | simp
@[simp] theorem correctPrintEngine_pages (ops : List Word) (s : State) :
    (correctPrintEngine ops s).state.pages = s.pages := by
  simp only [correctPrintEngine, checked, liveOnly, refuse, done, doneWith]
  repeat' split
  all_goals first | rfl | simp
@[simp] theorem correctPrintEngine_notices (ops : List Word) (s : State) :
    (correctPrintEngine ops s).state.notices = s.notices := by
  simp only [correctPrintEngine, checked, liveOnly, refuse, done, doneWith]
  repeat' split
  all_goals first | rfl | simp
@[simp] theorem correctPrintEngine_timebase (ops : List Word) (s : State) :
    (correctPrintEngine ops s).state.timebase = s.timebase := by
  simp only [correctPrintEngine, checked, liveOnly, refuse, done, doneWith]
  repeat' split
  all_goals first | rfl | simp
@[simp] theorem correctPrintEngine_items (ops : List Word) (s : State) :
    (correctPrintEngine ops s).state.items = s.items := by
  simp only [correctPrintEngine, checked, liveOnly, refuse, done, doneWith]
  repeat' split
  all_goals first | rfl | simp

@[simp] theorem tapeTextEngine_pending (ops : List Word) (s : State) :
    (tapeTextEngine ops s).state.pending = s.pending := by
  simp only [tapeTextEngine, checked, liveOnly, refuse, done, doneWith]
  repeat' split
  all_goals first | rfl | simp
@[simp] theorem tapeTextEngine_inReset (ops : List Word) (s : State) :
    (tapeTextEngine ops s).state.inReset = s.inReset := by
  simp only [tapeTextEngine, checked, liveOnly, refuse, done, doneWith]
  repeat' split
  all_goals first | rfl | simp
@[simp] theorem tapeTextEngine_mode (ops : List Word) (s : State) :
    (tapeTextEngine ops s).state.mode = s.mode := by
  simp only [tapeTextEngine, checked, liveOnly, refuse, done, doneWith]
  repeat' split
  all_goals first | rfl | simp
@[simp] theorem tapeTextEngine_display (ops : List Word) (s : State) :
    (tapeTextEngine ops s).state.display = s.display := by
  simp only [tapeTextEngine, checked, liveOnly, refuse, done, doneWith]
  repeat' split
  all_goals first | rfl | simp
@[simp] theorem tapeTextEngine_pages (ops : List Word) (s : State) :
    (tapeTextEngine ops s).state.pages = s.pages := by
  simp only [tapeTextEngine, checked, liveOnly, refuse, done, doneWith]
  repeat' split
  all_goals first | rfl | simp
@[simp] theorem tapeTextEngine_notices (ops : List Word) (s : State) :
    (tapeTextEngine ops s).state.notices = s.notices := by
  simp only [tapeTextEngine, checked, liveOnly, refuse, done, doneWith]
  repeat' split
  all_goals first | rfl | simp
@[simp] theorem tapeTextEngine_timebase (ops : List Word) (s : State) :
    (tapeTextEngine ops s).state.timebase = s.timebase := by
  simp only [tapeTextEngine, checked, liveOnly, refuse, done, doneWith]
  repeat' split
  all_goals first | rfl | simp
@[simp] theorem tapeTextEngine_items (ops : List Word) (s : State) :
    (tapeTextEngine ops s).state.items = s.items := by
  simp only [tapeTextEngine, checked, liveOnly, refuse, done, doneWith]
  repeat' split
  all_goals first | rfl | simp

@[simp] theorem definePanelEngine_pending (ops : List Word) (s : State) :
    (definePanelEngine ops s).state.pending = s.pending := by
  simp only [definePanelEngine, checked, liveOnly, refuse, done, doneWith]
  repeat' split
  all_goals first | rfl | simp
@[simp] theorem definePanelEngine_inReset (ops : List Word) (s : State) :
    (definePanelEngine ops s).state.inReset = s.inReset := by
  simp only [definePanelEngine, checked, liveOnly, refuse, done, doneWith]
  repeat' split
  all_goals first | rfl | simp
@[simp] theorem definePanelEngine_mode (ops : List Word) (s : State) :
    (definePanelEngine ops s).state.mode = s.mode := by
  simp only [definePanelEngine, checked, liveOnly, refuse, done, doneWith]
  repeat' split
  all_goals first | rfl | simp
@[simp] theorem definePanelEngine_ports (ops : List Word) (s : State) :
    (definePanelEngine ops s).state.ports = s.ports := by
  simp only [definePanelEngine, checked, liveOnly, refuse, done, doneWith]
  repeat' split
  all_goals first | rfl | simp
@[simp] theorem definePanelEngine_quote (ops : List Word) (s : State) :
    (definePanelEngine ops s).state.quote = s.quote := by
  simp only [definePanelEngine, checked, liveOnly, refuse, done, doneWith]
  repeat' split
  all_goals first | rfl | simp
@[simp] theorem definePanelEngine_tape (ops : List Word) (s : State) :
    (definePanelEngine ops s).state.tape = s.tape := by
  simp only [definePanelEngine, checked, liveOnly, refuse, done, doneWith]
  repeat' split
  all_goals first | rfl | simp
@[simp] theorem definePanelEngine_pages (ops : List Word) (s : State) :
    (definePanelEngine ops s).state.pages = s.pages := by
  simp only [definePanelEngine, checked, liveOnly, refuse, done, doneWith]
  repeat' split
  all_goals first | rfl | simp
@[simp] theorem definePanelEngine_notices (ops : List Word) (s : State) :
    (definePanelEngine ops s).state.notices = s.notices := by
  simp only [definePanelEngine, checked, liveOnly, refuse, done, doneWith]
  repeat' split
  all_goals first | rfl | simp
@[simp] theorem definePanelEngine_timebase (ops : List Word) (s : State) :
    (definePanelEngine ops s).state.timebase = s.timebase := by
  simp only [definePanelEngine, checked, liveOnly, refuse, done, doneWith]
  repeat' split
  all_goals first | rfl | simp
@[simp] theorem definePanelEngine_items (ops : List Word) (s : State) :
    (definePanelEngine ops s).state.items = s.items := by
  simp only [definePanelEngine, checked, liveOnly, refuse, done, doneWith]
  repeat' split
  all_goals first | rfl | simp
@[simp] theorem definePanelEngine_transit (ops : List Word) (s : State) :
    (definePanelEngine ops s).state.transit = s.transit := by
  simp only [definePanelEngine, checked, liveOnly, refuse, done, doneWith]
  repeat' split
  all_goals first | rfl | simp

@[simp] theorem removePanelEngine_pending (ops : List Word) (s : State) :
    (removePanelEngine ops s).state.pending = s.pending := by
  simp only [removePanelEngine, checked, liveOnly, refuse, done, doneWith]
  repeat' split
  all_goals first | rfl | simp
@[simp] theorem removePanelEngine_inReset (ops : List Word) (s : State) :
    (removePanelEngine ops s).state.inReset = s.inReset := by
  simp only [removePanelEngine, checked, liveOnly, refuse, done, doneWith]
  repeat' split
  all_goals first | rfl | simp
@[simp] theorem removePanelEngine_mode (ops : List Word) (s : State) :
    (removePanelEngine ops s).state.mode = s.mode := by
  simp only [removePanelEngine, checked, liveOnly, refuse, done, doneWith]
  repeat' split
  all_goals first | rfl | simp
@[simp] theorem removePanelEngine_ports (ops : List Word) (s : State) :
    (removePanelEngine ops s).state.ports = s.ports := by
  simp only [removePanelEngine, checked, liveOnly, refuse, done, doneWith]
  repeat' split
  all_goals first | rfl | simp
@[simp] theorem removePanelEngine_quote (ops : List Word) (s : State) :
    (removePanelEngine ops s).state.quote = s.quote := by
  simp only [removePanelEngine, checked, liveOnly, refuse, done, doneWith]
  repeat' split
  all_goals first | rfl | simp
@[simp] theorem removePanelEngine_tape (ops : List Word) (s : State) :
    (removePanelEngine ops s).state.tape = s.tape := by
  simp only [removePanelEngine, checked, liveOnly, refuse, done, doneWith]
  repeat' split
  all_goals first | rfl | simp
@[simp] theorem removePanelEngine_pages (ops : List Word) (s : State) :
    (removePanelEngine ops s).state.pages = s.pages := by
  simp only [removePanelEngine, checked, liveOnly, refuse, done, doneWith]
  repeat' split
  all_goals first | rfl | simp
@[simp] theorem removePanelEngine_notices (ops : List Word) (s : State) :
    (removePanelEngine ops s).state.notices = s.notices := by
  simp only [removePanelEngine, checked, liveOnly, refuse, done, doneWith]
  repeat' split
  all_goals first | rfl | simp
@[simp] theorem removePanelEngine_timebase (ops : List Word) (s : State) :
    (removePanelEngine ops s).state.timebase = s.timebase := by
  simp only [removePanelEngine, checked, liveOnly, refuse, done, doneWith]
  repeat' split
  all_goals first | rfl | simp
@[simp] theorem removePanelEngine_items (ops : List Word) (s : State) :
    (removePanelEngine ops s).state.items = s.items := by
  simp only [removePanelEngine, checked, liveOnly, refuse, done, doneWith]
  repeat' split
  all_goals first | rfl | simp
@[simp] theorem removePanelEngine_transit (ops : List Word) (s : State) :
    (removePanelEngine ops s).state.transit = s.transit := by
  simp only [removePanelEngine, checked, liveOnly, refuse, done, doneWith]
  repeat' split
  all_goals first | rfl | simp

@[simp] theorem panelDarkEngine_pending (ops : List Word) (s : State) :
    (panelDarkEngine ops s).state.pending = s.pending := by
  simp only [panelDarkEngine, darkEngine, checked, liveOnly, refuse, done, doneWith]
  repeat' split
  all_goals first | rfl | simp
@[simp] theorem panelDarkEngine_inReset (ops : List Word) (s : State) :
    (panelDarkEngine ops s).state.inReset = s.inReset := by
  simp only [panelDarkEngine, darkEngine, checked, liveOnly, refuse, done, doneWith]
  repeat' split
  all_goals first | rfl | simp
@[simp] theorem panelDarkEngine_mode (ops : List Word) (s : State) :
    (panelDarkEngine ops s).state.mode = s.mode := by
  simp only [panelDarkEngine, darkEngine, checked, liveOnly, refuse, done, doneWith]
  repeat' split
  all_goals first | rfl | simp
@[simp] theorem panelDarkEngine_ports (ops : List Word) (s : State) :
    (panelDarkEngine ops s).state.ports = s.ports := by
  simp only [panelDarkEngine, darkEngine, checked, liveOnly, refuse, done, doneWith]
  repeat' split
  all_goals first | rfl | simp
@[simp] theorem panelDarkEngine_quote (ops : List Word) (s : State) :
    (panelDarkEngine ops s).state.quote = s.quote := by
  simp only [panelDarkEngine, darkEngine, checked, liveOnly, refuse, done, doneWith]
  repeat' split
  all_goals first | rfl | simp
@[simp] theorem panelDarkEngine_tape (ops : List Word) (s : State) :
    (panelDarkEngine ops s).state.tape = s.tape := by
  simp only [panelDarkEngine, darkEngine, checked, liveOnly, refuse, done, doneWith]
  repeat' split
  all_goals first | rfl | simp
@[simp] theorem panelDarkEngine_pages (ops : List Word) (s : State) :
    (panelDarkEngine ops s).state.pages = s.pages := by
  simp only [panelDarkEngine, darkEngine, checked, liveOnly, refuse, done, doneWith]
  repeat' split
  all_goals first | rfl | simp
@[simp] theorem panelDarkEngine_notices (ops : List Word) (s : State) :
    (panelDarkEngine ops s).state.notices = s.notices := by
  simp only [panelDarkEngine, darkEngine, checked, liveOnly, refuse, done, doneWith]
  repeat' split
  all_goals first | rfl | simp
@[simp] theorem panelDarkEngine_timebase (ops : List Word) (s : State) :
    (panelDarkEngine ops s).state.timebase = s.timebase := by
  simp only [panelDarkEngine, darkEngine, checked, liveOnly, refuse, done, doneWith]
  repeat' split
  all_goals first | rfl | simp
@[simp] theorem panelDarkEngine_items (ops : List Word) (s : State) :
    (panelDarkEngine ops s).state.items = s.items := by
  simp only [panelDarkEngine, darkEngine, checked, liveOnly, refuse, done, doneWith]
  repeat' split
  all_goals first | rfl | simp
theorem panelDarkEngine_transit (ops : List Word) (s : State) :
    (panelDarkEngine ops s).state.transit =
      { s.transit with boardChanges := (panelDarkEngine ops s).state.transit.boardChanges } := by
  simp only [panelDarkEngine, darkEngine, checked, liveOnly, refuse, done, doneWith]
  repeat' split
  all_goals first | rfl | exact State.onBoard_transit _ _ | exact State.onLink_transit _ _ _

@[simp] theorem panelLightEngine_pending (ops : List Word) (s : State) :
    (panelLightEngine ops s).state.pending = s.pending := by
  simp only [panelLightEngine, darkEngine, checked, liveOnly, refuse, done, doneWith]
  repeat' split
  all_goals first | rfl | simp
@[simp] theorem panelLightEngine_inReset (ops : List Word) (s : State) :
    (panelLightEngine ops s).state.inReset = s.inReset := by
  simp only [panelLightEngine, darkEngine, checked, liveOnly, refuse, done, doneWith]
  repeat' split
  all_goals first | rfl | simp
@[simp] theorem panelLightEngine_mode (ops : List Word) (s : State) :
    (panelLightEngine ops s).state.mode = s.mode := by
  simp only [panelLightEngine, darkEngine, checked, liveOnly, refuse, done, doneWith]
  repeat' split
  all_goals first | rfl | simp
@[simp] theorem panelLightEngine_ports (ops : List Word) (s : State) :
    (panelLightEngine ops s).state.ports = s.ports := by
  simp only [panelLightEngine, darkEngine, checked, liveOnly, refuse, done, doneWith]
  repeat' split
  all_goals first | rfl | simp
@[simp] theorem panelLightEngine_quote (ops : List Word) (s : State) :
    (panelLightEngine ops s).state.quote = s.quote := by
  simp only [panelLightEngine, darkEngine, checked, liveOnly, refuse, done, doneWith]
  repeat' split
  all_goals first | rfl | simp
@[simp] theorem panelLightEngine_tape (ops : List Word) (s : State) :
    (panelLightEngine ops s).state.tape = s.tape := by
  simp only [panelLightEngine, darkEngine, checked, liveOnly, refuse, done, doneWith]
  repeat' split
  all_goals first | rfl | simp
@[simp] theorem panelLightEngine_pages (ops : List Word) (s : State) :
    (panelLightEngine ops s).state.pages = s.pages := by
  simp only [panelLightEngine, darkEngine, checked, liveOnly, refuse, done, doneWith]
  repeat' split
  all_goals first | rfl | simp
@[simp] theorem panelLightEngine_notices (ops : List Word) (s : State) :
    (panelLightEngine ops s).state.notices = s.notices := by
  simp only [panelLightEngine, darkEngine, checked, liveOnly, refuse, done, doneWith]
  repeat' split
  all_goals first | rfl | simp
@[simp] theorem panelLightEngine_timebase (ops : List Word) (s : State) :
    (panelLightEngine ops s).state.timebase = s.timebase := by
  simp only [panelLightEngine, darkEngine, checked, liveOnly, refuse, done, doneWith]
  repeat' split
  all_goals first | rfl | simp
@[simp] theorem panelLightEngine_items (ops : List Word) (s : State) :
    (panelLightEngine ops s).state.items = s.items := by
  simp only [panelLightEngine, darkEngine, checked, liveOnly, refuse, done, doneWith]
  repeat' split
  all_goals first | rfl | simp
theorem panelLightEngine_transit (ops : List Word) (s : State) :
    (panelLightEngine ops s).state.transit =
      { s.transit with boardChanges := (panelLightEngine ops s).state.transit.boardChanges } := by
  simp only [panelLightEngine, darkEngine, checked, liveOnly, refuse, done, doneWith]
  repeat' split
  all_goals first | rfl | exact State.onBoard_transit _ _ | exact State.onLink_transit _ _ _

@[simp] theorem defineCellEngine_pending (ops : List Word) (s : State) :
    (defineCellEngine ops s).state.pending = s.pending := by
  simp only [defineCellEngine, checked, liveOnly, refuse, done, doneWith]
  repeat' split
  all_goals first | rfl | simp
@[simp] theorem defineCellEngine_inReset (ops : List Word) (s : State) :
    (defineCellEngine ops s).state.inReset = s.inReset := by
  simp only [defineCellEngine, checked, liveOnly, refuse, done, doneWith]
  repeat' split
  all_goals first | rfl | simp
@[simp] theorem defineCellEngine_mode (ops : List Word) (s : State) :
    (defineCellEngine ops s).state.mode = s.mode := by
  simp only [defineCellEngine, checked, liveOnly, refuse, done, doneWith]
  repeat' split
  all_goals first | rfl | simp
@[simp] theorem defineCellEngine_ports (ops : List Word) (s : State) :
    (defineCellEngine ops s).state.ports = s.ports := by
  simp only [defineCellEngine, checked, liveOnly, refuse, done, doneWith]
  repeat' split
  all_goals first | rfl | simp
@[simp] theorem defineCellEngine_tape (ops : List Word) (s : State) :
    (defineCellEngine ops s).state.tape = s.tape := by
  simp only [defineCellEngine, checked, liveOnly, refuse, done, doneWith]
  repeat' split
  all_goals first | rfl | simp
@[simp] theorem defineCellEngine_pages (ops : List Word) (s : State) :
    (defineCellEngine ops s).state.pages = s.pages := by
  simp only [defineCellEngine, checked, liveOnly, refuse, done, doneWith]
  repeat' split
  all_goals first | rfl | simp
@[simp] theorem defineCellEngine_notices (ops : List Word) (s : State) :
    (defineCellEngine ops s).state.notices = s.notices := by
  simp only [defineCellEngine, checked, liveOnly, refuse, done, doneWith]
  repeat' split
  all_goals first | rfl | simp
@[simp] theorem defineCellEngine_timebase (ops : List Word) (s : State) :
    (defineCellEngine ops s).state.timebase = s.timebase := by
  simp only [defineCellEngine, checked, liveOnly, refuse, done, doneWith]
  repeat' split
  all_goals first | rfl | simp
@[simp] theorem defineCellEngine_items (ops : List Word) (s : State) :
    (defineCellEngine ops s).state.items = s.items := by
  simp only [defineCellEngine, checked, liveOnly, refuse, done, doneWith]
  repeat' split
  all_goals first | rfl | simp
theorem defineCellEngine_transit (ops : List Word) (s : State) :
    (defineCellEngine ops s).state.transit =
      { s.transit with boardChanges := (defineCellEngine ops s).state.transit.boardChanges } := by
  simp only [defineCellEngine, checked, liveOnly, refuse, done, doneWith]
  repeat' split
  all_goals first | rfl | exact (State.onBoard_transit _ _).trans (by simp) | exact State.onLink_transit _ _ _

@[simp] theorem removeCellEngine_pending (ops : List Word) (s : State) :
    (removeCellEngine ops s).state.pending = s.pending := by
  simp only [removeCellEngine, checked, liveOnly, refuse, done, doneWith]
  repeat' split
  all_goals first | rfl | simp
@[simp] theorem removeCellEngine_inReset (ops : List Word) (s : State) :
    (removeCellEngine ops s).state.inReset = s.inReset := by
  simp only [removeCellEngine, checked, liveOnly, refuse, done, doneWith]
  repeat' split
  all_goals first | rfl | simp
@[simp] theorem removeCellEngine_mode (ops : List Word) (s : State) :
    (removeCellEngine ops s).state.mode = s.mode := by
  simp only [removeCellEngine, checked, liveOnly, refuse, done, doneWith]
  repeat' split
  all_goals first | rfl | simp
@[simp] theorem removeCellEngine_ports (ops : List Word) (s : State) :
    (removeCellEngine ops s).state.ports = s.ports := by
  simp only [removeCellEngine, checked, liveOnly, refuse, done, doneWith]
  repeat' split
  all_goals first | rfl | simp
@[simp] theorem removeCellEngine_tape (ops : List Word) (s : State) :
    (removeCellEngine ops s).state.tape = s.tape := by
  simp only [removeCellEngine, checked, liveOnly, refuse, done, doneWith]
  repeat' split
  all_goals first | rfl | simp
@[simp] theorem removeCellEngine_pages (ops : List Word) (s : State) :
    (removeCellEngine ops s).state.pages = s.pages := by
  simp only [removeCellEngine, checked, liveOnly, refuse, done, doneWith]
  repeat' split
  all_goals first | rfl | simp
@[simp] theorem removeCellEngine_notices (ops : List Word) (s : State) :
    (removeCellEngine ops s).state.notices = s.notices := by
  simp only [removeCellEngine, checked, liveOnly, refuse, done, doneWith]
  repeat' split
  all_goals first | rfl | simp
@[simp] theorem removeCellEngine_timebase (ops : List Word) (s : State) :
    (removeCellEngine ops s).state.timebase = s.timebase := by
  simp only [removeCellEngine, checked, liveOnly, refuse, done, doneWith]
  repeat' split
  all_goals first | rfl | simp
@[simp] theorem removeCellEngine_items (ops : List Word) (s : State) :
    (removeCellEngine ops s).state.items = s.items := by
  simp only [removeCellEngine, checked, liveOnly, refuse, done, doneWith]
  repeat' split
  all_goals first | rfl | simp
@[simp] theorem removeCellEngine_transit (ops : List Word) (s : State) :
    (removeCellEngine ops s).state.transit = s.transit := by
  simp only [removeCellEngine, checked, liveOnly, refuse, done, doneWith]
  repeat' split
  all_goals first | rfl | simp

@[simp] theorem moduleRestartEngine_pending (ops : List Word) (s : State) :
    (moduleRestartEngine ops s).state.pending = s.pending := by
  simp only [moduleRestartEngine, checked, liveOnly, refuse, done, doneWith]
  repeat' split
  all_goals first | rfl | simp
@[simp] theorem moduleRestartEngine_inReset (ops : List Word) (s : State) :
    (moduleRestartEngine ops s).state.inReset = s.inReset := by
  simp only [moduleRestartEngine, checked, liveOnly, refuse, done, doneWith]
  repeat' split
  all_goals first | rfl | simp
@[simp] theorem moduleRestartEngine_mode (ops : List Word) (s : State) :
    (moduleRestartEngine ops s).state.mode = s.mode := by
  simp only [moduleRestartEngine, checked, liveOnly, refuse, done, doneWith]
  repeat' split
  all_goals first | rfl | simp
@[simp] theorem moduleRestartEngine_ports (ops : List Word) (s : State) :
    (moduleRestartEngine ops s).state.ports = s.ports := by
  simp only [moduleRestartEngine, checked, liveOnly, refuse, done, doneWith]
  repeat' split
  all_goals first | rfl | simp
@[simp] theorem moduleRestartEngine_quote (ops : List Word) (s : State) :
    (moduleRestartEngine ops s).state.quote = s.quote := by
  simp only [moduleRestartEngine, checked, liveOnly, refuse, done, doneWith]
  repeat' split
  all_goals first | rfl | simp
@[simp] theorem moduleRestartEngine_tape (ops : List Word) (s : State) :
    (moduleRestartEngine ops s).state.tape = s.tape := by
  simp only [moduleRestartEngine, checked, liveOnly, refuse, done, doneWith]
  repeat' split
  all_goals first | rfl | simp
@[simp] theorem moduleRestartEngine_pages (ops : List Word) (s : State) :
    (moduleRestartEngine ops s).state.pages = s.pages := by
  simp only [moduleRestartEngine, checked, liveOnly, refuse, done, doneWith]
  repeat' split
  all_goals first | rfl | simp
@[simp] theorem moduleRestartEngine_notices (ops : List Word) (s : State) :
    (moduleRestartEngine ops s).state.notices = s.notices := by
  simp only [moduleRestartEngine, checked, liveOnly, refuse, done, doneWith]
  repeat' split
  all_goals first | rfl | simp
@[simp] theorem moduleRestartEngine_timebase (ops : List Word) (s : State) :
    (moduleRestartEngine ops s).state.timebase = s.timebase := by
  simp only [moduleRestartEngine, checked, liveOnly, refuse, done, doneWith]
  repeat' split
  all_goals first | rfl | simp
@[simp] theorem moduleRestartEngine_items (ops : List Word) (s : State) :
    (moduleRestartEngine ops s).state.items = s.items := by
  simp only [moduleRestartEngine, checked, liveOnly, refuse, done, doneWith]
  repeat' split
  all_goals first | rfl | simp
theorem moduleRestartEngine_transit (ops : List Word) (s : State) :
    (moduleRestartEngine ops s).state.transit =
      { s.transit with boardChanges := (moduleRestartEngine ops s).state.transit.boardChanges } := by
  simp only [moduleRestartEngine, checked, liveOnly, refuse, done, doneWith]
  repeat' split
  all_goals first | rfl | exact State.onBoard_transit _ _ | exact State.onLink_transit _ _ _

@[simp] theorem lampTestStartEngine_pending (ops : List Word) (s : State) :
    (lampTestStartEngine ops s).state.pending = s.pending := by
  simp only [lampTestStartEngine, checked, liveOnly, refuse, done, doneWith]
  repeat' split
  all_goals first | rfl | simp
@[simp] theorem lampTestStartEngine_inReset (ops : List Word) (s : State) :
    (lampTestStartEngine ops s).state.inReset = s.inReset := by
  simp only [lampTestStartEngine, checked, liveOnly, refuse, done, doneWith]
  repeat' split
  all_goals first | rfl | simp
@[simp] theorem lampTestStartEngine_mode (ops : List Word) (s : State) :
    (lampTestStartEngine ops s).state.mode = s.mode := by
  simp only [lampTestStartEngine, checked, liveOnly, refuse, done, doneWith]
  repeat' split
  all_goals first | rfl | simp
@[simp] theorem lampTestStartEngine_ports (ops : List Word) (s : State) :
    (lampTestStartEngine ops s).state.ports = s.ports := by
  simp only [lampTestStartEngine, checked, liveOnly, refuse, done, doneWith]
  repeat' split
  all_goals first | rfl | simp
@[simp] theorem lampTestStartEngine_quote (ops : List Word) (s : State) :
    (lampTestStartEngine ops s).state.quote = s.quote := by
  simp only [lampTestStartEngine, checked, liveOnly, refuse, done, doneWith]
  repeat' split
  all_goals first | rfl | simp
@[simp] theorem lampTestStartEngine_tape (ops : List Word) (s : State) :
    (lampTestStartEngine ops s).state.tape = s.tape := by
  simp only [lampTestStartEngine, checked, liveOnly, refuse, done, doneWith]
  repeat' split
  all_goals first | rfl | simp
@[simp] theorem lampTestStartEngine_pages (ops : List Word) (s : State) :
    (lampTestStartEngine ops s).state.pages = s.pages := by
  simp only [lampTestStartEngine, checked, liveOnly, refuse, done, doneWith]
  repeat' split
  all_goals first | rfl | simp
@[simp] theorem lampTestStartEngine_notices (ops : List Word) (s : State) :
    (lampTestStartEngine ops s).state.notices = s.notices := by
  simp only [lampTestStartEngine, checked, liveOnly, refuse, done, doneWith]
  repeat' split
  all_goals first | rfl | simp
@[simp] theorem lampTestStartEngine_timebase (ops : List Word) (s : State) :
    (lampTestStartEngine ops s).state.timebase = s.timebase := by
  simp only [lampTestStartEngine, checked, liveOnly, refuse, done, doneWith]
  repeat' split
  all_goals first | rfl | simp
@[simp] theorem lampTestStartEngine_items (ops : List Word) (s : State) :
    (lampTestStartEngine ops s).state.items = s.items := by
  simp only [lampTestStartEngine, checked, liveOnly, refuse, done, doneWith]
  repeat' split
  all_goals first | rfl | simp
theorem lampTestStartEngine_transit (ops : List Word) (s : State) :
    (lampTestStartEngine ops s).state.transit =
      { s.transit with boardChanges := (lampTestStartEngine ops s).state.transit.boardChanges } := by
  simp only [lampTestStartEngine, checked, liveOnly, refuse, done, doneWith]
  repeat' split
  all_goals first | rfl | exact State.onBoard_transit _ _ | exact State.onLink_transit _ _ _

@[simp] theorem lampTestStopEngine_pending (ops : List Word) (s : State) :
    (lampTestStopEngine ops s).state.pending = s.pending := by
  simp only [lampTestStopEngine, checked, liveOnly, refuse, done, doneWith]
  repeat' split
  all_goals first | rfl | simp
@[simp] theorem lampTestStopEngine_inReset (ops : List Word) (s : State) :
    (lampTestStopEngine ops s).state.inReset = s.inReset := by
  simp only [lampTestStopEngine, checked, liveOnly, refuse, done, doneWith]
  repeat' split
  all_goals first | rfl | simp
@[simp] theorem lampTestStopEngine_mode (ops : List Word) (s : State) :
    (lampTestStopEngine ops s).state.mode = s.mode := by
  simp only [lampTestStopEngine, checked, liveOnly, refuse, done, doneWith]
  repeat' split
  all_goals first | rfl | simp
@[simp] theorem lampTestStopEngine_ports (ops : List Word) (s : State) :
    (lampTestStopEngine ops s).state.ports = s.ports := by
  simp only [lampTestStopEngine, checked, liveOnly, refuse, done, doneWith]
  repeat' split
  all_goals first | rfl | simp
@[simp] theorem lampTestStopEngine_quote (ops : List Word) (s : State) :
    (lampTestStopEngine ops s).state.quote = s.quote := by
  simp only [lampTestStopEngine, checked, liveOnly, refuse, done, doneWith]
  repeat' split
  all_goals first | rfl | simp
@[simp] theorem lampTestStopEngine_tape (ops : List Word) (s : State) :
    (lampTestStopEngine ops s).state.tape = s.tape := by
  simp only [lampTestStopEngine, checked, liveOnly, refuse, done, doneWith]
  repeat' split
  all_goals first | rfl | simp
@[simp] theorem lampTestStopEngine_pages (ops : List Word) (s : State) :
    (lampTestStopEngine ops s).state.pages = s.pages := by
  simp only [lampTestStopEngine, checked, liveOnly, refuse, done, doneWith]
  repeat' split
  all_goals first | rfl | simp
@[simp] theorem lampTestStopEngine_notices (ops : List Word) (s : State) :
    (lampTestStopEngine ops s).state.notices = s.notices := by
  simp only [lampTestStopEngine, checked, liveOnly, refuse, done, doneWith]
  repeat' split
  all_goals first | rfl | simp
@[simp] theorem lampTestStopEngine_timebase (ops : List Word) (s : State) :
    (lampTestStopEngine ops s).state.timebase = s.timebase := by
  simp only [lampTestStopEngine, checked, liveOnly, refuse, done, doneWith]
  repeat' split
  all_goals first | rfl | simp
@[simp] theorem lampTestStopEngine_items (ops : List Word) (s : State) :
    (lampTestStopEngine ops s).state.items = s.items := by
  simp only [lampTestStopEngine, checked, liveOnly, refuse, done, doneWith]
  repeat' split
  all_goals first | rfl | simp
theorem lampTestStopEngine_transit (ops : List Word) (s : State) :
    (lampTestStopEngine ops s).state.transit =
      { s.transit with boardChanges := (lampTestStopEngine ops s).state.transit.boardChanges } := by
  simp only [lampTestStopEngine, checked, liveOnly, refuse, done, doneWith]
  repeat' split
  all_goals first | rfl | exact State.onBoard_transit _ _ | exact State.onLink_transit _ _ _

@[simp] theorem readLinkEngine_pending (ops : List Word) (s : State) :
    (readLinkEngine ops s).state.pending = s.pending := by
  simp only [readLinkEngine, checked, liveOnly, refuse, done, doneWith]
  repeat' split
  all_goals first | rfl | simp
@[simp] theorem readLinkEngine_inReset (ops : List Word) (s : State) :
    (readLinkEngine ops s).state.inReset = s.inReset := by
  simp only [readLinkEngine, checked, liveOnly, refuse, done, doneWith]
  repeat' split
  all_goals first | rfl | simp
@[simp] theorem readLinkEngine_mode (ops : List Word) (s : State) :
    (readLinkEngine ops s).state.mode = s.mode := by
  simp only [readLinkEngine, checked, liveOnly, refuse, done, doneWith]
  repeat' split
  all_goals first | rfl | simp
@[simp] theorem readLinkEngine_ports (ops : List Word) (s : State) :
    (readLinkEngine ops s).state.ports = s.ports := by
  simp only [readLinkEngine, checked, liveOnly, refuse, done, doneWith]
  repeat' split
  all_goals first | rfl | simp
@[simp] theorem readLinkEngine_quote (ops : List Word) (s : State) :
    (readLinkEngine ops s).state.quote = s.quote := by
  simp only [readLinkEngine, checked, liveOnly, refuse, done, doneWith]
  repeat' split
  all_goals first | rfl | simp
@[simp] theorem readLinkEngine_display (ops : List Word) (s : State) :
    (readLinkEngine ops s).state.display = s.display := by
  simp only [readLinkEngine, checked, liveOnly, refuse, done, doneWith]
  repeat' split
  all_goals first | rfl | simp
@[simp] theorem readLinkEngine_tape (ops : List Word) (s : State) :
    (readLinkEngine ops s).state.tape = s.tape := by
  simp only [readLinkEngine, checked, liveOnly, refuse, done, doneWith]
  repeat' split
  all_goals first | rfl | simp
@[simp] theorem readLinkEngine_pages (ops : List Word) (s : State) :
    (readLinkEngine ops s).state.pages = s.pages := by
  simp only [readLinkEngine, checked, liveOnly, refuse, done, doneWith]
  repeat' split
  all_goals first | rfl | simp
@[simp] theorem readLinkEngine_notices (ops : List Word) (s : State) :
    (readLinkEngine ops s).state.notices = s.notices := by
  simp only [readLinkEngine, checked, liveOnly, refuse, done, doneWith]
  repeat' split
  all_goals first | rfl | simp
@[simp] theorem readLinkEngine_timebase (ops : List Word) (s : State) :
    (readLinkEngine ops s).state.timebase = s.timebase := by
  simp only [readLinkEngine, checked, liveOnly, refuse, done, doneWith]
  repeat' split
  all_goals first | rfl | simp
@[simp] theorem readLinkEngine_items (ops : List Word) (s : State) :
    (readLinkEngine ops s).state.items = s.items := by
  simp only [readLinkEngine, checked, liveOnly, refuse, done, doneWith]
  repeat' split
  all_goals first | rfl | simp
@[simp] theorem readLinkEngine_transit (ops : List Word) (s : State) :
    (readLinkEngine ops s).state.transit = s.transit := by
  simp only [readLinkEngine, checked, liveOnly, refuse, done, doneWith]
  repeat' split
  all_goals first | rfl | simp

@[simp] theorem ribbonRestartEngine_pending (ops : List Word) (s : State) :
    (ribbonRestartEngine ops s).state.pending = s.pending := by
  simp only [ribbonRestartEngine, checked, liveOnly, refuse, done, doneWith]
  repeat' split
  all_goals first | rfl | simp
@[simp] theorem ribbonRestartEngine_inReset (ops : List Word) (s : State) :
    (ribbonRestartEngine ops s).state.inReset = s.inReset := by
  simp only [ribbonRestartEngine, checked, liveOnly, refuse, done, doneWith]
  repeat' split
  all_goals first | rfl | simp
@[simp] theorem ribbonRestartEngine_mode (ops : List Word) (s : State) :
    (ribbonRestartEngine ops s).state.mode = s.mode := by
  simp only [ribbonRestartEngine, checked, liveOnly, refuse, done, doneWith]
  repeat' split
  all_goals first | rfl | simp
@[simp] theorem ribbonRestartEngine_ports (ops : List Word) (s : State) :
    (ribbonRestartEngine ops s).state.ports = s.ports := by
  simp only [ribbonRestartEngine, checked, liveOnly, refuse, done, doneWith]
  repeat' split
  all_goals first | rfl | simp
@[simp] theorem ribbonRestartEngine_quote (ops : List Word) (s : State) :
    (ribbonRestartEngine ops s).state.quote = s.quote := by
  simp only [ribbonRestartEngine, checked, liveOnly, refuse, done, doneWith]
  repeat' split
  all_goals first | rfl | simp
@[simp] theorem ribbonRestartEngine_display (ops : List Word) (s : State) :
    (ribbonRestartEngine ops s).state.display = s.display := by
  simp only [ribbonRestartEngine, checked, liveOnly, refuse, done, doneWith]
  repeat' split
  all_goals first | rfl | simp
@[simp] theorem ribbonRestartEngine_pages (ops : List Word) (s : State) :
    (ribbonRestartEngine ops s).state.pages = s.pages := by
  simp only [ribbonRestartEngine, checked, liveOnly, refuse, done, doneWith]
  repeat' split
  all_goals first | rfl | simp
@[simp] theorem ribbonRestartEngine_notices (ops : List Word) (s : State) :
    (ribbonRestartEngine ops s).state.notices = s.notices := by
  simp only [ribbonRestartEngine, checked, liveOnly, refuse, done, doneWith]
  repeat' split
  all_goals first | rfl | simp
@[simp] theorem ribbonRestartEngine_timebase (ops : List Word) (s : State) :
    (ribbonRestartEngine ops s).state.timebase = s.timebase := by
  simp only [ribbonRestartEngine, checked, liveOnly, refuse, done, doneWith]
  repeat' split
  all_goals first | rfl | simp
@[simp] theorem ribbonRestartEngine_items (ops : List Word) (s : State) :
    (ribbonRestartEngine ops s).state.items = s.items := by
  simp only [ribbonRestartEngine, checked, liveOnly, refuse, done, doneWith]
  repeat' split
  all_goals first | rfl | simp
@[simp] theorem ribbonRestartEngine_transit (ops : List Word) (s : State) :
    (ribbonRestartEngine ops s).state.transit = s.transit := by
  simp only [ribbonRestartEngine, checked, liveOnly, refuse, done, doneWith]
  repeat' split
  all_goals first | rfl | simp

@[simp] theorem ribbonRateEngine_pending (ops : List Word) (s : State) :
    (ribbonRateEngine ops s).state.pending = s.pending := by
  simp only [ribbonRateEngine, checked, liveOnly, refuse, done, doneWith]
  repeat' split
  all_goals first | rfl | simp
@[simp] theorem ribbonRateEngine_inReset (ops : List Word) (s : State) :
    (ribbonRateEngine ops s).state.inReset = s.inReset := by
  simp only [ribbonRateEngine, checked, liveOnly, refuse, done, doneWith]
  repeat' split
  all_goals first | rfl | simp
@[simp] theorem ribbonRateEngine_mode (ops : List Word) (s : State) :
    (ribbonRateEngine ops s).state.mode = s.mode := by
  simp only [ribbonRateEngine, checked, liveOnly, refuse, done, doneWith]
  repeat' split
  all_goals first | rfl | simp
@[simp] theorem ribbonRateEngine_ports (ops : List Word) (s : State) :
    (ribbonRateEngine ops s).state.ports = s.ports := by
  simp only [ribbonRateEngine, checked, liveOnly, refuse, done, doneWith]
  repeat' split
  all_goals first | rfl | simp
@[simp] theorem ribbonRateEngine_quote (ops : List Word) (s : State) :
    (ribbonRateEngine ops s).state.quote = s.quote := by
  simp only [ribbonRateEngine, checked, liveOnly, refuse, done, doneWith]
  repeat' split
  all_goals first | rfl | simp
@[simp] theorem ribbonRateEngine_display (ops : List Word) (s : State) :
    (ribbonRateEngine ops s).state.display = s.display := by
  simp only [ribbonRateEngine, checked, liveOnly, refuse, done, doneWith]
  repeat' split
  all_goals first | rfl | simp
@[simp] theorem ribbonRateEngine_pages (ops : List Word) (s : State) :
    (ribbonRateEngine ops s).state.pages = s.pages := by
  simp only [ribbonRateEngine, checked, liveOnly, refuse, done, doneWith]
  repeat' split
  all_goals first | rfl | simp
@[simp] theorem ribbonRateEngine_notices (ops : List Word) (s : State) :
    (ribbonRateEngine ops s).state.notices = s.notices := by
  simp only [ribbonRateEngine, checked, liveOnly, refuse, done, doneWith]
  repeat' split
  all_goals first | rfl | simp
@[simp] theorem ribbonRateEngine_timebase (ops : List Word) (s : State) :
    (ribbonRateEngine ops s).state.timebase = s.timebase := by
  simp only [ribbonRateEngine, checked, liveOnly, refuse, done, doneWith]
  repeat' split
  all_goals first | rfl | simp
@[simp] theorem ribbonRateEngine_items (ops : List Word) (s : State) :
    (ribbonRateEngine ops s).state.items = s.items := by
  simp only [ribbonRateEngine, checked, liveOnly, refuse, done, doneWith]
  repeat' split
  all_goals first | rfl | simp
@[simp] theorem ribbonRateEngine_transit (ops : List Word) (s : State) :
    (ribbonRateEngine ops s).state.transit = s.transit := by
  simp only [ribbonRateEngine, checked, liveOnly, refuse, done, doneWith]
  repeat' split
  all_goals first | rfl | simp

@[simp] theorem readRibbonEngine_pending (ops : List Word) (s : State) :
    (readRibbonEngine ops s).state.pending = s.pending := by
  simp only [readRibbonEngine, checked, liveOnly, refuse, done, doneWith]
  repeat' split
  all_goals first | rfl | simp
@[simp] theorem readRibbonEngine_inReset (ops : List Word) (s : State) :
    (readRibbonEngine ops s).state.inReset = s.inReset := by
  simp only [readRibbonEngine, checked, liveOnly, refuse, done, doneWith]
  repeat' split
  all_goals first | rfl | simp
@[simp] theorem readRibbonEngine_mode (ops : List Word) (s : State) :
    (readRibbonEngine ops s).state.mode = s.mode := by
  simp only [readRibbonEngine, checked, liveOnly, refuse, done, doneWith]
  repeat' split
  all_goals first | rfl | simp
@[simp] theorem readRibbonEngine_ports (ops : List Word) (s : State) :
    (readRibbonEngine ops s).state.ports = s.ports := by
  simp only [readRibbonEngine, checked, liveOnly, refuse, done, doneWith]
  repeat' split
  all_goals first | rfl | simp
@[simp] theorem readRibbonEngine_quote (ops : List Word) (s : State) :
    (readRibbonEngine ops s).state.quote = s.quote := by
  simp only [readRibbonEngine, checked, liveOnly, refuse, done, doneWith]
  repeat' split
  all_goals first | rfl | simp
@[simp] theorem readRibbonEngine_display (ops : List Word) (s : State) :
    (readRibbonEngine ops s).state.display = s.display := by
  simp only [readRibbonEngine, checked, liveOnly, refuse, done, doneWith]
  repeat' split
  all_goals first | rfl | simp
@[simp] theorem readRibbonEngine_tape (ops : List Word) (s : State) :
    (readRibbonEngine ops s).state.tape = s.tape := by
  simp only [readRibbonEngine, checked, liveOnly, refuse, done, doneWith]
  repeat' split
  all_goals first | rfl | simp
@[simp] theorem readRibbonEngine_pages (ops : List Word) (s : State) :
    (readRibbonEngine ops s).state.pages = s.pages := by
  simp only [readRibbonEngine, checked, liveOnly, refuse, done, doneWith]
  repeat' split
  all_goals first | rfl | simp
@[simp] theorem readRibbonEngine_notices (ops : List Word) (s : State) :
    (readRibbonEngine ops s).state.notices = s.notices := by
  simp only [readRibbonEngine, checked, liveOnly, refuse, done, doneWith]
  repeat' split
  all_goals first | rfl | simp
@[simp] theorem readRibbonEngine_timebase (ops : List Word) (s : State) :
    (readRibbonEngine ops s).state.timebase = s.timebase := by
  simp only [readRibbonEngine, checked, liveOnly, refuse, done, doneWith]
  repeat' split
  all_goals first | rfl | simp
@[simp] theorem readRibbonEngine_items (ops : List Word) (s : State) :
    (readRibbonEngine ops s).state.items = s.items := by
  simp only [readRibbonEngine, checked, liveOnly, refuse, done, doneWith]
  repeat' split
  all_goals first | rfl | simp
@[simp] theorem readRibbonEngine_transit (ops : List Word) (s : State) :
    (readRibbonEngine ops s).state.transit = s.transit := by
  simp only [readRibbonEngine, checked, liveOnly, refuse, done, doneWith]
  repeat' split
  all_goals first | rfl | simp

@[simp] theorem writeDescriptorEngine_pending (ops : List Word) (s : State) :
    (writeDescriptorEngine ops s).state.pending = s.pending := by
  simp only [writeDescriptorEngine, checked, liveOnly, refuse, done, doneWith]
  repeat' split
  all_goals first | rfl | simp
@[simp] theorem writeDescriptorEngine_inReset (ops : List Word) (s : State) :
    (writeDescriptorEngine ops s).state.inReset = s.inReset := by
  simp only [writeDescriptorEngine, checked, liveOnly, refuse, done, doneWith]
  repeat' split
  all_goals first | rfl | simp
@[simp] theorem writeDescriptorEngine_mode (ops : List Word) (s : State) :
    (writeDescriptorEngine ops s).state.mode = s.mode := by
  simp only [writeDescriptorEngine, checked, liveOnly, refuse, done, doneWith]
  repeat' split
  all_goals first | rfl | simp
@[simp] theorem writeDescriptorEngine_ports (ops : List Word) (s : State) :
    (writeDescriptorEngine ops s).state.ports = s.ports := by
  simp only [writeDescriptorEngine, checked, liveOnly, refuse, done, doneWith]
  repeat' split
  all_goals first | rfl | simp
@[simp] theorem writeDescriptorEngine_quote (ops : List Word) (s : State) :
    (writeDescriptorEngine ops s).state.quote = s.quote := by
  simp only [writeDescriptorEngine, checked, liveOnly, refuse, done, doneWith]
  repeat' split
  all_goals first | rfl | simp
@[simp] theorem writeDescriptorEngine_display (ops : List Word) (s : State) :
    (writeDescriptorEngine ops s).state.display = s.display := by
  simp only [writeDescriptorEngine, checked, liveOnly, refuse, done, doneWith]
  repeat' split
  all_goals first | rfl | simp
@[simp] theorem writeDescriptorEngine_tape (ops : List Word) (s : State) :
    (writeDescriptorEngine ops s).state.tape = s.tape := by
  simp only [writeDescriptorEngine, checked, liveOnly, refuse, done, doneWith]
  repeat' split
  all_goals first | rfl | simp
@[simp] theorem writeDescriptorEngine_notices (ops : List Word) (s : State) :
    (writeDescriptorEngine ops s).state.notices = s.notices := by
  simp only [writeDescriptorEngine, checked, liveOnly, refuse, done, doneWith]
  repeat' split
  all_goals first | rfl | simp
@[simp] theorem writeDescriptorEngine_timebase (ops : List Word) (s : State) :
    (writeDescriptorEngine ops s).state.timebase = s.timebase := by
  simp only [writeDescriptorEngine, checked, liveOnly, refuse, done, doneWith]
  repeat' split
  all_goals first | rfl | simp
@[simp] theorem writeDescriptorEngine_items (ops : List Word) (s : State) :
    (writeDescriptorEngine ops s).state.items = s.items := by
  simp only [writeDescriptorEngine, checked, liveOnly, refuse, done, doneWith]
  repeat' split
  all_goals first | rfl | simp
@[simp] theorem writeDescriptorEngine_transit (ops : List Word) (s : State) :
    (writeDescriptorEngine ops s).state.transit = s.transit := by
  simp only [writeDescriptorEngine, checked, liveOnly, refuse, done, doneWith]
  repeat' split
  all_goals first | rfl | simp

@[simp] theorem writeLineEngine_pending (ops : List Word) (s : State) :
    (writeLineEngine ops s).state.pending = s.pending := by
  simp only [writeLineEngine, checked, liveOnly, refuse, done, doneWith]
  repeat' split
  all_goals first | rfl | simp
@[simp] theorem writeLineEngine_inReset (ops : List Word) (s : State) :
    (writeLineEngine ops s).state.inReset = s.inReset := by
  simp only [writeLineEngine, checked, liveOnly, refuse, done, doneWith]
  repeat' split
  all_goals first | rfl | simp
@[simp] theorem writeLineEngine_mode (ops : List Word) (s : State) :
    (writeLineEngine ops s).state.mode = s.mode := by
  simp only [writeLineEngine, checked, liveOnly, refuse, done, doneWith]
  repeat' split
  all_goals first | rfl | simp
@[simp] theorem writeLineEngine_ports (ops : List Word) (s : State) :
    (writeLineEngine ops s).state.ports = s.ports := by
  simp only [writeLineEngine, checked, liveOnly, refuse, done, doneWith]
  repeat' split
  all_goals first | rfl | simp
@[simp] theorem writeLineEngine_quote (ops : List Word) (s : State) :
    (writeLineEngine ops s).state.quote = s.quote := by
  simp only [writeLineEngine, checked, liveOnly, refuse, done, doneWith]
  repeat' split
  all_goals first | rfl | simp
@[simp] theorem writeLineEngine_display (ops : List Word) (s : State) :
    (writeLineEngine ops s).state.display = s.display := by
  simp only [writeLineEngine, checked, liveOnly, refuse, done, doneWith]
  repeat' split
  all_goals first | rfl | simp
@[simp] theorem writeLineEngine_tape (ops : List Word) (s : State) :
    (writeLineEngine ops s).state.tape = s.tape := by
  simp only [writeLineEngine, checked, liveOnly, refuse, done, doneWith]
  repeat' split
  all_goals first | rfl | simp
@[simp] theorem writeLineEngine_notices (ops : List Word) (s : State) :
    (writeLineEngine ops s).state.notices = s.notices := by
  simp only [writeLineEngine, checked, liveOnly, refuse, done, doneWith]
  repeat' split
  all_goals first | rfl | simp
@[simp] theorem writeLineEngine_timebase (ops : List Word) (s : State) :
    (writeLineEngine ops s).state.timebase = s.timebase := by
  simp only [writeLineEngine, checked, liveOnly, refuse, done, doneWith]
  repeat' split
  all_goals first | rfl | simp
@[simp] theorem writeLineEngine_items (ops : List Word) (s : State) :
    (writeLineEngine ops s).state.items = s.items := by
  simp only [writeLineEngine, checked, liveOnly, refuse, done, doneWith]
  repeat' split
  all_goals first | rfl | simp
@[simp] theorem writeLineEngine_transit (ops : List Word) (s : State) :
    (writeLineEngine ops s).state.transit = s.transit := by
  simp only [writeLineEngine, checked, liveOnly, refuse, done, doneWith]
  repeat' split
  all_goals first | rfl | simp

@[simp] theorem setLocalTableEngine_pending (ops : List Word) (s : State) :
    (setLocalTableEngine ops s).state.pending = s.pending := by
  simp only [setLocalTableEngine, checked, liveOnly, refuse, done, doneWith]
  repeat' split
  all_goals first | rfl | simp
@[simp] theorem setLocalTableEngine_inReset (ops : List Word) (s : State) :
    (setLocalTableEngine ops s).state.inReset = s.inReset := by
  simp only [setLocalTableEngine, checked, liveOnly, refuse, done, doneWith]
  repeat' split
  all_goals first | rfl | simp
@[simp] theorem setLocalTableEngine_mode (ops : List Word) (s : State) :
    (setLocalTableEngine ops s).state.mode = s.mode := by
  simp only [setLocalTableEngine, checked, liveOnly, refuse, done, doneWith]
  repeat' split
  all_goals first | rfl | simp
@[simp] theorem setLocalTableEngine_ports (ops : List Word) (s : State) :
    (setLocalTableEngine ops s).state.ports = s.ports := by
  simp only [setLocalTableEngine, checked, liveOnly, refuse, done, doneWith]
  repeat' split
  all_goals first | rfl | simp
@[simp] theorem setLocalTableEngine_quote (ops : List Word) (s : State) :
    (setLocalTableEngine ops s).state.quote = s.quote := by
  simp only [setLocalTableEngine, checked, liveOnly, refuse, done, doneWith]
  repeat' split
  all_goals first | rfl | simp
@[simp] theorem setLocalTableEngine_display (ops : List Word) (s : State) :
    (setLocalTableEngine ops s).state.display = s.display := by
  simp only [setLocalTableEngine, checked, liveOnly, refuse, done, doneWith]
  repeat' split
  all_goals first | rfl | simp
@[simp] theorem setLocalTableEngine_tape (ops : List Word) (s : State) :
    (setLocalTableEngine ops s).state.tape = s.tape := by
  simp only [setLocalTableEngine, checked, liveOnly, refuse, done, doneWith]
  repeat' split
  all_goals first | rfl | simp
@[simp] theorem setLocalTableEngine_notices (ops : List Word) (s : State) :
    (setLocalTableEngine ops s).state.notices = s.notices := by
  simp only [setLocalTableEngine, checked, liveOnly, refuse, done, doneWith]
  repeat' split
  all_goals first | rfl | simp
@[simp] theorem setLocalTableEngine_timebase (ops : List Word) (s : State) :
    (setLocalTableEngine ops s).state.timebase = s.timebase := by
  simp only [setLocalTableEngine, checked, liveOnly, refuse, done, doneWith]
  repeat' split
  all_goals first | rfl | simp
@[simp] theorem setLocalTableEngine_items (ops : List Word) (s : State) :
    (setLocalTableEngine ops s).state.items = s.items := by
  simp only [setLocalTableEngine, checked, liveOnly, refuse, done, doneWith]
  repeat' split
  all_goals first | rfl | simp
@[simp] theorem setLocalTableEngine_transit (ops : List Word) (s : State) :
    (setLocalTableEngine ops s).state.transit = s.transit := by
  simp only [setLocalTableEngine, checked, liveOnly, refuse, done, doneWith]
  repeat' split
  all_goals first | rfl | simp

@[simp] theorem openPageEngine_pending (ops : List Word) (s : State) :
    (openPageEngine ops s).state.pending = s.pending := by
  simp only [openPageEngine, checked, liveOnly, refuse, done, doneWith]
  repeat' split
  all_goals first | rfl | simp
@[simp] theorem openPageEngine_inReset (ops : List Word) (s : State) :
    (openPageEngine ops s).state.inReset = s.inReset := by
  simp only [openPageEngine, checked, liveOnly, refuse, done, doneWith]
  repeat' split
  all_goals first | rfl | simp
@[simp] theorem openPageEngine_mode (ops : List Word) (s : State) :
    (openPageEngine ops s).state.mode = s.mode := by
  simp only [openPageEngine, checked, liveOnly, refuse, done, doneWith]
  repeat' split
  all_goals first | rfl | simp
@[simp] theorem openPageEngine_ports (ops : List Word) (s : State) :
    (openPageEngine ops s).state.ports = s.ports := by
  simp only [openPageEngine, checked, liveOnly, refuse, done, doneWith]
  repeat' split
  all_goals first | rfl | simp
@[simp] theorem openPageEngine_display (ops : List Word) (s : State) :
    (openPageEngine ops s).state.display = s.display := by
  simp only [openPageEngine, checked, liveOnly, refuse, done, doneWith]
  repeat' split
  all_goals first | rfl | simp
@[simp] theorem openPageEngine_tape (ops : List Word) (s : State) :
    (openPageEngine ops s).state.tape = s.tape := by
  simp only [openPageEngine, checked, liveOnly, refuse, done, doneWith]
  repeat' split
  all_goals first | rfl | simp
@[simp] theorem openPageEngine_notices (ops : List Word) (s : State) :
    (openPageEngine ops s).state.notices = s.notices := by
  simp only [openPageEngine, checked, liveOnly, refuse, done, doneWith]
  repeat' split
  all_goals first | rfl | simp
@[simp] theorem openPageEngine_timebase (ops : List Word) (s : State) :
    (openPageEngine ops s).state.timebase = s.timebase := by
  simp only [openPageEngine, checked, liveOnly, refuse, done, doneWith]
  repeat' split
  all_goals first | rfl | simp
@[simp] theorem openPageEngine_items (ops : List Word) (s : State) :
    (openPageEngine ops s).state.items = s.items := by
  simp only [openPageEngine, checked, liveOnly, refuse, done, doneWith]
  repeat' split
  all_goals first | rfl | simp

@[simp] theorem closePageEngine_pending (p : PortId) (ops : List Word) (s : State) :
    (closePageEngine p ops s).state.pending = s.pending := by
  have body := checked_frame (fun t => t.pending) (check := fun ops _ => firstRefusal [(decide (ops.length ≠ 1) || badTerminal ops, .malformed)])
    (act := fun ops s => done (s.closePage (operand ops 0))) (ops := ops) (s := s) (by simp [done])
  unfold closePageEngine
  split
  · exact liveOnly_frame (fun t => t.pending) body
  · exact body
@[simp] theorem closePageEngine_inReset (p : PortId) (ops : List Word) (s : State) :
    (closePageEngine p ops s).state.inReset = s.inReset := by
  have body := checked_frame (fun t => t.inReset) (check := fun ops _ => firstRefusal [(decide (ops.length ≠ 1) || badTerminal ops, .malformed)])
    (act := fun ops s => done (s.closePage (operand ops 0))) (ops := ops) (s := s) (by simp [done])
  unfold closePageEngine
  split
  · exact liveOnly_frame (fun t => t.inReset) body
  · exact body
@[simp] theorem closePageEngine_mode (p : PortId) (ops : List Word) (s : State) :
    (closePageEngine p ops s).state.mode = s.mode := by
  have body := checked_frame (fun t => t.mode) (check := fun ops _ => firstRefusal [(decide (ops.length ≠ 1) || badTerminal ops, .malformed)])
    (act := fun ops s => done (s.closePage (operand ops 0))) (ops := ops) (s := s) (by simp [done])
  unfold closePageEngine
  split
  · exact liveOnly_frame (fun t => t.mode) body
  · exact body
@[simp] theorem closePageEngine_ports (p : PortId) (ops : List Word) (s : State) :
    (closePageEngine p ops s).state.ports = s.ports := by
  have body := checked_frame (fun t => t.ports) (check := fun ops _ => firstRefusal [(decide (ops.length ≠ 1) || badTerminal ops, .malformed)])
    (act := fun ops s => done (s.closePage (operand ops 0))) (ops := ops) (s := s) (by simp [done])
  unfold closePageEngine
  split
  · exact liveOnly_frame (fun t => t.ports) body
  · exact body
@[simp] theorem closePageEngine_display (p : PortId) (ops : List Word) (s : State) :
    (closePageEngine p ops s).state.display = s.display := by
  have body := checked_frame (fun t => t.display) (check := fun ops _ => firstRefusal [(decide (ops.length ≠ 1) || badTerminal ops, .malformed)])
    (act := fun ops s => done (s.closePage (operand ops 0))) (ops := ops) (s := s) (by simp [done])
  unfold closePageEngine
  split
  · exact liveOnly_frame (fun t => t.display) body
  · exact body
@[simp] theorem closePageEngine_tape (p : PortId) (ops : List Word) (s : State) :
    (closePageEngine p ops s).state.tape = s.tape := by
  have body := checked_frame (fun t => t.tape) (check := fun ops _ => firstRefusal [(decide (ops.length ≠ 1) || badTerminal ops, .malformed)])
    (act := fun ops s => done (s.closePage (operand ops 0))) (ops := ops) (s := s) (by simp [done])
  unfold closePageEngine
  split
  · exact liveOnly_frame (fun t => t.tape) body
  · exact body
@[simp] theorem closePageEngine_notices (p : PortId) (ops : List Word) (s : State) :
    (closePageEngine p ops s).state.notices = s.notices := by
  have body := checked_frame (fun t => t.notices) (check := fun ops _ => firstRefusal [(decide (ops.length ≠ 1) || badTerminal ops, .malformed)])
    (act := fun ops s => done (s.closePage (operand ops 0))) (ops := ops) (s := s) (by simp [done])
  unfold closePageEngine
  split
  · exact liveOnly_frame (fun t => t.notices) body
  · exact body
@[simp] theorem closePageEngine_timebase (p : PortId) (ops : List Word) (s : State) :
    (closePageEngine p ops s).state.timebase = s.timebase := by
  have body := checked_frame (fun t => t.timebase) (check := fun ops _ => firstRefusal [(decide (ops.length ≠ 1) || badTerminal ops, .malformed)])
    (act := fun ops s => done (s.closePage (operand ops 0))) (ops := ops) (s := s) (by simp [done])
  unfold closePageEngine
  split
  · exact liveOnly_frame (fun t => t.timebase) body
  · exact body
@[simp] theorem closePageEngine_items (p : PortId) (ops : List Word) (s : State) :
    (closePageEngine p ops s).state.items = s.items := by
  have body := checked_frame (fun t => t.items) (check := fun ops _ => firstRefusal [(decide (ops.length ≠ 1) || badTerminal ops, .malformed)])
    (act := fun ops s => done (s.closePage (operand ops 0))) (ops := ops) (s := s) (by simp [done])
  unfold closePageEngine
  split
  · exact liveOnly_frame (fun t => t.items) body
  · exact body
@[simp] theorem closePageEngine_transit (p : PortId) (ops : List Word) (s : State) :
    (closePageEngine p ops s).state.transit = s.transit := by
  have body := checked_frame (fun t => t.transit) (check := fun ops _ => firstRefusal [(decide (ops.length ≠ 1) || badTerminal ops, .malformed)])
    (act := fun ops s => done (s.closePage (operand ops 0))) (ops := ops) (s := s) (by simp [done])
  unfold closePageEngine
  split
  · exact liveOnly_frame (fun t => t.transit) body
  · exact body

@[simp] theorem writePageLineEngine_pending (ops : List Word) (s : State) :
    (writePageLineEngine ops s).state.pending = s.pending := by
  simp only [writePageLineEngine, checked, liveOnly, refuse, done, doneWith]
  repeat' split
  all_goals first | rfl | simp
@[simp] theorem writePageLineEngine_inReset (ops : List Word) (s : State) :
    (writePageLineEngine ops s).state.inReset = s.inReset := by
  simp only [writePageLineEngine, checked, liveOnly, refuse, done, doneWith]
  repeat' split
  all_goals first | rfl | simp
@[simp] theorem writePageLineEngine_mode (ops : List Word) (s : State) :
    (writePageLineEngine ops s).state.mode = s.mode := by
  simp only [writePageLineEngine, checked, liveOnly, refuse, done, doneWith]
  repeat' split
  all_goals first | rfl | simp
@[simp] theorem writePageLineEngine_quote (ops : List Word) (s : State) :
    (writePageLineEngine ops s).state.quote = s.quote := by
  simp only [writePageLineEngine, checked, liveOnly, refuse, done, doneWith]
  repeat' split
  all_goals first | rfl | simp
@[simp] theorem writePageLineEngine_display (ops : List Word) (s : State) :
    (writePageLineEngine ops s).state.display = s.display := by
  simp only [writePageLineEngine, checked, liveOnly, refuse, done, doneWith]
  repeat' split
  all_goals first | rfl | simp
@[simp] theorem writePageLineEngine_tape (ops : List Word) (s : State) :
    (writePageLineEngine ops s).state.tape = s.tape := by
  simp only [writePageLineEngine, checked, liveOnly, refuse, done, doneWith]
  repeat' split
  all_goals first | rfl | simp
@[simp] theorem writePageLineEngine_notices (ops : List Word) (s : State) :
    (writePageLineEngine ops s).state.notices = s.notices := by
  simp only [writePageLineEngine, checked, liveOnly, refuse, done, doneWith]
  repeat' split
  all_goals first | rfl | simp
@[simp] theorem writePageLineEngine_timebase (ops : List Word) (s : State) :
    (writePageLineEngine ops s).state.timebase = s.timebase := by
  simp only [writePageLineEngine, checked, liveOnly, refuse, done, doneWith]
  repeat' split
  all_goals first | rfl | simp
@[simp] theorem writePageLineEngine_items (ops : List Word) (s : State) :
    (writePageLineEngine ops s).state.items = s.items := by
  simp only [writePageLineEngine, checked, liveOnly, refuse, done, doneWith]
  repeat' split
  all_goals first | rfl | simp
@[simp] theorem writePageLineEngine_transit (ops : List Word) (s : State) :
    (writePageLineEngine ops s).state.transit = s.transit := by
  simp only [writePageLineEngine, checked, liveOnly, refuse, done, doneWith]
  repeat' split
  all_goals first | rfl | simp

/-- All that a handoff at one terminal can change. -/
theorem State.markTerminal_frame (b : PageChange) (s : State) (n : Nat) : s.markTerminal b n =
    { s with
      pages := { s.pages with contexts := (s.markTerminal b n).pages.contexts }
      transit := { s.transit with raises := (s.markTerminal b n).transit.raises } } := by
  unfold State.markTerminal
  split
  · rfl
  · dsimp only
    split <;> rfl
/-- All that a handoff at the page engine can change. -/
theorem State.takePageChange_frame (b : PageChange) (s : State) : s.takePageChange b =
    { s with
      pages := { s.pages with contexts := (s.takePageChange b).pages.contexts }
      transit := { s.transit with raises := (s.takePageChange b).transit.raises } } := by
  unfold State.takePageChange
  generalize (s.instr b.index).viewers = ns
  induction ns generalizing s with
  | nil => rfl
  | cons n ns ih => rw [List.foldl_cons, ih, State.markTerminal_frame]
/-- All that handoffs taken one after another can change. -/
theorem State.takePageChanges_frame (bs : List PageChange) (s : State) : s.takePageChanges bs =
    { s with
      pages := { s.pages with contexts := (s.takePageChanges bs).pages.contexts }
      transit := { s.transit with
        pageChanges := (s.takePageChanges bs).transit.pageChanges
        raises := (s.takePageChanges bs).transit.raises } } := by
  induction bs generalizing s with
  | nil => rfl
  | cons b bs ih => rw [State.takePageChanges, ih, State.takePageChange_frame]
/-- All that READ CHANGED LINE can change. -/
theorem State.readChanged_frame (n : Nat) (s : State) : (s.readChanged n).state =
    { s with
      pages := { s.pages with contexts := (s.readChanged n).state.pages.contexts }
      transit := { s.transit with
        pageChanges := (s.readChanged n).state.transit.pageChanges
        raises := (s.readChanged n).state.transit.raises } } := by
  have line : ∀ (u : State) (x : Result), u.takeLine n = some x →
      x.state = { u with pages := { u.pages with contexts := x.state.pages.contexts } } := by
    intro u x h
    unfold State.takeLine at h
    split at h
    · cases h
    · split at h
      · cases h
      · cases h; rfl
  unfold State.readChanged
  generalize hu : (if s.readOvertakes n then s.pagesCaughtUp else s) = u
  have frame : u =
      { s with
        pages := { s.pages with contexts := u.pages.contexts }
        transit := { s.transit with pageChanges := u.transit.pageChanges, raises := u.transit.raises } } := by
    subst hu
    split
    · exact State.takePageChanges_frame _ _
    · rfl
  cases h : u.takeLine n with
  | none => rfl
  | some x =>
    have hx := line u x h
    rw [Option.getD_some]
    generalize x.state = y at hx ⊢
    generalize y.pages.contexts = cs at hx
    subst hx
    generalize u.pages.contexts = a at frame
    generalize u.transit.pageChanges = b at frame
    generalize u.transit.raises = c at frame
    subst frame
    rfl
@[simp] theorem readChangedLineEngine_pending (ops : List Word) (s : State) :
    (readChangedLineEngine ops s).state.pending = s.pending := by
  simp only [readChangedLineEngine, checked, liveOnly]
  repeat' split
  all_goals first | rfl | (rw [State.readChanged_frame])
@[simp] theorem readChangedLineEngine_inReset (ops : List Word) (s : State) :
    (readChangedLineEngine ops s).state.inReset = s.inReset := by
  simp only [readChangedLineEngine, checked, liveOnly]
  repeat' split
  all_goals first | rfl | (rw [State.readChanged_frame])
@[simp] theorem readChangedLineEngine_mode (ops : List Word) (s : State) :
    (readChangedLineEngine ops s).state.mode = s.mode := by
  simp only [readChangedLineEngine, checked, liveOnly]
  repeat' split
  all_goals first | rfl | (rw [State.readChanged_frame])
@[simp] theorem readChangedLineEngine_ports (ops : List Word) (s : State) :
    (readChangedLineEngine ops s).state.ports = s.ports := by
  simp only [readChangedLineEngine, checked, liveOnly]
  repeat' split
  all_goals first | rfl | (rw [State.readChanged_frame])
@[simp] theorem readChangedLineEngine_quote (ops : List Word) (s : State) :
    (readChangedLineEngine ops s).state.quote = s.quote := by
  simp only [readChangedLineEngine, checked, liveOnly]
  repeat' split
  all_goals first | rfl | (rw [State.readChanged_frame])
@[simp] theorem readChangedLineEngine_display (ops : List Word) (s : State) :
    (readChangedLineEngine ops s).state.display = s.display := by
  simp only [readChangedLineEngine, checked, liveOnly]
  repeat' split
  all_goals first | rfl | (rw [State.readChanged_frame])
@[simp] theorem readChangedLineEngine_tape (ops : List Word) (s : State) :
    (readChangedLineEngine ops s).state.tape = s.tape := by
  simp only [readChangedLineEngine, checked, liveOnly]
  repeat' split
  all_goals first | rfl | (rw [State.readChanged_frame])
@[simp] theorem readChangedLineEngine_notices (ops : List Word) (s : State) :
    (readChangedLineEngine ops s).state.notices = s.notices := by
  simp only [readChangedLineEngine, checked, liveOnly]
  repeat' split
  all_goals first | rfl | (rw [State.readChanged_frame])
@[simp] theorem readChangedLineEngine_timebase (ops : List Word) (s : State) :
    (readChangedLineEngine ops s).state.timebase = s.timebase := by
  simp only [readChangedLineEngine, checked, liveOnly]
  repeat' split
  all_goals first | rfl | (rw [State.readChanged_frame])
@[simp] theorem readChangedLineEngine_items (ops : List Word) (s : State) :
    (readChangedLineEngine ops s).state.items = s.items := by
  simp only [readChangedLineEngine, checked, liveOnly]
  repeat' split
  all_goals first | rfl | (rw [State.readChanged_frame])
theorem readChangedLineEngine_transit (ops : List Word) (s : State) :
    (readChangedLineEngine ops s).state.transit = { s.transit with
      pageChanges := (readChangedLineEngine ops s).state.transit.pageChanges
      raises := (readChangedLineEngine ops s).state.transit.raises } := by
  simp only [readChangedLineEngine, checked, liveOnly]
  repeat' split
  all_goals first | rfl | (rw [State.readChanged_frame])

@[simp] theorem readLineEngine_pending (ops : List Word) (s : State) :
    (readLineEngine ops s).state.pending = s.pending := by
  simp only [readLineEngine, checked, liveOnly, refuse, done, doneWith]
  repeat' split
  all_goals first | rfl | simp
@[simp] theorem readLineEngine_inReset (ops : List Word) (s : State) :
    (readLineEngine ops s).state.inReset = s.inReset := by
  simp only [readLineEngine, checked, liveOnly, refuse, done, doneWith]
  repeat' split
  all_goals first | rfl | simp
@[simp] theorem readLineEngine_mode (ops : List Word) (s : State) :
    (readLineEngine ops s).state.mode = s.mode := by
  simp only [readLineEngine, checked, liveOnly, refuse, done, doneWith]
  repeat' split
  all_goals first | rfl | simp
@[simp] theorem readLineEngine_ports (ops : List Word) (s : State) :
    (readLineEngine ops s).state.ports = s.ports := by
  simp only [readLineEngine, checked, liveOnly, refuse, done, doneWith]
  repeat' split
  all_goals first | rfl | simp
@[simp] theorem readLineEngine_quote (ops : List Word) (s : State) :
    (readLineEngine ops s).state.quote = s.quote := by
  simp only [readLineEngine, checked, liveOnly, refuse, done, doneWith]
  repeat' split
  all_goals first | rfl | simp
@[simp] theorem readLineEngine_display (ops : List Word) (s : State) :
    (readLineEngine ops s).state.display = s.display := by
  simp only [readLineEngine, checked, liveOnly, refuse, done, doneWith]
  repeat' split
  all_goals first | rfl | simp
@[simp] theorem readLineEngine_tape (ops : List Word) (s : State) :
    (readLineEngine ops s).state.tape = s.tape := by
  simp only [readLineEngine, checked, liveOnly, refuse, done, doneWith]
  repeat' split
  all_goals first | rfl | simp
@[simp] theorem readLineEngine_pages (ops : List Word) (s : State) :
    (readLineEngine ops s).state.pages = s.pages := by
  simp only [readLineEngine, checked, liveOnly, refuse, done, doneWith]
  repeat' split
  all_goals first | rfl | simp
@[simp] theorem readLineEngine_notices (ops : List Word) (s : State) :
    (readLineEngine ops s).state.notices = s.notices := by
  simp only [readLineEngine, checked, liveOnly, refuse, done, doneWith]
  repeat' split
  all_goals first | rfl | simp
@[simp] theorem readLineEngine_timebase (ops : List Word) (s : State) :
    (readLineEngine ops s).state.timebase = s.timebase := by
  simp only [readLineEngine, checked, liveOnly, refuse, done, doneWith]
  repeat' split
  all_goals first | rfl | simp
@[simp] theorem readLineEngine_items (ops : List Word) (s : State) :
    (readLineEngine ops s).state.items = s.items := by
  simp only [readLineEngine, checked, liveOnly, refuse, done, doneWith]
  repeat' split
  all_goals first | rfl | simp
@[simp] theorem readLineEngine_transit (ops : List Word) (s : State) :
    (readLineEngine ops s).state.transit = s.transit := by
  simp only [readLineEngine, checked, liveOnly, refuse, done, doneWith]
  repeat' split
  all_goals first | rfl | simp

@[simp] theorem setNoticeMaskEngine_pending (ops : List Word) (s : State) :
    (setNoticeMaskEngine ops s).state.pending = s.pending := by
  simp only [setNoticeMaskEngine, checked, liveOnly, refuse, done, doneWith]
  repeat' split
  all_goals first | rfl | simp
@[simp] theorem setNoticeMaskEngine_inReset (ops : List Word) (s : State) :
    (setNoticeMaskEngine ops s).state.inReset = s.inReset := by
  simp only [setNoticeMaskEngine, checked, liveOnly, refuse, done, doneWith]
  repeat' split
  all_goals first | rfl | simp
@[simp] theorem setNoticeMaskEngine_mode (ops : List Word) (s : State) :
    (setNoticeMaskEngine ops s).state.mode = s.mode := by
  simp only [setNoticeMaskEngine, checked, liveOnly, refuse, done, doneWith]
  repeat' split
  all_goals first | rfl | simp
@[simp] theorem setNoticeMaskEngine_ports (ops : List Word) (s : State) :
    (setNoticeMaskEngine ops s).state.ports = s.ports := by
  simp only [setNoticeMaskEngine, checked, liveOnly, refuse, done, doneWith]
  repeat' split
  all_goals first | rfl | simp
@[simp] theorem setNoticeMaskEngine_quote (ops : List Word) (s : State) :
    (setNoticeMaskEngine ops s).state.quote = s.quote := by
  simp only [setNoticeMaskEngine, checked, liveOnly, refuse, done, doneWith]
  repeat' split
  all_goals first | rfl | simp
@[simp] theorem setNoticeMaskEngine_display (ops : List Word) (s : State) :
    (setNoticeMaskEngine ops s).state.display = s.display := by
  simp only [setNoticeMaskEngine, checked, liveOnly, refuse, done, doneWith]
  repeat' split
  all_goals first | rfl | simp
@[simp] theorem setNoticeMaskEngine_tape (ops : List Word) (s : State) :
    (setNoticeMaskEngine ops s).state.tape = s.tape := by
  simp only [setNoticeMaskEngine, checked, liveOnly, refuse, done, doneWith]
  repeat' split
  all_goals first | rfl | simp
@[simp] theorem setNoticeMaskEngine_pages (ops : List Word) (s : State) :
    (setNoticeMaskEngine ops s).state.pages = s.pages := by
  simp only [setNoticeMaskEngine, checked, liveOnly, refuse, done, doneWith]
  repeat' split
  all_goals first | rfl | simp
@[simp] theorem setNoticeMaskEngine_timebase (ops : List Word) (s : State) :
    (setNoticeMaskEngine ops s).state.timebase = s.timebase := by
  simp only [setNoticeMaskEngine, checked, liveOnly, refuse, done, doneWith]
  repeat' split
  all_goals first | rfl | simp
@[simp] theorem setNoticeMaskEngine_items (ops : List Word) (s : State) :
    (setNoticeMaskEngine ops s).state.items = s.items := by
  simp only [setNoticeMaskEngine, checked, liveOnly, refuse, done, doneWith]
  repeat' split
  all_goals first | rfl | simp
@[simp] theorem setNoticeMaskEngine_transit (ops : List Word) (s : State) :
    (setNoticeMaskEngine ops s).state.transit = s.transit := by
  simp only [setNoticeMaskEngine, checked, liveOnly, refuse, done, doneWith]
  repeat' split
  all_goals first | rfl | simp

@[simp] theorem takeNoticeEngine_pending (ops : List Word) (s : State) :
    (takeNoticeEngine ops s).state.pending = s.pending := by
  simp only [takeNoticeEngine, State.takeHead, checked, liveOnly, refuse, done, doneWith]
  repeat' split
  all_goals first | rfl | simp
@[simp] theorem takeNoticeEngine_inReset (ops : List Word) (s : State) :
    (takeNoticeEngine ops s).state.inReset = s.inReset := by
  simp only [takeNoticeEngine, State.takeHead, checked, liveOnly, refuse, done, doneWith]
  repeat' split
  all_goals first | rfl | simp
@[simp] theorem takeNoticeEngine_mode (ops : List Word) (s : State) :
    (takeNoticeEngine ops s).state.mode = s.mode := by
  simp only [takeNoticeEngine, State.takeHead, checked, liveOnly, refuse, done, doneWith]
  repeat' split
  all_goals first | rfl | simp
@[simp] theorem takeNoticeEngine_ports (ops : List Word) (s : State) :
    (takeNoticeEngine ops s).state.ports = s.ports := by
  simp only [takeNoticeEngine, State.takeHead, checked, liveOnly, refuse, done, doneWith]
  repeat' split
  all_goals first | rfl | simp
@[simp] theorem takeNoticeEngine_quote (ops : List Word) (s : State) :
    (takeNoticeEngine ops s).state.quote = s.quote := by
  simp only [takeNoticeEngine, State.takeHead, checked, liveOnly, refuse, done, doneWith]
  repeat' split
  all_goals first | rfl | simp
@[simp] theorem takeNoticeEngine_display (ops : List Word) (s : State) :
    (takeNoticeEngine ops s).state.display = s.display := by
  simp only [takeNoticeEngine, State.takeHead, checked, liveOnly, refuse, done, doneWith]
  repeat' split
  all_goals first | rfl | simp
@[simp] theorem takeNoticeEngine_tape (ops : List Word) (s : State) :
    (takeNoticeEngine ops s).state.tape = s.tape := by
  simp only [takeNoticeEngine, State.takeHead, checked, liveOnly, refuse, done, doneWith]
  repeat' split
  all_goals first | rfl | simp
@[simp] theorem takeNoticeEngine_pages (ops : List Word) (s : State) :
    (takeNoticeEngine ops s).state.pages = s.pages := by
  simp only [takeNoticeEngine, State.takeHead, checked, liveOnly, refuse, done, doneWith]
  repeat' split
  all_goals first | rfl | simp
@[simp] theorem takeNoticeEngine_timebase (ops : List Word) (s : State) :
    (takeNoticeEngine ops s).state.timebase = s.timebase := by
  simp only [takeNoticeEngine, State.takeHead, checked, liveOnly, refuse, done, doneWith]
  repeat' split
  all_goals first | rfl | simp
@[simp] theorem takeNoticeEngine_items (ops : List Word) (s : State) :
    (takeNoticeEngine ops s).state.items = s.items := by
  simp only [takeNoticeEngine, State.takeHead, checked, liveOnly, refuse, done, doneWith]
  repeat' split
  all_goals first | rfl | simp
@[simp] theorem takeNoticeEngine_transit (ops : List Word) (s : State) :
    (takeNoticeEngine ops s).state.transit = s.transit := by
  simp only [takeNoticeEngine, State.takeHead, checked, liveOnly, refuse, done, doneWith]
  repeat' split
  all_goals first | rfl | simp

@[simp] theorem configureEngine_pending (ops : List Word) (s : State) :
    (configureEngine ops s).state.pending = s.pending := by
  simp only [configureEngine, checked, liveOnly, refuse, done, doneWith]
  repeat' split
  all_goals first | rfl | simp
@[simp] theorem configureEngine_inReset (ops : List Word) (s : State) :
    (configureEngine ops s).state.inReset = s.inReset := by
  simp only [configureEngine, checked, liveOnly, refuse, done, doneWith]
  repeat' split
  all_goals first | rfl | simp
@[simp] theorem configureEngine_mode (ops : List Word) (s : State) :
    (configureEngine ops s).state.mode = s.mode := by
  simp only [configureEngine, checked, liveOnly, refuse, done, doneWith]
  repeat' split
  all_goals first | rfl | simp
@[simp] theorem configureEngine_ports (ops : List Word) (s : State) :
    (configureEngine ops s).state.ports = s.ports := by
  simp only [configureEngine, checked, liveOnly, refuse, done, doneWith]
  repeat' split
  all_goals first | rfl | simp
@[simp] theorem configureEngine_quote (ops : List Word) (s : State) :
    (configureEngine ops s).state.quote = s.quote := by
  simp only [configureEngine, checked, liveOnly, refuse, done, doneWith]
  repeat' split
  all_goals first | rfl | simp
@[simp] theorem configureEngine_pages (ops : List Word) (s : State) :
    (configureEngine ops s).state.pages = s.pages := by
  simp only [configureEngine, checked, liveOnly, refuse, done, doneWith]
  repeat' split
  all_goals first | rfl | simp
@[simp] theorem configureEngine_notices (ops : List Word) (s : State) :
    (configureEngine ops s).state.notices = s.notices := by
  simp only [configureEngine, checked, liveOnly, refuse, done, doneWith]
  repeat' split
  all_goals first | rfl | simp
@[simp] theorem configureEngine_timebase (ops : List Word) (s : State) :
    (configureEngine ops s).state.timebase = s.timebase := by
  simp only [configureEngine, checked, liveOnly, refuse, done, doneWith]
  repeat' split
  all_goals first | rfl | simp
@[simp] theorem configureEngine_transit (ops : List Word) (s : State) :
    (configureEngine ops s).state.transit = s.transit := by
  simp only [configureEngine, checked, liveOnly, refuse, done, doneWith]
  repeat' split
  all_goals first | rfl | simp

@[simp] theorem goLiveEngine_pending (ops : List Word) (s : State) :
    (goLiveEngine ops s).state.pending = s.pending := by
  simp only [goLiveEngine, checked, liveOnly, refuse, done, doneWith]
  repeat' split
  all_goals first | rfl | simp
@[simp] theorem goLiveEngine_inReset (ops : List Word) (s : State) :
    (goLiveEngine ops s).state.inReset = s.inReset := by
  simp only [goLiveEngine, checked, liveOnly, refuse, done, doneWith]
  repeat' split
  all_goals first | rfl | simp
@[simp] theorem goLiveEngine_ports (ops : List Word) (s : State) :
    (goLiveEngine ops s).state.ports = s.ports := by
  simp only [goLiveEngine, checked, liveOnly, refuse, done, doneWith]
  repeat' split
  all_goals first | rfl | simp
@[simp] theorem goLiveEngine_quote (ops : List Word) (s : State) :
    (goLiveEngine ops s).state.quote = s.quote := by
  simp only [goLiveEngine, checked, liveOnly, refuse, done, doneWith]
  repeat' split
  all_goals first | rfl | simp
@[simp] theorem goLiveEngine_pages (ops : List Word) (s : State) :
    (goLiveEngine ops s).state.pages = s.pages := by
  simp only [goLiveEngine, checked, liveOnly, refuse, done, doneWith]
  repeat' split
  all_goals first | rfl | simp
@[simp] theorem goLiveEngine_notices (ops : List Word) (s : State) :
    (goLiveEngine ops s).state.notices = s.notices := by
  simp only [goLiveEngine, checked, liveOnly, refuse, done, doneWith]
  repeat' split
  all_goals first | rfl | simp
@[simp] theorem goLiveEngine_timebase (ops : List Word) (s : State) :
    (goLiveEngine ops s).state.timebase = s.timebase := by
  simp only [goLiveEngine, checked, liveOnly, refuse, done, doneWith]
  repeat' split
  all_goals first | rfl | simp
@[simp] theorem goLiveEngine_items (ops : List Word) (s : State) :
    (goLiveEngine ops s).state.items = s.items := by
  simp only [goLiveEngine, checked, liveOnly, refuse, done, doneWith]
  repeat' split
  all_goals first | rfl | simp
@[simp] theorem goLiveEngine_transit (ops : List Word) (s : State) :
    (goLiveEngine ops s).state.transit = s.transit := by
  simp only [goLiveEngine, checked, liveOnly, refuse, done, doneWith]
  repeat' split
  all_goals first | rfl | simp

@[simp] theorem goConfigEngine_pending (ops : List Word) (s : State) :
    (goConfigEngine ops s).state.pending = s.pending := by
  simp only [goConfigEngine, checked, liveOnly, refuse, done, doneWith]
  repeat' split
  all_goals first | rfl | simp
@[simp] theorem goConfigEngine_inReset (ops : List Word) (s : State) :
    (goConfigEngine ops s).state.inReset = s.inReset := by
  simp only [goConfigEngine, checked, liveOnly, refuse, done, doneWith]
  repeat' split
  all_goals first | rfl | simp
@[simp] theorem goConfigEngine_ports (ops : List Word) (s : State) :
    (goConfigEngine ops s).state.ports = s.ports := by
  simp only [goConfigEngine, checked, liveOnly, refuse, done, doneWith]
  repeat' split
  all_goals first | rfl | simp
@[simp] theorem goConfigEngine_quote (ops : List Word) (s : State) :
    (goConfigEngine ops s).state.quote = s.quote := by
  simp only [goConfigEngine, checked, liveOnly, refuse, done, doneWith]
  repeat' split
  all_goals first | rfl | simp
@[simp] theorem goConfigEngine_pages (ops : List Word) (s : State) :
    (goConfigEngine ops s).state.pages = s.pages := by
  simp only [goConfigEngine, checked, liveOnly, refuse, done, doneWith]
  repeat' split
  all_goals first | rfl | simp
@[simp] theorem goConfigEngine_notices (ops : List Word) (s : State) :
    (goConfigEngine ops s).state.notices = s.notices := by
  simp only [goConfigEngine, checked, liveOnly, refuse, done, doneWith]
  repeat' split
  all_goals first | rfl | simp
@[simp] theorem goConfigEngine_timebase (ops : List Word) (s : State) :
    (goConfigEngine ops s).state.timebase = s.timebase := by
  simp only [goConfigEngine, checked, liveOnly, refuse, done, doneWith]
  repeat' split
  all_goals first | rfl | simp
@[simp] theorem goConfigEngine_items (ops : List Word) (s : State) :
    (goConfigEngine ops s).state.items = s.items := by
  simp only [goConfigEngine, checked, liveOnly, refuse, done, doneWith]
  repeat' split
  all_goals first | rfl | simp
@[simp] theorem goConfigEngine_transit (ops : List Word) (s : State) :
    (goConfigEngine ops s).state.transit = s.transit := by
  simp only [goConfigEngine, checked, liveOnly, refuse, done, doneWith]
  repeat' split
  all_goals first | rfl | simp

@[simp] theorem setTimeEngine_pending (ops : List Word) (s : State) :
    (setTimeEngine ops s).state.pending = s.pending := by
  simp only [setTimeEngine, checked, liveOnly, refuse, done, doneWith]
  repeat' split
  all_goals first | rfl | simp
@[simp] theorem setTimeEngine_inReset (ops : List Word) (s : State) :
    (setTimeEngine ops s).state.inReset = s.inReset := by
  simp only [setTimeEngine, checked, liveOnly, refuse, done, doneWith]
  repeat' split
  all_goals first | rfl | simp
@[simp] theorem setTimeEngine_mode (ops : List Word) (s : State) :
    (setTimeEngine ops s).state.mode = s.mode := by
  simp only [setTimeEngine, checked, liveOnly, refuse, done, doneWith]
  repeat' split
  all_goals first | rfl | simp
@[simp] theorem setTimeEngine_ports (ops : List Word) (s : State) :
    (setTimeEngine ops s).state.ports = s.ports := by
  simp only [setTimeEngine, checked, liveOnly, refuse, done, doneWith]
  repeat' split
  all_goals first | rfl | simp
@[simp] theorem setTimeEngine_quote (ops : List Word) (s : State) :
    (setTimeEngine ops s).state.quote = s.quote := by
  simp only [setTimeEngine, checked, liveOnly, refuse, done, doneWith]
  repeat' split
  all_goals first | rfl | simp
@[simp] theorem setTimeEngine_display (ops : List Word) (s : State) :
    (setTimeEngine ops s).state.display = s.display := by
  simp only [setTimeEngine, checked, liveOnly, refuse, done, doneWith]
  repeat' split
  all_goals first | rfl | simp
@[simp] theorem setTimeEngine_tape (ops : List Word) (s : State) :
    (setTimeEngine ops s).state.tape = s.tape := by
  simp only [setTimeEngine, checked, liveOnly, refuse, done, doneWith]
  repeat' split
  all_goals first | rfl | simp
@[simp] theorem setTimeEngine_pages (ops : List Word) (s : State) :
    (setTimeEngine ops s).state.pages = s.pages := by
  simp only [setTimeEngine, checked, liveOnly, refuse, done, doneWith]
  repeat' split
  all_goals first | rfl | simp
@[simp] theorem setTimeEngine_notices (ops : List Word) (s : State) :
    (setTimeEngine ops s).state.notices = s.notices := by
  simp only [setTimeEngine, checked, liveOnly, refuse, done, doneWith]
  repeat' split
  all_goals first | rfl | simp
@[simp] theorem setTimeEngine_items (ops : List Word) (s : State) :
    (setTimeEngine ops s).state.items = s.items := by
  simp only [setTimeEngine, checked, liveOnly, refuse, done, doneWith]
  repeat' split
  all_goals first | rfl | simp

@[simp] theorem engineOf_pending (p : PortId) (r : Request) (ops : List Word) (s : State) :
    (engineOf p r ops s).state.pending = s.pending := by cases r <;> simp [engineOf]
@[simp] theorem engineOf_inReset (p : PortId) (r : Request) (ops : List Word) (s : State) :
    (engineOf p r ops s).state.inReset = s.inReset := by cases r <;> simp [engineOf]

end Sys2Proof.Machine
end

