-- ==== Sys2Proof/Laws/Port.lean ====
section
/-! SUPPORT. What a request's row does, once for all requests; reading and writing the port units. -/

set_option Elab.async false
set_option linter.unusedSimpArgs false
set_option linter.unusedTactic false
set_option linter.unreachableTactic false

namespace Sys2Proof.Machine

@[simp] theorem State.port_setPort_self (s : State) (p : PortId) (v : Port) : (s.setPort p v).port p = v := by
  cases p <;> rfl

@[simp] theorem State.port_setPort_ne (s : State) {p q : PortId} (v : Port) (h : q ≠ p) :
    (s.setPort p v).port q = s.port q := by
  cases p <;> cases q <;> first | rfl | exact absurd rfl h

@[simp] theorem State.setPort_setPort (s : State) (p : PortId) (v w : Port) :
    (s.setPort p v).setPort p w = s.setPort p w := by
  cases p <;> rfl

@[simp] theorem State.setPort_port (s : State) (p : PortId) : s.setPort p (s.port p) = s := by
  cases p <;> rfl

@[simp] theorem State.textBuffer_setPort (s : State) (p : PortId) (v : Port) :
    (s.setPort p v).ports.textBuffer = s.ports.textBuffer := by
  cases p <;> rfl

/-- A request's row at the word that completes it, taken now: its engine takes it. -/
theorem State.requestRow_now {s : State} {p : PortId} {w : Word} {r : Request} {ops : List Word}
    (h : s.receives p w r ops) (e : Engine) :
    s.requestRow r e p w .now = s.takeRequest p e ops false := by
  obtain ⟨h0, head, h1, h2⟩ := h
  simp [State.requestRow, h0, h1, h2, State.hand]

/-- A request's row at the word that completes it, taken later: the port unit holds it for its engine. -/
theorem State.requestRow_later {s : State} {p : PortId} {w : Word} {r : Request} {ops : List Word}
    (h : s.receives p w r ops) (e : Engine) :
    s.requestRow r e p w .later = s.setPortState p (.working (.handed r ops) false) := by
  obtain ⟨h0, head, h1, h2⟩ := h
  simp [State.requestRow, h0, h1, h2, State.hand]

/-- What a taken request leaves, from its engine's answer. -/
theorem State.takeRequest_of {s : State} {p : PortId} {e : Engine} {ops : List Word} {x : Result}
    (h : e ops s = x) : s.takeRequest p e ops false = x.state.answered p x.answer x.words := by
  simp [State.takeRequest, State.answered, h]

/-- A request's row taken now, from its engine's answer. -/
theorem State.requestRow_of {s : State} {p : PortId} {w : Word} {r : Request} {ops : List Word} {e : Engine}
    {x : Result} (h : s.receives p w r ops) (he : e ops s = x) :
    s.requestRow r e p w .now = x.state.answered p x.answer x.words := by
  rw [State.requestRow_now h, State.takeRequest_of he]

/-- A request reaches its engine only at a port that its row of the code table names. -/
theorem State.receives_permits {s : State} {p : PortId} {w : Word} {r : Request} {ops : List Word}
    (h : s.receives p w r ops) : r.permits p = true := by
  obtain ⟨-, head, -, h2⟩ := h
  unfold State.portCheck at h2
  split at h2
  · cases h2
  · split at h2
    · cases h2
    · split at h2
      · cases h2
      · split at h2
        · cases h2; assumption
        · cases h2

end Sys2Proof.Machine
end

