-- ==== Sys2Proof/Laws/Step.lean ====
section
/-! SUPPORT. What a command can do to a property of the part that no port unit holds: the request rows and the
port's own rows reduce to the engines, once for all of them; and what the operations on the records leave of each
record. -/

set_option Elab.async false
set_option linter.unusedSimpArgs false

namespace Sys2Proof.Machine

/-! ### The request rows reduce to the engines -/

/-- A property that the port units' own writes and every engine keep. -/
structure PortKept (Q : State → Prop) : Prop where
  port : ∀ (s : State) (p : PortId) (v : Port), Q s → Q (s.setPort p v)
  buffer : ∀ (s : State) (b : Option AssembledText), Q s → Q (s.setTextBuffer b)
  expectation : ∀ (s : State) (e : Option Nat), Q s → Q (s.setExpectation e)
  terminals : ∀ s : State, Q s → Q s.closeTerminals
  engine : ∀ (p : PortId) (r : Request) (ops : List Word) (s : State), Q s → Q (engineOf p r ops s).state

variable {Q : State → Prop}

theorem PortKept.record (h : PortKept Q) {s : State} (p : PortId) (c : Condition) (hs : Q s) : Q (s.record p c) :=
  h.port s p _ hs

theorem PortKept.recordMalformed (h : PortKept Q) {s : State} (p : PortId) (a : Answer) (hs : Q s) :
    Q (s.recordMalformed p a) := by
  unfold State.recordMalformed
  split
  · exact h.record p _ hs
  · exact hs

theorem PortKept.takeRequest (h : PortKept Q) {s : State} (p : PortId) {e : Engine} (he : ∀ ops s, Q s → Q (e ops s).state)
    (ops : List Word) (b : Bool) (hs : Q s) : Q (s.takeRequest p e ops b) :=
  h.port _ p _ (h.recordMalformed p _ (he ops s hs))

theorem PortKept.hand (h : PortKept Q) {s : State} (p : PortId) (r : Request) {e : Engine}
    (he : ∀ ops s, Q s → Q (e ops s).state) (ops : List Word) (k : Taking) (hs : Q s) : Q (s.hand p r e ops k) := by
  cases k with
  | now => exact h.takeRequest p he ops false hs
  | later => exact h.port s p _ hs

theorem PortKept.refuseAt (h : PortKept Q) {s : State} (p : PortId) (a : Answer) (hs : Q s) : Q (s.refuseAt p a) :=
  h.port _ p _ (h.recordMalformed p a hs)

theorem PortKept.requestWrite (h : PortKept Q) {s : State} (p : PortId) (w : Word) (k : Taking) (hs : Q s) :
    Q (s.requestWrite p w k) := by
  unfold State.requestWrite
  split
  · exact h.record p _ hs
  · exact h.port s p _ hs
  · split
    · exact h.refuseAt p _ hs
    · exact h.hand p _ (h.engine p _) _ k hs

theorem PortKept.requestRow (h : PortKept Q) {s : State} (r : Request) {e : Engine}
    (he : ∀ ops s, Q s → Q (e ops s).state) (p : PortId) (w : Word) (k : Taking) (hs : Q s) :
    Q (s.requestRow r e p w k) := by
  unfold State.requestRow
  split
  · exact hs
  · split
    · exact h.requestWrite p w k hs
    · exact h.requestWrite p w k hs
    · split
      · exact h.requestWrite p w k hs
      · split
        · exact h.hand p r he _ k hs
        · exact h.requestWrite p w k hs

theorem PortKept.resetPort (h : PortKept Q) {s : State} (p : PortId) (hs : Q s) : Q (s.resetPort p) := by
  unfold State.resetPort
  cases p <;> dsimp only
  · split
    · exact h.port s _ _ hs
    · exact h.expectation _ _ (h.port s _ _ hs)
  · split
    · exact h.port s _ _ hs
    · exact h.buffer _ _ (h.port s _ _ hs)
  · exact h.terminals _ (h.port s _ _ hs)

theorem PortKept.busWrite (h : PortKept Q) {s : State} (p : PortId) (loc : Fin 8) (w : Word) (k : Taking) (hs : Q s) :
    Q (s.busWrite p loc w k) := by
  unfold State.busWrite
  split
  · exact hs
  · split
    · exact h.requestWrite p w k hs
    · exact h.port s p _ hs
    · exact h.port s p _ hs
    · exact h.port s p _ hs
    · split
      · exact h.resetPort p hs
      · exact hs
    · exact hs

theorem PortKept.requestComplete (h : PortKept Q) {s : State} (p : PortId) (hs : Q s) : Q ((s.takeHanded p).finish p) := by
  have h1 : Q (s.takeHanded p) := by
    unfold State.takeHanded
    split
    · exact h.takeRequest p (h.engine p _) _ _ hs
    all_goals exact hs
  generalize s.takeHanded p = t at h1 ⊢
  unfold State.finish
  split
  · exact h1
  · split
    · unfold State.completeWith
      split
      · cases p
        · exact h.expectation _ _ (h.port t _ _ h1)
        · exact h.buffer _ _ (h.port t _ _ h1)
        · exact show Q (t.setPortState .terminal .idle) from h.port t _ _ h1
      · exact h.port t p _ h1
    all_goals exact h1

theorem PortKept.unlisted (h : PortKept Q) {s : State} {p : PortId} {w : Word} {t : State} (hs : Q s)
    (ht : exec (.unlistedRequestCode p w) s = .next t) : Q t := by
  have : ∀ {x : State}, Q x → (Host.Outcome.next x : Host.Outcome State Fault Refusal) = .next t → Q t := by
    intro x hx e; cases e; exact hx
  simp only [exec, execUnlistedRequestCode] at ht
  refine this ?_ ht
  split
  · exact hs
  · split
    · exact h.requestWrite p w _ hs
    · exact h.requestWrite p w _ hs
    · split
      · exact h.refuseAt p _ hs
      · exact h.requestWrite p w _ hs


/-- The row of a request is one call of the port unit's shared operation, with the request's engine. -/
theorem Request.exec_row (r : Request) (p : PortId) (w : Word) (k : Taking) (s : State) :
    exec (r.row p w k) s = .next (s.requestRow r (engineOf p r) p w k) := by
  cases r <;> rfl

/-- A request's row keeps what the port units and the engines keep. -/
theorem PortKept.row (h : PortKept Q) (r : Request) {s t : State} {p : PortId} {w : Word} {k : Taking} (hs : Q s)
    (ht : exec (r.row p w k) s = .next t) : Q t := by
  rw [Request.exec_row] at ht
  cases ht
  exact h.requestRow _ (h.engine p _) p w k hs

/-- A bus cycle, a port reset, the completion of a request and a word with an unlisted code keep it too. -/
theorem PortKept.portRow (h : PortKept Q) {s t : State} {c : Instr} (hs : Q s)
    (hc : (∃ p loc w k, c = .registerWrite p loc w k) ∨ (∃ p loc, c = .replyRead p loc) ∨
      (∃ p w, c = .errorStatusWrite p w) ∨ (∃ p w, c = .errorMaskWrite p w) ∨ (∃ p w, c = .errorSeverityWrite p w) ∨
      (∃ p w, c = .portReset p w) ∨ (∃ p, c = .requestComplete p) ∨ ∃ p w, c = .unlistedRequestCode p w)
    (ht : exec c s = .next t) : Q t := by
  have of : ∀ {x : State}, Q x → (Host.Outcome.next x : Host.Outcome State Fault Refusal) = .next t → Q t := by
    intro x hx e; cases e; exact hx
  rcases hc with ⟨p, loc, w, k, rfl⟩ | ⟨p, loc, rfl⟩ | ⟨p, w, rfl⟩ | ⟨p, w, rfl⟩ | ⟨p, w, rfl⟩ | ⟨p, w, rfl⟩ |
    ⟨p, rfl⟩ | ⟨p, w, rfl⟩
  · exact of (h.busWrite p loc w k hs) ht
  · exact of (h.port s p _ hs) ht
  · simp only [exec, execErrorStatusWrite] at ht
    refine of ?_ ht; split
    · exact hs
    · exact h.port s p _ hs
  · simp only [exec, execErrorMaskWrite] at ht
    refine of ?_ ht; split
    · exact hs
    · exact h.port s p _ hs
  · simp only [exec, execErrorSeverityWrite] at ht
    refine of ?_ ht; split
    · exact hs
    · exact h.port s p _ hs
  · simp only [exec, execPortReset] at ht
    refine of ?_ ht; split
    · exact hs
    · exact h.resetPort p hs
  · exact of (h.requestComplete p hs) ht
  · exact h.unlisted hs ht

/-! ### What operations leave of every record -/

/-- Every record stays as seen through `π`, and the instrument table keeps its canonical form. -/
structure State.sameRecords {α : Type} (π : Instrument → α) (s t : State) : Prop where
  same : Table.wf Instrument.vacant s.quote.instruments = true → ∀ i, π (t.instr i) = π (s.instr i)
  wf : Table.wf Instrument.vacant s.quote.instruments = true → Table.wf Instrument.vacant t.quote.instruments = true

variable {α : Type} {π : Instrument → α}

theorem State.sameRecords.refl (s : State) : s.sameRecords π s := ⟨fun _ _ => rfl, fun h => h⟩

theorem State.sameRecords.trans {s t u : State} (h : s.sameRecords π t) (g : t.sameRecords π u) : s.sameRecords π u :=
  ⟨fun w i => (g.same (h.wf w) i).trans (h.same w i), fun w => g.wf (h.wf w)⟩

/-- The instrument table itself stays. -/
theorem State.sameRecords.of_instruments {s t : State} (h : t.quote.instruments = s.quote.instruments) :
    s.sameRecords π t := by
  refine ⟨fun _ i => ?_, fun w => by rw [h]; exact w⟩
  unfold State.instr; rw [h]

@[simp] theorem State.instr_setInstr_self (s : State) (i : Nat) (v : Instrument) : (s.setInstr i v).instr i = v :=
  Table.get_put_self _ _ _ _

@[simp] theorem State.instr_setInstr_ne (s : State) {i j : Nat} (v : Instrument) (h : j ≠ i) :
    (s.setInstr i v).instr j = s.instr j := Table.get_put_ne _ _ _ h

theorem State.wf_setInstr {s : State} (i : Nat) (v : Instrument)
    (h : Table.wf Instrument.vacant s.quote.instruments = true) :
    Table.wf Instrument.vacant (s.setInstr i v).quote.instruments = true := Table.wf_put _ _ _ h

/-- A record is written that looks the same through `π`. -/
theorem State.sameRecords.setInstr (s : State) (i : Nat) (v : Instrument) (h : π v = π (s.instr i)) :
    s.sameRecords π (s.setInstr i v) := by
  refine ⟨fun _ j => ?_, fun w => State.wf_setInstr i v w⟩
  by_cases e : j = i
  · subst e; rw [State.instr_setInstr_self, h]
  · rw [State.instr_setInstr_ne _ _ e]

theorem State.sameRecords.change (s : State) (i : Nat) (v : Instrument) (e : Bool) (h : π v = π (s.instr i)) :
    s.sameRecords π (s.change i v e) := (State.sameRecords.setInstr s i v h).trans (.of_instruments rfl)

theorem State.sameRecords.foldl {β : Type} (f : State → β → State) (hf : ∀ s a, State.sameRecords π s (f s a))
    (l : List β) (s : State) : s.sameRecords π (l.foldl f s) := by
  induction l generalizing s with
  | nil => exact .refl s
  | cons a l ih => exact (hf s a).trans (ih (f s a))

section Tape

variable (hπ : ∀ (v : Instrument) (r : Nat) (w : Option Nat), π (v.setDigitRef r w) = π v)
include hπ

theorem State.entryStart_records (r : Nat) (e : TapeEntry) (rest : List TapeEntry) (s : State) :
    s.sameRecords π (s.entryStart r e rest) := by
  have key : ∀ mode, s.sameRecords π { s with quote := s.entryQuote r mode e } := fun mode => by
    unfold State.entryQuote
    split
    · exact .refl s
    · dsimp only
      split
      · exact .refl s
      · exact State.sameRecords.setInstr s _ _ (hπ _ _ _)
  exact (key _).trans (.of_instruments rfl)

theorem State.freed_records (r : Nat) (s : State) : s.sameRecords π (s.freed r) := by
  unfold State.freed
  dsimp only
  split
  · exact .of_instruments rfl
  · exact State.entryStart_records hπ _ _ _ _
  · exact .of_instruments rfl

theorem State.appendEntry_records (r : Nat) (e : TapeEntry) (s : State) : s.sameRecords π (s.appendEntry r e) := by
  unfold State.appendEntry
  dsimp only
  split
  · split
    · refine State.sameRecords.trans ?_ (State.freed_records hπ r _)
      exact .of_instruments rfl
    · exact .of_instruments rfl
  all_goals exact .of_instruments rfl

theorem State.appendNotice_records (rs : List Nat) (text : Text) (i : Option Nat) (s : State) :
    s.sameRecords π (s.appendNotice rs text i) :=
  .foldl _ (fun s r => State.appendEntry_records hπ r _ s) rs s

theorem State.appendPrint_records (rs : List Nat) (i n : Nat) (s : State) :
    s.sameRecords π (s.appendPrint rs i n) :=
  .foldl _ (fun s r => State.appendEntry_records hπ r _ s) rs s

theorem State.tapeStep_records (rs : List Nat) (i n : Nat) (b : Bool) (text : Text) (s : State) :
    s.sameRecords π (s.tapeStep rs i n b text) :=
  .foldl (fun (s : State) r => if s.isQueued r i n then (if b then s.withdraw r i n else s)
      else s.appendEntry r (.notice text s.now (some i))) (fun s r => by
    split
    · split
      · exact .of_instruments rfl
      · exact .refl s
    · exact State.appendEntry_records hπ r _ s) rs s

theorem State.changeSession_records (x : Session) (text : Text) (s : State) :
    s.sameRecords π (s.changeSession x text) := by
  unfold State.changeSession
  refine State.sameRecords.trans ?_ (State.appendNotice_records hπ _ _ _ _)
  exact .of_instruments rfl

end Tape

section Pages

variable (hπ : ∀ (v : Instrument) (l : List Nat), π { v with viewers := l } = π v)
include hπ

theorem State.changeViewers_records (f : List Nat → List Nat) (is : List Nat) (s : State) :
    s.sameRecords π (s.changeViewers f is) :=
  .foldl (fun (s : State) i => s.setInstr i { s.instr i with viewers := f (s.instr i).viewers })
    (fun s i => State.sameRecords.setInstr s i _ (hπ _ _)) is s

theorem State.closePage_records (n : Nat) (s : State) : s.sameRecords π (s.closePage n) := by
  unfold State.closePage
  split
  · exact .refl s
  · exact (State.changeViewers_records hπ _ _ s).trans (.of_instruments rfl)

theorem State.openPage_records (n : Nat) (x : Selector) (d : Descriptor) (s : State) :
    s.sameRecords π (s.openPage n x d) := by
  unfold State.openPage
  dsimp only
  have h : s.sameRecords π ((s.closePage n).changeViewers (setInsert n) (namedIndices (s.pageLines d))) :=
    (State.closePage_records hπ n s).trans (State.changeViewers_records hπ _ _ _)
  split
  · exact h.trans (.of_instruments rfl)
  · exact h.trans (.of_instruments rfl)

theorem State.closeTerminals_records (s : State) : s.sameRecords π s.closeTerminals := by
  refine ⟨fun w i => ?_, fun w =>
    Table.wf_mapValues Instrument.vacant (fun v => { v with viewers := [] }) w⟩
  show π (Table.get Instrument.vacant (Table.mapValues Instrument.vacant (fun v => { v with viewers := [] })
    s.quote.instruments) i) = _
  rw [Table.get_mapValues _ _ rfl w]
  exact hπ _ _

end Pages

end Sys2Proof.Machine
end

