-- ==== Sys2Proof/WellFormed.lean ====
section
/-! DEFINITION. Which commands are well formed: what the rows of spec/opcode_table.json say of their own
operands. `Sys2Proof.Machine.exec` gives every command a next state, the ill-formed ones among them: the bus
does with their word what it does with any word (notes/assumptions/1.md). -/

namespace Sys2Proof

/-- REGISTER_WRITE is a write to a port location that has no row of its own: not ERROR STATUS, ERROR MASK
or ERROR SEVERITY, and CONTROL only with bit 0 clear (R161). -/
def registerWriteWellFormed (loc : Fin 8) (w : Word) : Bool :=
  loc != 3 && loc != 4 && loc != 5 && !(loc == 6 && w.getLsbD 0)

/-- PORT_RESET is a write to CONTROL with bit 0 set (R169). -/
def portResetWellFormed (w : Word) : Bool := w.getLsbD 0

/-- REPLY_READ is a read of REPLY, location 1 (R163). -/
def replyReadWellFormed (loc : Fin 8) : Bool := loc == 1

/-- The commands that fit their row. -/
def Instr.wellFormed : Instr → Bool
  | .registerWrite _ loc w _ => registerWriteWellFormed loc w
  | .portReset _ w => portResetWellFormed w
  | .replyRead _ loc => replyReadWellFormed loc
  | .tradeReport _ _ _ | .quoteReport _ _ _ | .sequenceReset _ _ _ | .readInstrument _ _ _ => true
  | .findSymbol _ _ _ | .defineInstrument _ _ _ | .modifyInstrument _ _ _ => true
  | .removeInstrument _ _ _ | .openSession _ _ _ | .closeSession _ _ _ | .rollSession _ _ _ => true
  | .rollRecord | .halt _ _ _ | .resume _ _ _ | .setFastMarket _ _ _ | .clearFastMarket _ _ _ => true
  | .cancelPrint _ _ _ | .correctPrint _ _ _ | .tapeText _ _ _ | .definePanel _ _ _ => true
  | .removePanel _ _ _ | .panelDark _ _ _ | .panelLight _ _ _ | .defineCell _ _ _ => true
  | .removeCell _ _ _ | .moduleRestart _ _ _ | .lampTestStart _ _ _ | .lampTestStop _ _ _ => true
  | .readLink _ _ _ | .ribbonRestart _ _ _ | .ribbonRate _ _ _ | .readRibbon _ _ _ => true
  | .writeDescriptor _ _ _ | .writeLine _ _ _ | .setLocalTable _ _ _ | .openPage _ _ _ => true
  | .closePage _ _ _ | .writePageLine _ _ _ | .readChangedLine _ _ _ | .readLine _ _ _ => true
  | .setNoticeMask _ _ _ | .takeNotice _ _ _ | .configure _ _ _ | .goLive _ _ _ => true
  | .goConfig _ _ _ | .setTime _ _ _ | .errorStatusWrite _ _ | .errorMaskWrite _ _ => true
  | .errorSeverityWrite _ _ | .requestComplete _ | .boardHandoff | .minuteChange => true
  | .sessionChange | .tapeStateChange | .highlightExpiry | .frameSent _ => true
  | .moduleAcknowledgement _ _ _ | .moduleAckTimeout _ | .keepAliveDue _ _ | .probeDue _ _ => true
  | .settleExpiry _ | .departedCopyHandoff | .blockFrameSent _ => true
  | .ribbonAcknowledgement _ _ _ | .pacingCountEnd _ | .ribbonAckTimeout _ | .readyRise _ => true
  | .readyFall _ | .lateNoticeExpiry _ | .pageHandoff | .noticeRaise | .tick => true
  | .dayClockAdvance | .deviceReset | .resetRelease | .unlistedRequestCode _ _ => true

end Sys2Proof
end

