-- ==== Sys2Proof/Tests/Slice0.lean ====
section
/-! SUPPORT. Tests of the model, and a witness for the hypotheses of each statement of
Certificates/Slice0/Obligations.lean. Expected values come from the manual's examples and tables. -/

-- The many kernel evaluations below run one after another, each in bounded memory.
set_option Elab.async false

namespace Sys2Proof.Tests

open Sys2Proof.Machine

/-! ### Well-formedness: each check refuses an ill-formed command -/

theorem test_wellFormed_refuses_register_write_at_error_status :
    Instr.wellFormed (.registerWrite .feed 3 0 .now) = false := by decide
theorem test_wellFormed_refuses_register_write_at_error_mask :
    Instr.wellFormed (.registerWrite .feed 4 0 .now) = false := by decide
theorem test_wellFormed_refuses_register_write_at_error_severity :
    Instr.wellFormed (.registerWrite .feed 5 0 .now) = false := by decide
theorem test_wellFormed_refuses_register_write_at_control_with_bit_0 :
    Instr.wellFormed (.registerWrite .feed 6 1 .now) = false := by decide
theorem test_wellFormed_takes_register_write_at_request :
    Instr.wellFormed (.registerWrite .feed 0 0x0107 .now) = true := by decide
theorem test_wellFormed_refuses_port_reset_with_bit_0_clear :
    Instr.wellFormed (.portReset .feed 0xFFFE) = false := by decide
theorem test_wellFormed_refuses_reply_read_at_status :
    Instr.wellFormed (.replyRead .feed 2) = false := by decide
theorem test_decode_reads_no_word : decodeTableWord 16 0x0107 = none := by decide

/-! ### Small states -/

def num (n : Nat) : Word := BitVec.ofNat 16 n

/-- Word 0 of a request with `n` operands (R162). -/
def head (r : Request) (n : Nat) : Word := num (256 * r.code + n)

/-- Port `p` has collected every word of a request but the last. -/
def asked (p : PortId) (r : Request) (ops : List Nat) (s : State) : State :=
  match ops with
  | [] => s
  | _ :: _ => s.setPortState p (.collecting (head r ops.length) (ops.dropLast.map num) 1)

/-- The word that completes the request. -/
def final (r : Request) (ops : List Nat) : Word :=
  match ops.getLast? with
  | none => head r 0
  | some n => num n

def passes (s : State) (p : PortId) (w : Word) (r : Request) (ops : List Word) : Bool :=
  !s.inReset &&
    match (s.port p).framed w with
    | .complete h ops' =>
      decide (ops' = ops) &&
        (match s.portCheck p h with
         | .ok r' => decide (r' = r)
         | .error _ => false)
    | .collecting _ _ _ => false
    | .overrun => false

theorem receives_of_passes {s : State} {p : PortId} {w : Word} {r : Request} {ops : List Word}
    (h : passes s p w r ops = true) : s.receives p w r ops := by
  unfold passes at h
  rw [Bool.and_eq_true] at h
  obtain ⟨h0, h1⟩ := h
  refine ⟨by simpa using h0, ?_⟩
  split at h1
  · rename_i hd ops' hf
    rw [Bool.and_eq_true, decide_eq_true_eq] at h1
    obtain ⟨h1, h2⟩ := h1
    refine ⟨hd, by rw [hf, h1], ?_⟩
    split at h2
    · rename_i r' hr
      rw [hr, of_decide_eq_true h2]
    · cases h2
  · cases h1
  · cases h1

/-- The request `r` with the operands `ops` reaches its engine from `s`, and `h` holds there. -/
def Meets (p : PortId) (r : Request) (ops : List Nat) (s : State) (h : State → List Word → Prop) : Prop :=
  (asked p r ops s).receives p (final r ops) r (ops.map num) ∧ h (asked p r ops s) (ops.map num)

/-- XYZ, ACTIVE on ribbon 0, with prints 1 (46) and 2 (47⅜) at tick UP. -/
def xyz : Instrument :=
  let v : Instrument :=
    { Instrument.vacant with
      symbol := some [0x58, 0x59, 0x5A], trading := .active, ribbonSet := .zero, prevClose := some 11520 }
  let v := acceptPrint (formPrint 11776 1200 false v) v
  acceptPrint (formPrint 12128 300 false v) v

/-- ABC.A, HALTED with reason 15, carried by no ribbon. -/
def abc : Instrument :=
  { Instrument.vacant with
    symbol := some [0x41, 0x42, 0x43], cls := some 0x41, trading := .halted 15, bid := some 5120, ask := some 5152 }

/-- DEF with eight prints, numbered 65531 to 65535 and 1 to 3, after ten trades. -/
def eight : Instrument :=
  (List.range 10).foldl (fun v n => acceptPrint (formPrint (256 * (20 + n)) 100 (n == 9) v) v)
    { Instrument.vacant with
      symbol := some [0x44, 0x45, 0x46], trading := .active, ribbonSet := .both, nextNumber := 65529 }

def upModule : Module := { Module.reset with state := .up, lastSent := some 0 }

/-- The part LIVE with the session OPEN: instruments 77, 312 and 400, a lit panel on link 0 and a dark one on
link 1, ribbon 0 PACING and ribbon 1 IDLE, a page open at terminal 5. -/
def floor : State :=
  { State.reset with
    mode := .live
    quote :=
      { instruments :=
          [(77, abc), (312, { xyz with bindHead := some 1, viewers := [5] }), (400, eight)]
        directory :=
          [⟨[0x41, 0x42, 0x43], some 0x41, 77⟩, ⟨[0x44, 0x45, 0x46], none, 400⟩, ⟨[0x58, 0x59, 0x5A], none, 312⟩]
        session := .opened, expectation := some 100, rolling := [] }
    display :=
      { panels := [(0, ⟨true, 0, 0, 16, false⟩), (1, ⟨true, 1, 16, 16, true⟩)]
        cells :=
          [(1, ⟨true, 2, 1, 1, 8, .instrument .last 312, .right, true, some 16, false, none⟩),
           (2, ⟨true, 2, 2, 1, 5, .clock, .right, false, none, true, none⟩),
           (16, ⟨true, 4, 1, 1, 8, .instrument .bid 312, .right, false, none, false, none⟩)]
        deviceHead := some 2, repaint := [(0, [2])], highlights := []
        links :=
          [(0, { Link.reset with enabled := true, state := .running, modules := [(2, upModule)] }),
           (1, { Link.reset with enabled := true, state := .settling (some 500), modules := [(4, upModule)] })] }
    tape :=
      { ribbon0 :=
          { Ribbon.reset with
            enabled := true, state := .pacing, pacing := 3, queue := [.print 312 2 0 none, .notice [0x41] 0 none] }
        ribbon1 := { Ribbon.reset with enabled := true, state := .idle }
        ready0 := true, ready1 := true }
    pages :=
      { descriptors := [(3, ⟨.localTable, true, 2, 200, 4⟩), (7, ⟨.page, true, 1, 1200, 2⟩), (202, ⟨.page, true, 2, 1200, 3⟩)]
        lines := [(1200, some ⟨312, .full⟩), (1201, some ⟨77, .quote⟩)]
        contexts :=
          [(5, ⟨some ⟨200, 4, 2⟩, some ⟨⟨true, 2⟩, [some ⟨312, .full⟩, none, none], [0]⟩⟩)] }
    notices := { masks := [(9, true)], globalMask := false, waiting := [9], queue := [5] } }

/-- `floor` with another state of a port. -/
def atPort (p : PortId) (x : PortState) (s : State) : State := s.setPortState p x

/-- A tape queue of `n` entries. -/
def entries (n : Nat) : List TapeEntry := List.replicate n (.notice [0x41] 0 none)

/-- `floor` with a tape queue of `n` entries on ribbon 0. -/
def crowded (n : Nat) : State := floor.setRibbon 0 { floor.ribbon 0 with queue := entries n }

/-- `floor` in CONFIG, everything OFF. -/
def config : State := { State.reset with quote := { floor.quote with session := .closed } }

theorem meets {p : PortId} {r : Request} {ops : List Nat} {s : State} {h : State → List Word → Prop}
    (h1 : passes (asked p r ops s) p (final r ops) r (ops.map num) = true)
    (h2 : h (asked p r ops s) (ops.map num)) : Meets p r ops s h :=
  ⟨receives_of_passes h1, h2⟩

theorem not_reply {x : PortState} (h : x = .idle) (ws : List Word) : x ≠ .reply ws := by
  rw [h]
  nofun

theorem not_working {x : PortState} (h : x = .idle) (stage : Stage) (d : Bool) : x ≠ .working stage d := by
  rw [h]
  nofun

/-! ### Witnesses: the step and the master ports -/

theorem test_witness_StepTakesTheFrontCommand :
    ({ floor with pending := [.tick, .noticeRaise] } : State).pending = .tick :: [.noticeRaise] ∧
      State.reset.pending = [] := by decide +kernel

theorem test_witness_RegisterWriteByLocation :
    (0xFFFE : Word).getLsbD 0 = false ∧ ({ floor with inReset := true } : State).inReset = true ∧
    (floor.inReset = false ∧ (floor.port .feed).state = .idle ∧ loByte 0x0101 ≠ 0) ∧
    ((atPort .feed (.reply [0]) floor).port .feed).state = .reply [0] ∧
    (((atPort .feed (.collecting 0x0107 [1] 2) floor).port .feed).state = .collecting 0x0107 [1] 2 ∧ 2 ≤ 2) ∧
    ((atPort .feed (.working (.taken [0]) false) floor).port .feed).state = .working (.taken [0]) false := by
  decide +kernel

theorem test_witness_RequestsReachTheirEngines :
    (floor.inReset = false ∧ (floor.port .terminal).state = .idle ∧ (floor.port .terminal).held = false ∧
      requestOf (head .takeNotice 0) = some .takeNotice ∧ Request.takeNotice.permits .terminal = true ∧
      loByte (head .takeNotice 0) = 0) ∧
    (requestOf (head .tapeText 11) = some .tapeText ∧ Request.tapeText.permits .supervisor = true ∧
      (List.replicate 10 (0 : Word)).length < 11 ∧
      (loByte (head .tapeText 11)).toNat = (List.replicate 10 (0 : Word)).length + 1) ∧
    (asked .supervisor .halt [312, 7] floor).receives .supervisor (final .halt [312, 7]) .halt [312, 7] ∧
    ((atPort .supervisor (.working (.handed .halt [312, 7]) true) floor).port .supervisor).state =
      .working (.handed .halt [312, 7]) true :=
  ⟨by decide +kernel, by decide +kernel, receives_of_passes (by decide +kernel), by decide +kernel⟩

theorem test_witness_PortUnitRefusals :
    (let s := floor.setPort .feed { floor.port .feed with status := 2, severity := 2 };
      s.inReset = false ∧ (s.port .feed).framed 0x4900 = .complete 0x4900 [] ∧ (s.port .feed).held = true) ∧
    ((floor.port .feed).framed 0xFF00 = .complete 0xFF00 [] ∧ (floor.port .feed).held = false ∧
      requestOf 0xFF00 = none) ∧
    (let s := atPort .supervisor (.collecting 0x1E0C (List.replicate 11 0) 1) floor;
      (s.port .supervisor).framed 0 = .complete 0x1E0C (List.replicate 11 0) ∧
        (s.port .supervisor).held = false ∧ 11 < (loByte 0x1E0C).toNat) ∧
    ((floor.port .feed).framed 0x4900 = .complete 0x4900 [] ∧ requestOf 0x4900 = some .takeNotice ∧
      (loByte 0x4900).toNat ≤ 11 ∧ Request.takeNotice.permits .feed = false) := by decide +kernel

theorem test_witness_ReadCycles :
    floor.inReset = false ∧ ((atPort .feed (.reply [1, 2, 3]) floor).port .feed).state = .reply [1, 2, 3] ∧
    ((atPort .feed (.reply [3]) floor).port .feed).state = .reply [3] ∧
    (∀ ws, (floor.port .feed).state ≠ .reply ws) ∧
    ((atPort .feed (.reply (List.replicate 24 0)) floor).port .feed).state = .reply (List.replicate 24 0) ∧
    ({ floor with inReset := true } : State).inReset = true :=
  ⟨by decide +kernel, by decide +kernel, by decide +kernel, not_reply (by decide +kernel), by decide +kernel,
    by decide +kernel⟩

/-- The F-port with every condition recorded, RANK's position among none of them masked. -/
def recorded : State :=
  floor.setPort .feed { floor.port .feed with status := 0x7F, mask := 0x01, severity := 0x02 }

theorem test_witness_ErrorStatusWriteClears :
    recorded.inReset = false ∧ (recorded.port .feed).errorWordsNamed .feed ∧
    (∀ k < 16, (recorded.port .feed).status.getLsbD k = true → (recorded.port .feed).mask.getLsbD k = false →
      (0xFFFF : Word).getLsbD k = true) ∧
    (0xFFFF : Word).getLsbD Condition.sequenceGap.position = true := by
  unfold Port.errorWordsNamed
  decide +kernel

theorem test_witness_MaskAndSeverityWrites : recorded.inReset = false := by decide

theorem test_witness_CommandsRunAndLeaveTheQueue :
    Instr.tick ≠ .deviceReset ∧ Instr.tick ≠ .resetRelease := by decide

theorem test_witness_PortResets :
    floor.inReset = false ∧ (1 : Word).getLsbD 0 = true ∧
    ((atPort .feed (.working (.taken [0]) false) floor).port .feed).state = .working (.taken [0]) false ∧
    ((atPort .supervisor (.working (.taken [0]) false) floor).port .supervisor).state =
      .working (.taken [0]) false ∧
    (∀ stage discard, (floor.port .feed).state ≠ .working stage discard) ∧
    (∀ stage discard, (floor.port .supervisor).state ≠ .working stage discard) ∧
    Table.wf Instrument.vacant floor.quote.instruments = true :=
  ⟨by decide +kernel, by decide +kernel, by decide +kernel, by decide +kernel, not_working (by decide +kernel),
    not_working (by decide +kernel), by decide +kernel⟩

theorem test_witness_RequestCompletion :
    (let s := atPort .supervisor (.working (.taken [0]) false) floor;
      (s.port .supervisor).state = .working (.taken [0]) false ∧ s.quote.rolling = []) ∧
    (let s := atPort .feed (.working (.taken [0]) true) floor;
      (s.port .feed).state = .working (.taken [0]) true) ∧
    (let s := atPort .terminal (.working (.taken [0]) true) floor;
      (s.port .terminal).state = .working (.taken [0]) true) ∧
    (let s := (atPort .supervisor (.working (.taken [0]) false) floor).setRolling [77];
      (s.port .supervisor).state = .working (.taken [0]) false ∧ s.quote.rolling ≠ []) ∧
    ∀ stage d, (floor.port .feed).state ≠ .working stage d :=
  ⟨by decide +kernel, by decide +kernel, by decide +kernel, by decide +kernel, not_working (by decide +kernel)⟩

theorem test_witness_RefusalReplyCounts :
    (engineOf .supervisor .halt [77, 1] floor).answer = .inUse ∧
    (engineOf .feed .tradeReport [99, 312] floor).answer = .duplicate ∧
    (match floor.portCheck .feed 0x4900 with
     | .error a => decide (a = .notPermitted)
     | .ok _ => false) = true := by decide +kernel

theorem test_witness_RefusalsChangeNothing :
    (engineOf .supervisor .halt [77, 1] floor).answer ≠ .done ∧
    (engineOf .terminal .writePageLine [5, 0, 7, 0, 0, 0, 0] floor).answer ≠ .done ∧
    (engineOf .feed .quoteReport [100, 5, 0, 0, 0, 0, 0, 0] floor).answer ≠ .done := by decide +kernel

/-! ### Witnesses: instruments and the session -/

theorem test_witness_RecordsAreLookedUp :
    Meets .feed .readInstrument [312] floor (fun s ops => ops.length = 1 ∧ operand ops 0 < 2048 ∧
      ¬ (s.instr (operand ops 0)).isVacant ∧ (s.instr (operand ops 0)).symbol = some [0x58, 0x59, 0x5A]) ∧
    Meets .terminal .findSymbol [0x4142, 0x4300, 0x41] floor (fun s ops => ops.length = 3 ∧
      symbolOperand ops 0 = some ([0x41, 0x42, 0x43], some 0x41) ∧
      s.quote.directory.head? = some ⟨[0x41, 0x42, 0x43], some 0x41, 77⟩) ∧
    Meets .terminal .findSymbol [0x4142, 0x4300, 0] floor (fun s ops =>
      symbolOperand ops 0 = some ([0x41, 0x42, 0x43], none) ∧
      ∀ e ∈ s.quote.directory, ¬ (e.symbol = [0x41, 0x42, 0x43] ∧ e.cls = none)) ∧
    Meets .terminal .findSymbol [0x4142, 0x0043, 0] floor (fun _ ops => symbolOperand ops 0 = none) :=
  ⟨meets (by decide +kernel) (by decide +kernel), meets (by decide +kernel) (by decide +kernel),
    meets (by decide +kernel) (by decide +kernel), meets (by decide +kernel) (by decide +kernel)⟩

theorem test_witness_DefineInstrumentCreatesTheRecord :
    Meets .supervisor .defineInstrument [2047, 0x5858, 0, 0, 0, 3, 45, 0x8001, 0, 100] floor (fun s ops =>
      ops.length = 10 ∧ operand ops 0 < 2048 ∧ symbolOperand ops 1 = some ([0x58, 0x58], none) ∧
      Denominator.ofCode (operand ops 4) = some .eighths ∧ RibbonSet.ofCode (operand ops 5) = some .both ∧
      optionalPrice ops 6 = some (some 11552) ∧ thresholdOperand ops 8 = some (some 100) ∧
      (s.instr (operand ops 0)).trading = .vacant ∧
      (∀ e ∈ s.quote.directory, ¬ (e.symbol = [0x58, 0x58] ∧ e.cls = none)) ∧
      11552 % Denominator.eighths.grid = 0) :=
  meets (by decide +kernel) (by decide +kernel)

theorem test_witness_DefineInstrumentCreatesTheRecord_refusals :
    Meets .supervisor .defineInstrument [9] floor (fun _ ops => ops.length ≠ 10) ∧
    Meets .supervisor .defineInstrument [77, 0x5858, 0, 0, 0, 3, 0, 0, 0, 0] floor (fun s ops =>
      symbolOperand ops 1 = some ([0x58, 0x58], none) ∧ optionalPrice ops 6 = some none ∧
      thresholdOperand ops 8 = some none ∧ (s.instr (operand ops 0)).trading ≠ .vacant) ∧
    Meets .supervisor .defineInstrument [9, 0x5859, 0x5A00, 0, 0, 3, 0, 0, 0, 0] floor (fun s ops =>
      symbolOperand ops 1 = some ([0x58, 0x59, 0x5A], none) ∧ (s.instr (operand ops 0)).trading = .vacant ∧
      ∃ e ∈ s.quote.directory, e.symbol = [0x58, 0x59, 0x5A] ∧ e.cls = none) ∧
    Meets .supervisor .defineInstrument [9, 0x5858, 0, 0, 0, 3, 45, 0x8101, 0, 0] floor (fun s ops =>
      (s.instr (operand ops 0)).trading = .vacant ∧ Denominator.ofCode (operand ops 4) = some .eighths ∧
      optionalPrice ops 6 = some (some 11536) ∧ 11536 % Denominator.eighths.grid ≠ 0) ∧
    (floor.quote.directory.Pairwise (fun a b => a.before b = true) ∧
      ∀ f ∈ floor.quote.directory, ¬ (f.symbol = [0x58, 0x58] ∧ f.cls = none)) :=
  ⟨meets (by decide +kernel) (by decide +kernel), meets (by decide +kernel) (by decide +kernel),
    meets (by decide +kernel) (by decide +kernel), meets (by decide +kernel) (by decide +kernel),
    by decide +kernel⟩

theorem test_witness_InstrumentsAreModifiedAndRemoved :
    Meets .supervisor .modifyInstrument [77, 7, 1, 0, 0, 1, 20, 0x8001] { floor with
        quote := { floor.quote with session := .closed } } (fun s ops =>
      ops.length = 8 ∧ operand ops 0 < 2048 ∧ ¬ (s.instr (operand ops 0)).isVacant ∧
      itemPresent ops 0 = true ∧ RibbonSet.ofCode (operand ops 2) = some .zero ∧
      itemPresent ops 1 = true ∧ thresholdOperand ops 3 = some none ∧
      itemPresent ops 2 = true ∧ Denominator.ofCode (operand ops 5) = some .sixteenths ∧
      optionalPrice ops 6 = some (some 5152) ∧ s.quote.session = .closed ∧ s.onTape (operand ops 0) = false ∧
      5152 % Denominator.sixteenths.grid = 0) ∧
    Meets .supervisor .modifyInstrument [77, 4, 0, 0, 0, 0, 0, 0] floor (fun s ops =>
      itemPresent ops 2 = true ∧ Denominator.ofCode (operand ops 5) = some .eighths ∧
      optionalPrice ops 6 = some none ∧
      ∀ c ∈ storedPrices (s.instr (operand ops 0)), c % Denominator.eighths.grid = 0) ∧
    Meets .supervisor .removeInstrument [77] floor (fun s ops =>
      let v := s.instr (operand ops 0)
      ops.length = 1 ∧ operand ops 0 < 2048 ∧ ¬ v.isVacant ∧ v.bindHead = none ∧ v.viewers = [] ∧
      s.onTape (operand ops 0) = false) :=
  ⟨meets (by decide +kernel) (by decide +kernel), meets (by decide +kernel) (by decide +kernel),
    meets (by decide +kernel) (by decide +kernel)⟩

/-- `floor` with the session CLOSED. -/
def closed : State := { floor with quote := { floor.quote with session := .closed } }

theorem test_witness_InstrumentsAreModifiedAndRemoved_refusals :
    Meets .supervisor .modifyInstrument [77] floor (fun _ ops => ops.length ≠ 8) ∧
    Meets .supervisor .modifyInstrument [2047, 1, 1, 0, 0, 0, 0, 0] floor (fun s ops =>
      RibbonSet.ofCode (operand ops 2) = some .zero ∧ itemPresent ops 0 = true ∧ itemPresent ops 1 = false ∧
      itemPresent ops 2 = false ∧ optionalPrice ops 6 = some none ∧
      (s.instr (operand ops 0)).trading = .vacant) ∧
    Meets .supervisor .modifyInstrument [77, 0, 0, 0, 0, 0, 20, 0x8000] floor (fun s ops =>
      itemPresent ops 0 = false ∧ optionalPrice ops 6 = some (some 5120) ∧
      (s.instr (operand ops 0)).trading ≠ .vacant ∧ s.quote.session ≠ .closed) ∧
    Meets .supervisor .modifyInstrument [312, 1, 1, 0, 0, 0, 0, 0] floor (fun s ops =>
      optionalPrice ops 6 = some none ∧ s.onTape (operand ops 0) = true) ∧
    Meets .supervisor .modifyInstrument [77, 0, 0, 0, 0, 0, 20, 0x8101] closed (fun s ops =>
      optionalPrice ops 6 = some (some 5136) ∧ s.quote.session = .closed ∧
      5136 % (s.instr (operand ops 0)).denominator.grid ≠ 0) ∧
    Meets .supervisor .removeInstrument [77, 0] floor (fun _ ops => ops.length ≠ 1) ∧
    Meets .supervisor .removeInstrument [2047] floor (fun s ops =>
      (s.instr (operand ops 0)).trading = .vacant) ∧
    Meets .supervisor .removeInstrument [312] floor (fun s ops =>
      (s.instr (operand ops 0)).trading ≠ .vacant ∧ (s.instr (operand ops 0)).bindHead ≠ none) :=
  ⟨meets (by decide +kernel) (by decide +kernel), meets (by decide +kernel) (by decide +kernel),
    meets (by decide +kernel) (by decide +kernel), meets (by decide +kernel) (by decide +kernel),
    meets (by decide +kernel) (by decide +kernel), meets (by decide +kernel) (by decide +kernel),
    meets (by decide +kernel) (by decide +kernel), meets (by decide +kernel) (by decide +kernel)⟩

theorem test_witness_SessionOpensAndCloses :
    Meets .supervisor .openSession [] config (fun s _ => s.mode = .config) ∧
    Meets .supervisor .openSession [] floor (fun s _ => s.mode = .live ∧ s.quote.session = .opened) ∧
    Meets .supervisor .openSession [] (closed.setRibbon 1 { closed.ribbon 1 with state := .pacing, queue := entries 256 })
      (fun s _ => s.mode = .live ∧ s.quote.session = .closed ∧
        ∃ r ∈ s.ribbonsInService, 256 ≤ (s.ribbon r).queue.length) ∧
    Meets .supervisor .openSession [] (closed.setRibbon 0 { closed.ribbon 0 with queue := entries 255 })
      (fun s _ => s.mode = .live ∧ s.quote.session = .closed ∧
        ¬ ∃ r ∈ s.ribbonsInService, 256 ≤ (s.ribbon r).queue.length) ∧
    Meets .supervisor .closeSession [] closed (fun s _ => s.quote.session = .closed) ∧
    Meets .supervisor .closeSession [] (crowded 256) (fun s _ => s.quote.session = .opened ∧
      ∃ r ∈ s.ribbonsInService, 256 ≤ (s.ribbon r).queue.length) ∧
    Meets .supervisor .closeSession [] (crowded 255) (fun s _ => s.quote.session = .opened ∧
      ¬ ∃ r ∈ s.ribbonsInService, 256 ≤ (s.ribbon r).queue.length) :=
  ⟨meets (by decide +kernel) (by decide +kernel), meets (by decide +kernel) (by decide +kernel),
    meets (by decide +kernel) (by decide +kernel), meets (by decide +kernel) (by decide +kernel),
    meets (by decide +kernel) (by decide +kernel), meets (by decide +kernel) (by decide +kernel),
    meets (by decide +kernel) (by decide +kernel)⟩

theorem test_witness_RollSessionRollsEveryRecord :
    Meets .supervisor .rollSession [] floor (fun s _ => s.quote.session = .opened) ∧
    Meets .supervisor .rollSession [] closed (fun s _ => s.tape.ribbon0.queue ≠ []) ∧
    Meets .supervisor .rollSession [] (closed.setRibbon 0 Ribbon.reset) (fun s _ =>
      s.quote.session = .closed ∧ s.tape.ribbon0.queue = [] ∧ s.tape.ribbon1.queue = [] ∧
      Table.wf Instrument.vacant s.quote.instruments = true) ∧
    ((closed.setRolling [312, 400]).quote.rolling = 312 :: [400] ∧
      ((closed.setRolling [312, 400]).instr 312).trading ≠ .vacant) ∧
    closed.quote.rolling = [] :=
  ⟨meets (by decide +kernel) (by decide +kernel), meets (by decide +kernel) (by decide +kernel),
    meets (by decide +kernel) (by decide +kernel), by decide +kernel, by decide +kernel⟩

theorem test_witness_ChangedFieldSet :
    xyz.isVacant = false ∧ abc.isVacant = false ∧ eight.bid = none ∧ xyz.bid = none ∧
    Instrument.vacant.isVacant = true ∧ ([] : List Field) = [] ∧ [Field.last] ≠ [] := by decide +kernel

/-! ### Witnesses: price arithmetic and the reports -/

theorem test_witness_TickFunctionTable :
    (1 : Nat) < 2 ∧ (Tick.up = .up ∨ Tick.up = .zeroUp) ∧ (Tick.zeroDown = .down ∨ Tick.zeroDown = .zeroDown) ∧
      Tick.flat = .flat := by decide

theorem test_witness_PriceAndRecordArithmetic :
    (let ops := [9999, 0x833F].map num;
      operand ops 1 / 256 % 16 = 3 ∧ Denominator.ofCode 3 = some .sixtyFourths ∧ operand ops 0 ≤ 9999 ∧
      operand ops 1 % 256 < Denominator.sixtyFourths.value ∧ priceOperand ops 0 = some 2559996 ∧
      32768 ≤ operand ops 1) ∧
    9999 < operand ([10000, 0x8000].map num) 0 ∧ 4 ≤ operand ([0, 0x8400].map num) 1 / 256 % 16 ∧
    (Denominator.ofCode (operand ([0, 0x8040].map num) 1 / 256 % 16) = some .eighths ∧
      Denominator.eighths.value ≤ operand ([0, 0x8008].map num) 1 % 256) ∧
    operand ([0, 0x7FFF].map num) 1 < 32768 ∧
    greatest [3, 5] = some 5 ∧ least [3, 5] = some 3 ∧
    999999999 + 0 - 0 ≤ 999999999 ∧ 999999999 < 999999999 + 1 - 0 ∧ 65534 < 65535 := by decide +kernel

/-- XYZ with another previous close. -/
def closedAt (price : Nat) : Instrument := { xyz with prevClose := some price }

theorem test_witness_PriceAndRecordArithmetic_newest :
    (xyz.prints = [⟨1, .regular .up, 11776, 1200, true⟩] ++ ⟨2, .regular .up, 12128, 300, true⟩ :: []) ∧
    (eight.prints.getLast?.map (·.kind) = some .late ∧
      (eight.prints.dropLast.getLast?.map fun q => q.valid && q.isRegular) = some true) ∧
    (let v : Instrument := { Instrument.vacant with
        prints := [⟨1, .late, 256, 100, true⟩, ⟨2, .regular .up, 256, 100, false⟩] };
      (∀ x ∈ v.prints, x.valid = false ∨ x.kind = .late) ∧ v.anchorLast = none ∧
      ({ v with anchorLast := some ⟨256, 100, .down⟩ } : Instrument).anchorLast = some ⟨256, 100, .down⟩) := by
  decide +kernel

theorem test_witness_RenderedTextsFillTheirFields :
    (9 < 10 ∧ 10 ≤ 10) ∧
    (([0x41, 0x42] : Text).length ≤ 2 ∧ 1 < ([0x41, 0x42] : Text).length) ∧
    (2560 % 256 = 0 ∧ 3104 % 256 ≠ 0 ∧ 1 ≤ 7 ∧ 3296 % 256 = 32 * 7) ∧
    (3120 % 32 ≠ 0 ∧ Nat.gcd 3 16 = 1 ∧ 3120 % 256 * 16 = 256 * 3) ∧
    (xyz.last.map (·.price) = some 12128 ∧ xyz.prevClose = some 11520 ∧ 11520 < 12128 ∧ abc.last = none ∧
      (closedAt 12128).prevClose = some 12128 ∧ (closedAt 12160).prevClose = some 12160 ∧ 12128 < 12160) ∧
    ((floor.display.cell 1).field = .instrument .last 312 ∧ (floor.instr 312).trading ≠ .vacant ∧
      (floor.instr 2047).trading = .vacant ∧ (floor.instr 77).trading ≠ .vacant) ∧
    ((floor.display.cell 2).field = .clock ∧ 23 < 24 ∧ 59 < 60 ∧
      ({ floor with timebase := ⟨0, 0, 86399⟩ } : State).timebase.dayClock / 60 = 60 * 23 + 59) ∧
    (floor.quote.session = .opened ∧ closed.quote.session = .closed) ∧
    ((floor.ribbon 0).lateMode = .normal ∧
      ((floor.setRibbon 0 { floor.ribbon 0 with lateMode := .digitsDeleted }).ribbon 0).lateMode ≠ .normal) := by
  decide +kernel

theorem test_witness_SequenceClassification :
    (1 ≤ 65534 ∧ 65534 ≤ 65535 ∧ 3 < 65535 ∧ successor^[3] 65534 = 2 ∧ 3 ≤ 32767) ∧
    Meets .feed .tradeReport [] floor (fun s ops => s.mode = .live ∧ operand ops 0 = 0) ∧
    Meets .feed .quoteReport [99] floor (fun s ops => s.mode = .live ∧ operand ops 0 ≠ 0 ∧
      s.quote.expectation = some 100 ∧ classify (some 100) (operand ops 0) = .duplicate) :=
  ⟨⟨by decide, by decide, by decide, rfl, by decide⟩, meets (by decide +kernel) (by decide +kernel),
    meets (by decide +kernel) (by decide +kernel)⟩

theorem test_witness_SequenceReset :
    Meets .feed .tradeReport [1] config (fun s _ => s.mode = .config) ∧
    Meets .feed .quoteReport [1] config (fun s _ => s.mode = .config) ∧
    Meets .feed .sequenceReset [1] config (fun s _ => s.mode = .config) ∧
    Meets .feed .sequenceReset [0] floor (fun s ops => s.mode = .live ∧ ops = [0]) ∧
    Meets .feed .sequenceReset [] floor (fun s ops => s.mode = .live ∧ ops.length ≠ 1) :=
  ⟨meets (by decide +kernel) (by decide +kernel), meets (by decide +kernel) (by decide +kernel),
    meets (by decide +kernel) (by decide +kernel), meets (by decide +kernel) (by decide +kernel),
    meets (by decide +kernel) (by decide +kernel)⟩

/-- The operands of a trade of 300 shares of an instrument at a whole price. -/
def trade (sequence index price : Nat) : List Nat := [sequence, index, price, 0x8000, 0, 300, 0]

theorem test_witness_TradeReportApplies :
    Meets .feed .tradeReport (trade 101 312 48) floor (fun s ops =>
      let v := s.instr (operand ops 1)
      ops.length = 7 ∧ s.mode = .live ∧ operand ops 0 ≠ 0 ∧
      classify s.quote.expectation (operand ops 0) = .gap ∧ operand ops 1 < 2048 ∧
      priceOperand ops 2 = some 12288 ∧ 1 ≤ operandPair ops 4 ∧ operandPair ops 4 ≤ 9999999 ∧
      flagOperand ops 6 = some false ∧ v.trading = .active ∧ s.quote.session = .opened ∧
      12288 % v.denominator.grid = 0 ∧ (∀ r ∈ s.carrying v, (s.ribbon r).queue.length < 248) ∧
      v.prints.length < 8) ∧
    Meets .feed .tradeReport (trade 100 400 48) (floor.setRibbon 0 { floor.ribbon 0 with queue := entries 247 })
      (fun s ops =>
        let v := s.instr (operand ops 1)
        classify s.quote.expectation (operand ops 0) = .expected ∧ v.trading = .active ∧
        12288 % v.denominator.grid = 0 ∧ (∀ r ∈ s.carrying v, (s.ribbon r).queue.length < 248) ∧
        v.prints.length = 8 ∧ v.prints.head?.map (·.valid) = some true) :=
  ⟨meets (by decide +kernel) (by decide +kernel), meets (by decide +kernel) (by decide +kernel)⟩

theorem test_witness_TradeReportRefusals :
    Meets .feed .tradeReport [101, 312] floor (fun s ops => s.mode = .live ∧ operand ops 0 ≠ 0 ∧
      classify s.quote.expectation (operand ops 0) ≠ .duplicate ∧ ops.length ≠ 7) ∧
    Meets .feed .tradeReport (trade 100 2047 48) floor (fun s ops => operand ops 1 < 2048 ∧
      salePrice ops 2 = some 12288 ∧ 1 ≤ operandPair ops 4 ∧ operandPair ops 4 ≤ 9999999 ∧ operand ops 6 ≤ 1 ∧
      (s.instr (operand ops 1)).trading = .vacant) ∧
    Meets .feed .tradeReport (trade 100 312 48) closed (fun s ops =>
      (s.instr (operand ops 1)).trading ≠ .vacant ∧ s.quote.session = .closed ∧ salePrice ops 2 = some 12288) ∧
    Meets .feed .tradeReport (trade 100 77 48) floor (fun s ops =>
      (s.instr (operand ops 1)).trading = .halted 15 ∧ s.quote.session = .opened ∧
      salePrice ops 2 = some 12288) ∧
    Meets .feed .tradeReport [100, 312, 48, 0x8101, 0, 300, 0] floor (fun s ops =>
      (s.instr (operand ops 1)).trading = .active ∧ salePrice ops 2 = some 12304 ∧
      12304 % (s.instr (operand ops 1)).denominator.grid ≠ 0) ∧
    Meets .feed .tradeReport (trade 100 312 48) (crowded 248) (fun s ops =>
      let v := s.instr (operand ops 1)
      v.trading = .active ∧ 12288 % v.denominator.grid = 0 ∧
      ∃ r ∈ s.carrying v, 248 ≤ (s.ribbon r).queue.length) :=
  ⟨meets (by decide +kernel) (by decide +kernel), meets (by decide +kernel) (by decide +kernel),
    meets (by decide +kernel) (by decide +kernel), meets (by decide +kernel) (by decide +kernel),
    meets (by decide +kernel) (by decide +kernel), meets (by decide +kernel) (by decide +kernel)⟩

theorem test_witness_QuoteReportApplies :
    Meets .feed .quoteReport [100, 77, 20, 0x8002, 0, 0, 9999, 0] floor (fun s ops =>
      let v := s.instr (operand ops 1)
      ops.length = 8 ∧ s.mode = .live ∧ operand ops 0 ≠ 0 ∧
      classify s.quote.expectation (operand ops 0) ≠ .duplicate ∧ operand ops 1 < 2048 ∧
      optionalPrice ops 2 = some (some 5184) ∧ optionalPrice ops 4 = some none ∧
      operand ops 6 ≤ 9999 ∧ operand ops 7 ≤ 9999 ∧ v.trading ≠ .vacant ∧ s.quote.session = .opened ∧
      5184 % v.denominator.grid = 0) :=
  meets (by decide +kernel) (by decide +kernel)

theorem test_witness_QuoteReportApplies_refusals :
    Meets .feed .quoteReport [100, 77] floor (fun s ops => s.mode = .live ∧ operand ops 0 ≠ 0 ∧
      classify s.quote.expectation (operand ops 0) = .expected ∧ ops.length ≠ 8) ∧
    Meets .feed .quoteReport [102, 2047, 0, 0, 0, 0, 0, 0] floor (fun s ops =>
      classify s.quote.expectation (operand ops 0) = .gap ∧ ops.length = 8 ∧ operand ops 1 < 2048 ∧
      optionalPrice ops 2 = some none ∧ optionalPrice ops 4 = some none ∧
      (s.instr (operand ops 1)).trading = .vacant) ∧
    Meets .feed .quoteReport [100, 77, 0, 0, 0, 0, 0, 0] closed (fun s ops =>
      (s.instr (operand ops 1)).trading ≠ .vacant ∧ s.quote.session = .closed) ∧
    Meets .feed .quoteReport [100, 77, 0, 0, 20, 0x8101, 0, 0] floor (fun s ops =>
      s.quote.session = .opened ∧ optionalPrice ops 4 = some (some 5136) ∧
      5136 % (s.instr (operand ops 1)).denominator.grid ≠ 0) :=
  ⟨meets (by decide +kernel) (by decide +kernel), meets (by decide +kernel) (by decide +kernel),
    meets (by decide +kernel) (by decide +kernel), meets (by decide +kernel) (by decide +kernel)⟩

/-! ### Witnesses: floor supervision -/

theorem test_witness_HaltsAndFastMarkets :
    Meets .supervisor .halt [312, 15] (crowded 255) (fun s ops =>
      let v := s.instr (operand ops 0)
      operand ops 0 < 2048 ∧ ops.length = 2 ∧ operand ops 1 ≤ 15 ∧ v.trading = .active ∧
      ∀ r ∈ s.carrying v, (s.ribbon r).queue.length < 256) ∧
    Meets .supervisor .halt [77, 0] floor (fun s ops => (s.instr (operand ops 0)).trading = .halted 15) ∧
    Meets .supervisor .halt [312, 0] (crowded 256) (fun s ops =>
      let v := s.instr (operand ops 0)
      v.trading = .active ∧ ¬ ∀ r ∈ s.carrying v, (s.ribbon r).queue.length < 256) ∧
    Meets .supervisor .resume [77] floor (fun s ops =>
      let v := s.instr (operand ops 0)
      ops.length = 1 ∧ v.trading = .halted 15 ∧ ∀ r ∈ s.carrying v, (s.ribbon r).queue.length < 256) ∧
    Meets .supervisor .resume [312] floor (fun s ops => (s.instr (operand ops 0)).trading = .active) ∧
    Meets .supervisor .resume [312]
      ((crowded 256).setInstr 312 { xyz with trading := .halted 0 }) (fun s ops =>
        let v := s.instr (operand ops 0)
        v.trading = .halted 0 ∧ ¬ ∀ r ∈ s.carrying v, (s.ribbon r).queue.length < 256) ∧
    Meets .supervisor .resume [2047] floor (fun s ops => (s.instr (operand ops 0)).trading = .vacant) ∧
    Meets .supervisor .setFastMarket [312] floor (fun s ops => ops.length = 1 ∧ operand ops 0 < 2048 ∧
      (s.instr (operand ops 0)).trading ≠ .vacant ∧ (s.instr (operand ops 0)).fast ≠ true) ∧
    Meets .supervisor .clearFastMarket [312] floor (fun s ops => (s.instr (operand ops 0)).fast = false) :=
  ⟨meets (by decide +kernel) (by decide +kernel), meets (by decide +kernel) (by decide +kernel),
    meets (by decide +kernel) (by decide +kernel), meets (by decide +kernel) (by decide +kernel),
    meets (by decide +kernel) (by decide +kernel), meets (by decide +kernel) (by decide +kernel),
    meets (by decide +kernel) (by decide +kernel), meets (by decide +kernel) (by decide +kernel),
    meets (by decide +kernel) (by decide +kernel)⟩

/-- `floor` with print 2 of XYZ CANCELED. -/
def canceled : State :=
  floor.setInstr 312 { xyz with prints := xyz.prints.map fun p => if p.number = 2 then { p with valid := false } else p }

theorem test_witness_PrintsOutOfReach :
    Meets .supervisor .cancelPrint [312, 2] canceled (fun s ops =>
      let v := s.instr (operand ops 0)
      ops.length = 2 ∧ operand ops 0 < 2048 ∧ v.trading ≠ .vacant ∧ 1 ≤ operand ops 1 ∧
      ∃ q ∈ v.prints, q.number = operand ops 1 ∧ q.valid = false ∧
        ∀ q' ∈ v.prints, q'.number = operand ops 1 → q' = q) ∧
    Meets .supervisor .correctPrint [312, 3, 48, 0x8000, 0, 1] floor (fun s ops =>
      let v := s.instr (operand ops 0)
      ops.length = 6 ∧ salePrice ops 2 = some 12288 ∧ 1 ≤ operandPair ops 4 ∧ operandPair ops 4 ≤ 9999999 ∧
      (∀ q ∈ v.prints, q.number ≠ operand ops 1) ∧ v.prints.length < 8) ∧
    Meets .supervisor .cancelPrint [400, 65530] floor (fun s ops =>
      let v := s.instr (operand ops 0)
      (∀ q ∈ v.prints, q.number ≠ operand ops 1) ∧ v.prints.length = 8 ∧
      v.prints.head?.map (·.number) = some (successor^[1] (operand ops 1)) ∧ operand ops 1 ≤ 65535) :=
  ⟨meets (by decide +kernel) (by decide +kernel), meets (by decide +kernel) (by decide +kernel),
    meets (by decide +kernel) (by decide +kernel)⟩

theorem test_witness_CancelPrintRecomputes :
    Meets .supervisor .cancelPrint [312, 2] (crowded 255) (fun s ops =>
      let v := s.instr (operand ops 0)
      ops.length = 2 ∧ operand ops 0 < 2048 ∧ v.trading ≠ .vacant ∧ 1 ≤ operand ops 1 ∧
      v.prints.find? (fun x => decide (x.number = operand ops 1)) =
        some ⟨2, .regular .up, 12128, 300, true⟩ ∧
      (∀ r ∈ s.carrying v, (s.ribbon r).queue.length < 256) ∧
      (v.prints.filter Print.counts).getLast?.map (·.number) = some 2) ∧
    Meets .supervisor .cancelPrint [312, 1] floor (fun s ops =>
      let v := s.instr (operand ops 0)
      v.anchorLast = none ∧ v.opening.map (·.number) = some (operand ops 1) ∧
      (v.prints.filter Print.counts).getLast?.map (·.number) ≠ some 1) :=
  ⟨meets (by decide +kernel) (by decide +kernel), meets (by decide +kernel) (by decide +kernel)⟩

theorem test_witness_CorrectPrintRecomputes :
    Meets .supervisor .correctPrint [312, 1, 45, 0x8007, 0x98, 0x967F] floor (fun s ops =>
      let v := s.instr (operand ops 0)
      ops.length = 6 ∧ operand ops 0 < 2048 ∧ v.trading ≠ .vacant ∧ 1 ≤ operand ops 1 ∧
      priceOperand ops 2 = some 11744 ∧ 1 ≤ operandPair ops 4 ∧ operandPair ops 4 ≤ 9999999 ∧
      v.prints.find? (fun x => decide (x.number = operand ops 1)) =
        some ⟨1, .regular .up, 11776, 1200, true⟩ ∧
      11744 % v.denominator.grid = 0 ∧ ∀ r ∈ s.carrying v, (s.ribbon r).queue.length < 256) ∧
    Meets .supervisor .correctPrint [400, 3, 45, 0x8000, 0, 1] floor (fun s ops =>
      let v := s.instr (operand ops 0)
      (v.prints.find? (fun x => decide (x.number = operand ops 1))).map (·.kind) = some .late) :=
  ⟨meets (by decide +kernel) (by decide +kernel), meets (by decide +kernel) (by decide +kernel)⟩

theorem test_witness_CancelPrintRecomputes_refusals :
    Meets .supervisor .cancelPrint [312, 0] floor (fun _ ops => ¬ 1 ≤ operand ops 1) ∧
    Meets .supervisor .cancelPrint [2047, 1] floor (fun s ops => ops.length = 2 ∧ operand ops 0 < 2048 ∧
      1 ≤ operand ops 1 ∧ (s.instr (operand ops 0)).trading = .vacant) ∧
    Meets .supervisor .cancelPrint [312, 2] (crowded 256) (fun s ops =>
      let v := s.instr (operand ops 0)
      v.prints.find? (fun x => decide (x.number = operand ops 1)) = some ⟨2, .regular .up, 12128, 300, true⟩ ∧
      ∃ r ∈ s.carrying v, 256 ≤ (s.ribbon r).queue.length ∧ s.isQueued r 312 2 = false) ∧
    (floor.isQueued 0 312 2 = true ∧ floor.isQueued 0 312 1 = false) ∧
    ("CXL" = "CXL" ∨ "CXL" = "CORR") ∧ (200 ≤ 99900 ∧ 99900 ≤ 99900 ∧ 99900 % 100 = 0) ∧
    (150 ≠ 100 ∧ ¬ (200 ≤ 150 ∧ 150 ≤ 99900 ∧ 150 % 100 = 0)) :=
  ⟨meets (by decide +kernel) (by decide +kernel), meets (by decide +kernel) (by decide +kernel),
    meets (by decide +kernel) (by decide +kernel), by decide +kernel, .inl rfl, by decide, by decide⟩

theorem test_witness_CorrectPrintRecomputes_refusals :
    Meets .supervisor .correctPrint [312, 2] floor (fun _ ops => ops.length ≠ 6) ∧
    Meets .supervisor .correctPrint [2047, 1, 45, 0x8000, 0, 1] floor (fun s ops =>
      ops.length = 6 ∧ operand ops 0 < 2048 ∧ 1 ≤ operand ops 1 ∧ priceOperand ops 2 = some 11520 ∧
      operandPair ops 4 = 1 ∧ (s.instr (operand ops 0)).trading = .vacant) ∧
    Meets .supervisor .correctPrint [312, 2, 45, 0x8101, 0, 1] floor (fun s ops =>
      let v := s.instr (operand ops 0)
      v.prints.find? (fun x => decide (x.number = operand ops 1)) = some ⟨2, .regular .up, 12128, 300, true⟩ ∧
      priceOperand ops 2 = some 11536 ∧ 11536 % v.denominator.grid ≠ 0) ∧
    Meets .supervisor .correctPrint [312, 2, 45, 0x8000, 0, 1] (crowded 256) (fun s ops =>
      let v := s.instr (operand ops 0)
      priceOperand ops 2 = some 11520 ∧ 11520 % v.denominator.grid = 0 ∧
      ∃ r ∈ s.carrying v, 256 ≤ (s.ribbon r).queue.length ∧ s.isQueued r 312 2 = false) :=
  ⟨meets (by decide +kernel) (by decide +kernel), meets (by decide +kernel) (by decide +kernel),
    meets (by decide +kernel) (by decide +kernel), meets (by decide +kernel) (by decide +kernel)⟩

/-- `floor` with a FIRST part for ribbon 0 in the text assembly buffer. -/
def halfText : State := floor.setTextBuffer (some ⟨0, [0x41]⟩)

theorem test_witness_TapeTextParts :
    Meets .supervisor .tapeText [0x0003, 0x5041, 0x5A00] (crowded 255) (fun s ops =>
      operand ops 0 / 256 % 16 = 0 ∧ s.mode = .live ∧ ops.length = 1 + (3 + 1) / 2 ∧
      (∀ b ∈ (wordBytes (ops.drop 1)).take 3, isTapeChar b = true) ∧ s.inService 0 = true ∧
      (s.ribbon 0).queue.length < 256) ∧
    Meets .supervisor .tapeText [0x0001, 0x5000] (crowded 256) (fun s ops =>
      operand ops 0 / 256 % 16 = 0 ∧ ¬ (s.ribbon 0).queue.length < 256) ∧
    Meets .supervisor .tapeText (0x1114 :: List.replicate 10 0x4141) floor (fun s ops =>
      operand ops 0 / 4096 = 1 ∧ operand ops 0 / 256 % 16 = 1 ∧ operand ops 0 % 256 = 20 ∧
      ops.length = 1 + (20 + 1) / 2 ∧ s.inService 1 = true ∧
      ∀ b ∈ (wordBytes (ops.drop 1)).take 20, isTapeChar b = true) ∧
    Meets .supervisor .tapeText [0x0201, 0x5000] floor (fun s ops =>
      operand ops 0 / 256 % 16 = 2 ∧ s.ports.textBuffer = none) ∧
    Meets .supervisor .tapeText [0x1201, 0x5000] halfText (fun s ops =>
      operand ops 0 / 256 % 16 = 2 ∧ operand ops 0 / 4096 = 1 ∧ s.ports.textBuffer = some ⟨0, [0x41]⟩) ∧
    Meets .supervisor .tapeText [0x0201, 0x5000] halfText (fun s ops =>
      operand ops 0 / 4096 = 0 ∧ s.ports.textBuffer = some ⟨0, [0x41]⟩ ∧ (s.ribbon 0).queue.length < 256) ∧
    Meets .supervisor .tapeText [0x0301, 0x5000] floor (fun _ ops => 3 ≤ operand ops 0 / 256 % 16) :=
  ⟨meets (by decide +kernel) (by decide +kernel), meets (by decide +kernel) (by decide +kernel),
    meets (by decide +kernel) (by decide +kernel), meets (by decide +kernel) (by decide +kernel),
    meets (by decide +kernel) (by decide +kernel), meets (by decide +kernel) (by decide +kernel),
    meets (by decide +kernel) (by decide +kernel)⟩

/-! ### Witnesses: panels, cells, board links -/

theorem test_witness_PanelRequests :
    Meets .supervisor .definePanel [63, 3, 4064, 32] floor (fun s ops =>
      operand ops 0 ≤ 63 ∧ ops.length = 4 ∧ operand ops 1 ≤ 3 ∧ operand ops 2 ≤ 4095 ∧ 1 ≤ operand ops 3 ∧
      operand ops 3 ≤ 4096 ∧ (s.display.panel 63).present = false ∧ operand ops 2 + operand ops 3 ≤ 4096 ∧
      ∀ e ∈ s.display.panels, e.1 ≠ 63 → e.2.present = true → 4096 ≤ e.2.base ∨ e.2.base + e.2.limit ≤ 4064) ∧
    Meets .supervisor .definePanel [0, 0, 0, 1] floor (fun s _ => (s.display.panel 0).present = true) ∧
    Meets .supervisor .definePanel [2, 0, 4095, 2] floor (fun s ops =>
      (s.display.panel 2).present = false ∧ 4096 < operand ops 2 + operand ops 3) ∧
    Meets .supervisor .removePanel [1] { floor with display := floor.display.setCell 16 Cell.vacant } (fun s ops =>
      ops.length = 1 ∧ (s.display.panel 1).present = true ∧
      s.display.cellsOfPanel (s.display.panel 1) = []) ∧
    Meets .supervisor .panelDark [0] floor (fun s _ =>
      (s.display.panel 0).present = true ∧ (s.display.panel 0).dark ≠ true) ∧
    Meets .supervisor .panelLight [0] floor (fun s _ => (s.display.panel 0).dark = false) ∧
    Meets .supervisor .panelLight [1] floor (fun s _ => (s.display.panel 1).dark ≠ false) :=
  ⟨meets (by decide +kernel) (by decide +kernel), meets (by decide +kernel) (by decide +kernel),
    meets (by decide +kernel) (by decide +kernel), meets (by decide +kernel) (by decide +kernel),
    meets (by decide +kernel) (by decide +kernel), meets (by decide +kernel) (by decide +kernel),
    meets (by decide +kernel) (by decide +kernel)⟩

theorem test_witness_PanelRequests_refusals :
    Meets .supervisor .definePanel [64, 0, 0, 1] floor (fun _ ops => ¬ operand ops 0 ≤ 63) ∧
    Meets .supervisor .definePanel [2, 0, 15, 1] floor (fun s ops =>
      (s.display.panel 2).present = false ∧ operand ops 2 + operand ops 3 ≤ 4096 ∧
      ∃ e ∈ s.display.panels, e.1 ≠ 2 ∧ e.2.present = true ∧
        ¬ (operand ops 2 + operand ops 3 ≤ e.2.base ∨ e.2.base + e.2.limit ≤ operand ops 2)) ∧
    Meets .supervisor .removePanel [64] floor (fun _ ops => ¬ operand ops 0 ≤ 63) ∧
    Meets .supervisor .removePanel [63] floor (fun s ops =>
      ops.length = 1 ∧ (s.display.panel 63).present = false) ∧
    Meets .supervisor .removePanel [0] floor (fun s _ =>
      (s.display.panel 0).present = true ∧ s.display.cellsOfPanel (s.display.panel 0) ≠ []) ∧
    Meets .supervisor .panelDark [0, 0] floor (fun _ ops => ops.length ≠ 1) ∧
    Meets .supervisor .panelLight [2] floor (fun s _ => (s.display.panel 2).present = false) ∧
    Table.wf Cell.vacant floor.display.cells = true :=
  ⟨meets (by decide +kernel) (by decide +kernel), meets (by decide +kernel) (by decide +kernel),
    meets (by decide +kernel) (by decide +kernel), meets (by decide +kernel) (by decide +kernel),
    meets (by decide +kernel) (by decide +kernel), meets (by decide +kernel) (by decide +kernel),
    meets (by decide +kernel) (by decide +kernel), by decide +kernel⟩

theorem test_witness_CellRequests :
    Meets .supervisor .defineCell [15, 2, 1, 9, 16, 5, 2047, 1, 1] floor (fun s ops =>
      let m := (s.display.link 0).module 2
      ops.length = 9 ∧ operand ops 0 ≤ 4095 ∧ operand ops 1 ≤ 31 ∧ 1 ≤ operand ops 2 ∧ operand ops 2 ≤ 4 ∧
      1 ≤ operand ops 3 ∧ operand ops 3 ≤ 40 ∧ 1 ≤ operand ops 4 ∧ operand ops 4 ≤ 16 ∧
      CellField.ofCode (operand ops 5) (operand ops 6) = some (.instrument .last 2047) ∧
      Justification.ofCode (operand ops 7) = some .left ∧ flagOperand ops 8 = some true ∧
      (CellField.instrument .last 2047).isInstrument = true ∧
      s.display.panelOf 15 = some ⟨true, 0, 0, 16, false⟩ ∧ (s.display.cell 15).bound = false ∧
      m.state ≠ .unconfigured ∧ operand ops 2 ≤ m.rows ∧ operand ops 3 + operand ops 4 - 1 ≤ m.columns ∧
      ∀ x ∈ s.display.boundCells, s.display.onModule 0 2 x = true → (s.display.cell x).row = operand ops 2 →
        (s.display.cell x).column + (s.display.cell x).width ≤ operand ops 3 ∨
          operand ops 3 + operand ops 4 ≤ (s.display.cell x).column) ∧
    ((floor.display.setCell 3 (floor.display.cell 1)).isDark 3 = false ∧
      (floor.display.setCell 17 (floor.display.cell 1)).isDark 17 = true) ∧
    Meets .supervisor .removeCell [1] floor (fun s ops =>
      ops.length = 1 ∧ operand ops 0 ≤ 4095 ∧ (s.display.cell 1).bound = true) ∧
    Meets .supervisor .removeCell [4095] floor (fun s _ => (s.display.cell 4095).bound = false) ∧
    floor.display.linkOf 1 = some 0 ∧ 2 ≠ 1 :=
  ⟨meets (by decide +kernel) (by decide +kernel), by decide +kernel, meets (by decide +kernel) (by decide +kernel),
    meets (by decide +kernel) (by decide +kernel), by decide +kernel⟩

theorem test_witness_CellRequests_refusals :
    Meets .supervisor .defineCell [15] floor (fun _ ops => ops.length ≠ 9) ∧
    Meets .supervisor .defineCell [4095, 2, 1, 9, 16, 5, 0, 1, 1] floor (fun s ops =>
      ops.length = 9 ∧ operand ops 0 ≤ 4095 ∧ CellField.ofCode 5 0 = some (.instrument .last 0) ∧
      s.display.panelOf 4095 = none) ∧
    Meets .supervisor .defineCell [1, 2, 1, 9, 16, 5, 0, 1, 1] floor (fun s _ =>
      (s.display.panelOf 1).isSome = true ∧ (s.display.cell 1).bound = true) ∧
    Meets .supervisor .defineCell [15, 2, 1, 26, 16, 5, 0, 1, 1] floor (fun s ops =>
      s.display.panelOf 15 = some ⟨true, 0, 0, 16, false⟩ ∧ (s.display.cell 15).bound = false ∧
      ¬ operand ops 3 + operand ops 4 - 1 ≤ ((s.display.link 0).module 2).columns) ∧
    Meets .supervisor .defineCell [15, 2, 1, 8, 16, 5, 0, 1, 1] floor (fun s ops =>
      operand ops 3 + operand ops 4 - 1 ≤ ((s.display.link 0).module 2).columns ∧
      1 ∈ s.display.boundCells ∧ s.display.onModule 0 2 1 = true ∧ (s.display.cell 1).row = operand ops 2 ∧
      ¬ ((s.display.cell 1).column + (s.display.cell 1).width ≤ operand ops 3 ∨
        operand ops 3 + operand ops 4 ≤ (s.display.cell 1).column)) ∧
    Meets .supervisor .removeCell [4096] floor (fun _ ops => ¬ operand ops 0 ≤ 4095) ∧
    (let d := floor.display;
      d.before (some 1) 16 = some 1 ∧ 1 ≠ 16 ∧ d.before (some 1) 1 = none ∧ 1 ∈ d.bindingList (some 1) ∧
      d.linkOf 16 = some 1 ∧ d.linkOf 16 ≠ some 0 ∧ (d.bindingList (some 1))[0]? = some 1 ∧
      (d.bindingList (some 1))[1]? = some 16) ∧
    ((floor.display.cell 16).field = .instrument .bid 312 ∧ (floor.display.cell 2).field = .clock) :=
  ⟨meets (by decide +kernel) (by decide +kernel), meets (by decide +kernel) (by decide +kernel),
    meets (by decide +kernel) (by decide +kernel), meets (by decide +kernel) (by decide +kernel),
    meets (by decide +kernel) (by decide +kernel), meets (by decide +kernel) (by decide +kernel),
    by decide +kernel, by decide +kernel⟩

theorem test_witness_RepaintQueueAppends :
    (let d := floor.display;
      d.panelOf 1 = some ⟨true, 0, 0, 16, false⟩ ∧ d.paintable 1 = true ∧ (d.cell 1).queued = false ∧
      (d.cell 1).field = .instrument .last 312 ∧ (d.cell 1).onChange = true ∧
      d.panelOf 2 = some ⟨true, 0, 0, 16, false⟩ ∧ (d.cell 2).queued = true ∧
      d.panelOf 16 = some ⟨true, 1, 16, 16, true⟩ ∧ (d.cell 16).field = .instrument .bid 312 ∧
      (d.cell 16).onChange = false) ∧
    (let d := { floor.display with links := [] };
      d.panelOf 1 = some ⟨true, 0, 0, 16, false⟩ ∧ d.paintable 1 = false) := by decide +kernel

theorem test_witness_BoardEngineEvents :
    (let s := floor.handOn 312 [.last] true;
      s.transit.boardChanges = ⟨312, [.last], true⟩ :: []) ∧
    (let s := { floor with transit := { Transit.none with minuteChanges := 1, sessionChanges := 1, tapeChanges := [1] } };
      s.transit.minuteChanges = 0 + 1 ∧ s.transit.sessionChanges = 0 + 1 ∧ s.transit.tapeChanges = 1 :: []) ∧
    (let s := { floor with
        display := floor.display.highlight 3000 1, timebase := { floor.timebase with time := 3000 } };
      s.display.highlights = 1 :: [] ∧ (s.display.cell 1).expiry = some 3000 ∧ reached 3000 s.now = true) ∧
    floor.transit = Transit.none := by decide +kernel

theorem test_witness_ArbiterChoosesByClass :
    (let v := floor.display.link 0;
      v.mayChoose = true ∧ Table.first (Module.keepAliveDue v.holdSeconds 5000) v.modules = some (2, upModule) ∧
      Table.first (Module.keepAliveDue v.holdSeconds 4999) v.modules = none ∧
      Table.first (Module.toProbe 5 4999) v.modules = none ∧
      Table.first (fun e => e.owed.message.isSome) v.modules = none ∧ v.state = .running ∧
      floor.display.queue 0 = 2 :: [] ∧ upModule.keepAliveDue v.holdSeconds 5000 = true) ∧
    (floor.display.link 1).mayChoose = false ∧
    (let down : Module := { upModule with state := .down };
      Table.first (Module.toProbe 5 5000) [(2, down)] = some (2, down) ∧ down.probeDue 5 5000 = true) ∧
    (let owing : Module := { upModule with owed := .blank };
      Table.first (fun e => e.owed.message.isSome) [(2, owing)] = some (2, owing)) ∧
    ((floor.display.setLink 0 { floor.display.link 0 with state := .test .charset }).link 0).state ≠ .running ∧
    (Purpose.write ≠ .probe ∧ Purpose.owedBlank ≠ .write) := by decide +kernel

theorem test_witness_ArbiterChoosesByClass_owed :
    (let owing (o : Owed) (state : LinkState) : Link :=
        { floor.display.link 0 with state := state, modules := [(2, { upModule with owed := o })] };
      ∀ v ∈ [owing .blank (.settling none), owing .blank .running, owing (.pattern .charset) .running],
        v.mayChoose = true ∧ Table.first (Module.keepAliveDue v.holdSeconds 0) v.modules = none ∧
        Table.first (Module.toProbe 5 0) v.modules = none ∧
        (Table.first (fun e => e.owed.message.isSome) v.modules).isSome = true) ∧
    (∀ t, (floor.display.link 0).state ≠ .settling t) := by
  refine ⟨by decide +kernel, fun t => ?_⟩
  rw [show (floor.display.link 0).state = .running from by decide +kernel]
  nofun

/-- `floor` with a frame of module 2 on link 0 and device time 49. -/
def framed (line : Line) : State :=
  { floor with
    display := floor.display.setLink 0 { floor.display.link 0 with line := line }
    timebase := { floor.timebase with time := 49 } }

def probe : Sent := ⟨2, .hold, .probe, true⟩

theorem test_witness_LinkEvents :
    ((framed (.sending probe)).display.link (0 : Fin 4)).line = .sending probe ∧
    (((framed (.inFlight probe 50)).display.link (0 : Fin 4)).line = .inFlight probe 50 ∧ probe.address ≤ 31 ∧
      reached 50 (framed (.inFlight probe 50)).now = false) ∧
    (((framed (.inFlight probe 49)).display.link (0 : Fin 4)).line = .inFlight probe 49 ∧
      reached 49 (framed (.inFlight probe 49)).now = true ∧ (0x83 : Byte) ≠ BitVec.ofNat 8 (128 + probe.address)) ∧
    (floor.display.link (0 : Fin 4)).line = .free ∧
    (let s := { floor with timebase := { floor.timebase with time := 500 } };
      (s.display.link (1 : Fin 4)).state = .settling (some 500) ∧ reached 500 s.now = true) ∧
    (Purpose.write ≠ .probe ∧ Purpose.write ≠ .settleBlank ∧ probe.purpose = .probe ∧
      (∀ e ∈ (floor.display.link 1).modules, e.2.owed ≠ .blank) ∧
      (floor.display.link 1).state = .settling (some 500)) := by decide +kernel

theorem test_witness_LinkEvents_settling :
    (let settle : Sent := ⟨4, .blank, .settleBlank, true⟩;
      settle.purpose = .settleBlank ∧ (floor.display.link 1).line = .free) ∧
    (Table.wf Module.reset (floor.display.link 1).modules = true ∧
      ((floor.display.link 1).module 4).state ≠ .unconfigured ∧
      ((floor.display.link 1).module 5).state = .unconfigured) ∧
    ((∃ t, (floor.display.link 1).state = .settling t) ∧ ∀ k ∈ (floor.display.link 1).modules, k.2.owed ≠ .blank) ∧
    (∃ k ∈ ({ floor.display.link 1 with modules := [(4, { upModule with owed := .blank })] } : Link).modules,
      k.2.owed = .blank) ∧
    (∀ t, (floor.display.link 0).state ≠ .settling t) ∧
    Table.wf Cell.vacant floor.display.cells = true ∧
    (2 ∈ floor.display.queue 0 ∧ (floor.display.cell 2).address = 2 ∧ 1 ∉ floor.display.queue 0 ∧ 1 ≠ 0) ∧
    (floor.display.linkOf 1 = some 0 ∧ floor.display.paintable 1 = true ∧
      (floor.display.cell 1).queued = false) := by
  refine ⟨by decide +kernel, by decide +kernel, ⟨⟨some 500, by decide +kernel⟩, by decide +kernel⟩,
    by decide +kernel, fun t => ?_, by decide +kernel, by decide +kernel, by decide +kernel⟩
  rw [show (floor.display.link 0).state = .running from by decide +kernel]
  nofun

theorem test_witness_LinkRequests :
    Meets .supervisor .moduleRestart [0, 2] floor (fun s ops =>
      operand ops 0 ≤ 3 ∧ ops.length = 2 ∧ operand ops 1 ≤ 31 ∧ s.mode = .live ∧
      (s.display.link 0).state = .running ∧ ((s.display.link 0).module 2).state ≠ .unconfigured) ∧
    Meets .supervisor .lampTestStart [0, 3] floor (fun s ops =>
      ops.length = 2 ∧ LampPattern.ofCode (operand ops 1) = some .charset ∧ s.mode = .live ∧
      (s.display.link 0).state = .running) ∧
    Meets .supervisor .lampTestStop [0]
      { floor with display := floor.display.setLink 0 { floor.display.link 0 with state := .test .address } }
      (fun s ops => ops.length = 1 ∧ s.mode = .live ∧ (s.display.link 0).state = .test .address) ∧
    Meets .supervisor .lampTestStop [0] floor (fun s _ => (s.display.link 0).state = .running) ∧
    Meets .supervisor .readLink [3] floor (fun _ ops => operand ops 0 ≤ 3 ∧ ops.length = 1) :=
  ⟨meets (by decide +kernel) (by decide +kernel), meets (by decide +kernel) (by decide +kernel),
    meets (by decide +kernel) (by decide +kernel), meets (by decide +kernel) (by decide +kernel),
    meets (by decide +kernel) (by decide +kernel)⟩

theorem test_witness_LinkRequests_refusals :
    Meets .supervisor .moduleRestart [4, 2] floor (fun _ ops => ¬ operand ops 0 ≤ 3) ∧
    Meets .supervisor .moduleRestart [0, 2] config (fun s _ => s.mode = .config) ∧
    Meets .supervisor .moduleRestart [0, 31] floor (fun s _ => s.mode = .live ∧
      (s.display.link 0).state = .running ∧ ((s.display.link 0).module 31).state = .unconfigured) ∧
    Meets .supervisor .moduleRestart [1, 4] floor (fun s _ =>
      ((s.display.link 1).module 4).state ≠ .unconfigured ∧ (s.display.link 1).state = .settling (some 500)) ∧
    Meets .supervisor .lampTestStart [0, 4] floor (fun _ ops => LampPattern.ofCode (operand ops 1) = none) ∧
    Meets .supervisor .lampTestStart [0, 3] config (fun s _ => s.mode = .config) ∧
    Meets .supervisor .lampTestStart [3, 3] floor (fun s _ => s.mode = .live ∧ (s.display.link 3).state = .off) ∧
    Meets .supervisor .lampTestStart [1, 3] floor (fun s _ => (s.display.link 1).state = .settling (some 500)) ∧
    Meets .supervisor .lampTestStop [4] floor (fun _ ops => ¬ operand ops 0 ≤ 3) ∧
    Meets .supervisor .lampTestStop [0] config (fun s _ => s.mode = .config) ∧
    Meets .supervisor .lampTestStop [3] floor (fun s _ => (s.display.link 3).state = .off) ∧
    Meets .supervisor .lampTestStop [1] floor (fun s _ => (s.display.link 1).state = .settling (some 500)) ∧
    Meets .supervisor .readLink [4] floor (fun _ ops => ¬ operand ops 0 ≤ 3) :=
  ⟨meets (by decide +kernel) (by decide +kernel), meets (by decide +kernel) (by decide +kernel),
    meets (by decide +kernel) (by decide +kernel), meets (by decide +kernel) (by decide +kernel),
    meets (by decide +kernel) (by decide +kernel), meets (by decide +kernel) (by decide +kernel),
    meets (by decide +kernel) (by decide +kernel), meets (by decide +kernel) (by decide +kernel),
    meets (by decide +kernel) (by decide +kernel), meets (by decide +kernel) (by decide +kernel),
    meets (by decide +kernel) (by decide +kernel), meets (by decide +kernel) (by decide +kernel),
    meets (by decide +kernel) (by decide +kernel)⟩

/-! ### Witnesses: ribbons -/

theorem test_witness_TapeQueueAppends :
    (floor.ribbon 0).state ≠ .idle ∧
    ((floor.ribbon 1).state = .idle ∧ floor.gate 1 = true ∧ (floor.ribbon 1).queue = [] ∧
      (floor.ribbon 1).outgoing = []) ∧
    ({ floor with tape := { floor.tape with ready1 := false } } : State).gate 1 = false ∧
    (let s := floor.setRibbon 0 { floor.ribbon 0 with state := .waiting, queue := [.print 312 2 0 none] };
      ((s.withdraw 0 312 2).ribbon 0).queue = [] ∧ (s.ribbon 0).outgoing = [] ∧ (s.ribbon 0).state = .waiting) ∧
    ((floor.withdraw 0 312 2).ribbon 0).queue ≠ [] := by decide +kernel

/-- Device time 120,000 at a ribbon that is NORMAL and owes a late notice. -/
def late : State :=
  { floor with timebase := { floor.timebase with time := 120000 } }

theorem test_witness_EntryStart :
    (late.ribbon 1).lateMode = .normal ∧
    newLateMode (late.items.late1 * 1000) (late.items.late2 * 1000) .normal
      (late.now - (TapeEntry.notice [0x41] 0 none).stamp).toNat = .digitsVolumeDeleted ∧
    newLateMode 60000 120000 .digitsDeleted (late.now - (TapeEntry.notice [0x41] 90000 none).stamp).toNat =
      .normal ∧
    newLateMode 60000 120000 .normal (late.now - (TapeEntry.notice [0x41] 60001 none).stamp).toNat = .normal ∧
    newLateMode 60000 120000 .digitsDeleted (late.now - (TapeEntry.notice [0x41] 60001 none).stamp).toNat ≠
      .normal := by decide +kernel

theorem test_witness_LateModeTable :
    0 < 60000 ∧ 60000 < 120000 ∧ 120000 ≤ 120000 ∧ (119999 < 120000 ∧ 120000 < 2 * 60001) ∧
    (2 * 60000 ≤ 120000 ∧ 60000 < 2 * 30001) ∧ 2 * 30000 ≤ 60000 ∧ 60000 ≤ 60000 ∧ 59999 < 60000 := by decide

theorem test_witness_PrintsOnTheTape :
    ((floor.instr 312).print 2 = some ⟨2, .regular .up, 12128, 300, true⟩ ∧ 12128 / 256 = 47 ∧
      (floor.instr 312).digitRef0 = none ∧ LateMode.digitsDeleted ≠ .normal ∧ 45 / 10 = 47 / 10) ∧
    ((some (⟨true, 256, 100⟩ : PrintFace)) = some ⟨true, 256, 100⟩) ∧
    floor.transit.departures = [] ∧
    (let s := { floor with transit := { Transit.none with departures := [⟨312, 2, ⟨false, 12128, 300⟩⟩] } };
      s.transit.departures = ⟨312, 2, ⟨false, 12128, 300⟩⟩ :: [] ∧
      (s.ribbon 0).queue[0]? = some (.print 312 2 0 none) ∧
      (s.ribbon 0).queue[1]? = some (.notice [0x41] 0 none)) := by decide +kernel

theorem test_witness_RibbonRequests :
    Meets .supervisor .ribbonRestart [0] (floor.setRibbon 0 { floor.ribbon 0 with state := .fault [0x41] })
      (fun s ops => operand ops 0 ≤ 1 ∧ ops.length = 1 ∧ s.mode = .live ∧ (s.ribbon 0).state = .fault [0x41]) ∧
    Meets .supervisor .ribbonRestart [1] floor (fun s _ => (s.ribbon 1).state = .idle) ∧
    Meets .supervisor .ribbonRate [1, 120] floor (fun s ops => operand ops 0 ≤ 1 ∧ ops.length = 2 ∧
      s.mode = .live ∧ operand ops 1 ∈ [50, 60, 75, 80, 100, 120] ∧ (s.ribbon 1).state ≠ .off) ∧
    Meets .supervisor .ribbonRate [0, 50] (floor.setRibbon 0 Ribbon.reset) (fun s _ => (s.ribbon 0).state = .off) ∧
    Meets .supervisor .readRibbon [0] (crowded 256) (fun s ops => ops.length = 1 ∧
      (s.ribbon 0).queue.length < 65536 ∧ (s.ribbon 0).period < 65536) :=
  ⟨meets (by decide +kernel) (by decide +kernel), meets (by decide +kernel) (by decide +kernel),
    meets (by decide +kernel) (by decide +kernel), meets (by decide +kernel) (by decide +kernel),
    meets (by decide +kernel) (by decide +kernel)⟩

theorem test_witness_RibbonRequests_refusals :
    Meets .supervisor .ribbonRestart [2] floor (fun _ ops => ¬ operand ops 0 ≤ 1) ∧
    Meets .supervisor .ribbonRestart [0] config (fun s _ => s.mode = .config) ∧
    Meets .supervisor .ribbonRate [0, 51] floor (fun _ ops => operand ops 1 ∉ [50, 60, 75, 80, 100, 120]) ∧
    Meets .supervisor .ribbonRate [0, 50] config (fun s _ => s.mode = .config) ∧
    Meets .supervisor .readRibbon [2] floor (fun _ ops => ¬ operand ops 0 ≤ 1) :=
  ⟨meets (by decide +kernel) (by decide +kernel), meets (by decide +kernel) (by decide +kernel),
    meets (by decide +kernel) (by decide +kernel), meets (by decide +kernel) (by decide +kernel),
    meets (by decide +kernel) (by decide +kernel)⟩

/-- `floor` at device time 199 with ribbon 0 SENDING and the pair JOINED or not. -/
def sending (joined : Bool) (b : Block) : State :=
  { floor.setRibbon 0 { floor.ribbon 0 with state := .sending b, lateExpiry := some 199 } with
    items := { floor.items with joined := joined }
    timebase := { floor.timebase with time := 199 } }

theorem test_witness_RibbonEvents :
    (let b : Block := ⟨[0x41], none, false, false⟩;
      ((sending false b).ribbon (0 : Fin 2)).state = .sending b ∧ b.deadline = none) ∧
    (let b : Block := ⟨[0x41], some 199, false, false⟩;
      ((sending false b).ribbon (0 : Fin 2)).state = .sending b ∧ reached 199 (sending false b).now = true) ∧
    (let b : Block := ⟨[0x41], some 200, true, false⟩;
      ((sending true b).ribbon 0).state = .sending b ∧ reached 200 (sending true b).now = false ∧
      (sending true b).items.joined = true ∧ b.acked0 = true ∧ b.acked1 = false) ∧
    ((0x07 : Byte) ≠ 0x06 ∧ (floor.ribbon 1).state = .idle) ∧
    (let s := floor.setRibbon 0 { floor.ribbon 0 with pacing := 0 };
      (s.ribbon (0 : Fin 2)).state = .pacing ∧ (s.ribbon (0 : Fin 2)).pacing = 0) ∧
    (let s := { floor.setRibbon 0 { floor.ribbon 0 with state := .waiting } with
        tape := { (floor.setRibbon 0 { floor.ribbon 0 with state := .waiting }).tape with ready0 := false } };
      s.gate 0 = false ∧ ({ s with tape := { s.tape with ready0 := true } } : State).gate 0 = true ∧
      (s.ribbon 0).state = .waiting ∧ s.gate 1 = true) ∧
    (let s := sending false ⟨[0x41], none, false, false⟩;
      (s.ribbon (0 : Fin 2)).lateExpiry = some 199 ∧ reached 199 s.now = true ∧ reached 200 s.now = false) ∧
    ((floor.ribbon 0).outgoing = [] ∧ (floor.ribbon 0).queue = .print 312 2 0 none :: [.notice [0x41] 0 none] ∧
      (floor.ribbon 1).queue = []) ∧
    ((floor.setRibbon 1 { floor.ribbon 1 with outgoing := [[0x41]] }).ribbon 1).outgoing = [0x41] :: [] := by
  decide +kernel

/-! ### Witnesses: pages and notices -/

theorem test_witness_DescriptorAndLineWrites :
    Meets .supervisor .writeDescriptor [1023, 0, 1, 9, 9, 9] floor (fun _ ops =>
      ops.length = 6 ∧ operand ops 0 ≤ 1023 ∧ operand ops 2 ≤ 1 ∧ operand ops 1 = 0) ∧
    Meets .supervisor .writeDescriptor [1023, 1, 1, 2, 4080, 16] floor (fun _ ops =>
      operand ops 1 = 1 ∧ operand ops 3 ≤ 2 ∧ 1 ≤ operand ops 5 ∧ operand ops 5 ≤ 16 ∧ operand ops 4 ≤ 4095 ∧
      operand ops 4 + operand ops 5 ≤ 4096) ∧
    Meets .supervisor .writeDescriptor [0, 1, 0, 0, 4095, 2] floor (fun _ ops =>
      4096 < operand ops 4 + operand ops 5) ∧
    Meets .supervisor .writeDescriptor [128, 2, 1, 0, 128, 1] floor (fun _ ops =>
      operand ops 1 = 2 ∧ 127 < operand ops 0 ∧ operand ops 4 ≤ 1023) ∧
    Meets .supervisor .writeDescriptor [127, 2, 1, 0, 127, 1] floor (fun _ ops =>
      operand ops 0 ≤ 127 ∧ operand ops 4 < 128) ∧
    Meets .supervisor .writeDescriptor [127, 2, 1, 0, 1008, 16] floor (fun _ ops =>
      128 ≤ operand ops 4 ∧ operand ops 4 + operand ops 5 ≤ 1024) ∧
    Meets .supervisor .writeLine [4095, 1, 2047, 2] floor (fun _ ops =>
      ops.length = 4 ∧ operand ops 0 ≤ 4095 ∧ operand ops 1 = 1 ∧ operand ops 2 ≤ 2047 ∧ operand ops 3 = 2) ∧
    Meets .supervisor .writeLine [0, 0, 0, 0] floor (fun _ ops => operand ops 1 = 0) :=
  ⟨meets (by decide +kernel) (by decide +kernel), meets (by decide +kernel) (by decide +kernel),
    meets (by decide +kernel) (by decide +kernel), meets (by decide +kernel) (by decide +kernel),
    meets (by decide +kernel) (by decide +kernel), meets (by decide +kernel) (by decide +kernel),
    meets (by decide +kernel) (by decide +kernel), meets (by decide +kernel) (by decide +kernel)⟩

def resolvesTo (s : State) (t : Nat) (x : Option Selector) (d : Descriptor) : Bool :=
  match s.resolve t x with
  | .ok e => decide (e = d)
  | .error _ => false

def failsWith (s : State) (t : Nat) (x : Option Selector) (a : Answer) : Bool :=
  match s.resolve t x with
  | .ok _ => false
  | .error b => decide (b = a)

theorem resolve_of {s : State} {t : Nat} {x : Option Selector} {d : Descriptor} (h : resolvesTo s t x d = true) :
    s.resolve t x = .ok d := by
  unfold resolvesTo at h
  split at h
  · rename_i e he
    rw [he, of_decide_eq_true h]
  · cases h

theorem resolve_error_of {s : State} {t : Nat} {x : Option Selector} {a : Answer}
    (h : failsWith s t x a = true) : s.resolve t x = .error a := by
  unfold failsWith at h
  split at h
  · cases h
  · rename_i e he
    rw [he, of_decide_eq_true h]

def writeThrough (index : Nat) (isLocal offset : Nat) : List Nat := [5, isLocal, index, offset, 1, 312, 0]

theorem test_witness_LinesAreWrittenThroughSelectors :
    ((floor.context 6).localTable = none ∧ (floor.context 5).localTable = some ⟨200, 4, 2⟩ ∧ 4 ≤ 4 ∧ 3 < 4 ∧
      operand ([0, 127].map num) 1 ≤ 127 ∧ 127 < operand ([0, 128].map num) 1 ∧
      operand ([1, 15].map num) 1 ≤ 15 ∧ 15 < operand ([1, 16].map num) 1 ∧ 1 < operand ([2, 0].map num) 0) ∧
    Meets .terminal .writePageLine (writeThrough 2 1 2) floor (fun s ops =>
      ops.length = 7 ∧ operand ops 0 ≤ 63 ∧ operand ops 3 ≤ 15 ∧ contentOperand ops 4 = some (some ⟨312, .full⟩) ∧
      s.mode = .live ∧ selectorOperand ops 1 = some ⟨true, 2⟩ ∧
      resolvesTo s 5 (some ⟨true, 2⟩) ⟨.page, true, 2, 1200, 3⟩ = true ∧ operand ops 3 < 3 ∧
      (s.context (operand ops 0)).localTable = some ⟨200, 4, 2⟩) ∧
    Meets .terminal .writePageLine (writeThrough 7 0 2) floor (fun s ops =>
      selectorOperand ops 1 = some ⟨false, 7⟩ ∧
      resolvesTo s 5 (some ⟨false, 7⟩) ⟨.page, true, 1, 1200, 2⟩ = true ∧ 2 ≤ operand ops 3) ∧
    Meets .terminal .writePageLine (writeThrough 7 0 1) floor (fun s ops =>
      resolvesTo s 5 (some ⟨false, 7⟩) ⟨.page, true, 1, 1200, 2⟩ = true ∧ operand ops 3 < 2 ∧ 1 < 2) ∧
    Meets .terminal .writePageLine (writeThrough 3 0 1) floor (fun s _ =>
      failsWith s 5 (some ⟨false, 3⟩) .wrongKind = true) :=
  ⟨by decide +kernel, meets (by decide +kernel) (by decide +kernel), meets (by decide +kernel) (by decide +kernel),
    meets (by decide +kernel) (by decide +kernel), meets (by decide +kernel) (by decide +kernel)⟩

theorem test_witness_PagesOpenAndClose :
    Meets .terminal .setLocalTable [63, 127] floor (fun s ops => operand ops 0 ≤ 63 ∧ ops.length = 2 ∧
      operand ops 1 ≤ 127 ∧ s.mode = .live ∧ (s.descriptor (operand ops 1)).present = false) ∧
    Meets .terminal .setLocalTable [0, 7] floor (fun s ops =>
      (s.descriptor (operand ops 1)).present = true ∧ (s.descriptor (operand ops 1)).kind ≠ .localTable) ∧
    Meets .terminal .setLocalTable [0, 3] floor (fun s ops =>
      (s.descriptor (operand ops 1)).present = true ∧ (s.descriptor (operand ops 1)).kind = .localTable) ∧
    Meets .terminal .openPage [5, 1, 4] floor (fun s ops => ops.length = 3 ∧ s.mode = .live ∧
      failsWith s 5 (selectorOperand ops 1) .outOfRange = true) ∧
    Meets .terminal .openPage [5, 0, 7] floor (fun s ops => ops.length = 3 ∧ s.mode = .live ∧
      selectorOperand ops 1 = some ⟨false, 7⟩ ∧
      resolvesTo s 5 (selectorOperand ops 1) ⟨.page, true, 1, 1200, 2⟩ = true) ∧
    Meets .supervisor .closePage [63] config (fun s ops =>
      ops.length = 1 ∧ operand ops 0 ≤ 63 ∧ s.mode = .config) ∧
    Meets .terminal .closePage [5] floor (fun s ops => ops.length = 1 ∧ s.mode = .live ∧
      (s.context (operand ops 0)).page.isSome = true) :=
  ⟨meets (by decide +kernel) (by decide +kernel), meets (by decide +kernel) (by decide +kernel),
    meets (by decide +kernel) (by decide +kernel), meets (by decide +kernel) (by decide +kernel),
    meets (by decide +kernel) (by decide +kernel), meets (by decide +kernel) (by decide +kernel),
    meets (by decide +kernel) (by decide +kernel)⟩

theorem test_witness_LinesAreRead :
    Meets .terminal .readChangedLine [63] floor (fun s ops => operand ops 0 ≤ 63 ∧ s.mode = .live ∧
      ops.length = 1 ∧ (s.context 63).page = none) ∧
    Meets .terminal .readChangedLine [5] floor (fun s _ => (s.context 5).page.map (·.dirty) = some (0 :: [])) ∧
    Meets .terminal .readLine [63, 15] floor (fun s ops => ops.length = 2 ∧ operand ops 1 ≤ 15 ∧
      (s.context 63).page = none) ∧
    Meets .terminal .readLine [5, 3] floor (fun s ops =>
      (s.context 5).page.map (fun q => decide (q.snapshot.length ≤ operand ops 1)) = some true) ∧
    Meets .terminal .readLine [5, 2] floor (fun s ops =>
      (s.context 5).page.map (fun q => decide (operand ops 1 < q.snapshot.length)) = some true) :=
  ⟨meets (by decide +kernel) (by decide +kernel), meets (by decide +kernel) (by decide +kernel),
    meets (by decide +kernel) (by decide +kernel), meets (by decide +kernel) (by decide +kernel),
    meets (by decide +kernel) (by decide +kernel)⟩

theorem test_witness_PageHandoffMarksLines :
    floor.transit.pageChanges = [] ∧
    ((floor.handOn 312 [.last] true).transit.pageChanges = ⟨312, [.last]⟩ :: [] ∧
      ((floor.handOn 312 [.last] true).instr 312).viewers.Nodup) ∧
    (5 ∈ (floor.instr 312).viewers ∧ (floor.context 5).page.isSome = true ∧ 6 ∉ (floor.instr 312).viewers) := by
  decide +kernel

theorem test_witness_NoticesRaiseMaskAndTake :
    floor.transit.raises = [] ∧ (floor.tell [63]).transit.raises = 63 :: [] ∧
    (5 ∈ floor.notices.queue ∧ 9 ∈ floor.notices.waiting) ∧
    (63 ∉ floor.notices.queue ∧ 63 ∉ floor.notices.waiting ∧ floor.notices.globalMask = false ∧
      floor.notices.mask 63 = false ∧ floor.notices.mask 9 = true ∧ Notices.reset.globalMask = true) ∧
    Meets .terminal .setNoticeMask [0, 9, 0] floor (fun s ops => s.mode = .live ∧ ops.length = 3 ∧
      operand ops 2 ≤ 1 ∧ operand ops 0 = 0 ∧ operand ops 1 ≤ 63 ∧ decide (operand ops 2 = 1) = false ∧
      s.notices.mask 9 = true ∧ 9 ∈ s.notices.waiting) ∧
    Meets .terminal .setNoticeMask [0, 63, 1] floor (fun _ ops => decide (operand ops 2 = 1) = true) ∧
    Meets .terminal .setNoticeMask [1, 64, 0] { floor with notices := { floor.notices with globalMask := true } }
      (fun s ops => operand ops 0 = 1 ∧ decide (operand ops 2 = 1) = false ∧ s.notices.globalMask = true) ∧
    Meets .terminal .setNoticeMask [1, 0, 1] floor (fun s _ => s.notices.globalMask = false) ∧
    Meets .terminal .takeNotice [] floor (fun s _ => s.mode = .live ∧ s.notices.queue = 5 :: []) ∧
    Meets .terminal .takeNotice [] { floor with notices := Notices.reset } (fun s _ => s.notices.queue = []) :=
  ⟨by decide +kernel, by decide +kernel, by decide +kernel, by decide +kernel,
    meets (by decide +kernel) (by decide +kernel), meets (by decide +kernel) (by decide +kernel),
    meets (by decide +kernel) (by decide +kernel), meets (by decide +kernel) (by decide +kernel),
    meets (by decide +kernel) (by decide +kernel), meets (by decide +kernel) (by decide +kernel)⟩

/-! ### Witnesses: mode control, timebase, invariants -/

theorem test_witness_ConfigureReplacesItems :
    Meets .supervisor .configure [1, 3, 1, 0x1EC8] config (fun s ops => ops.length = 4 ∧ s.mode = .config ∧
      operand ops 0 = 1 ∧ operand ops 1 ≤ 3 ∧ operand ops 2 ≤ 1 ∧ 2 ≤ operand ops 3 / 256 ∧
      operand ops 3 / 256 ≤ 30 ∧ operand ops 3 % 256 ∈ [20, 50, 100, 200]) ∧
    Meets .supervisor .configure [1, 3, 1, 0x1FC8] config (fun _ ops => ¬ operand ops 3 / 256 ≤ 30) ∧
    Meets .supervisor .configure [1, 3, 1, 0] floor (fun s _ => s.mode = .live) ∧
    Meets .supervisor .configure [2, 0x031F, 1, 0x0428] config (fun s ops => operand ops 0 = 2 ∧
      operand ops 1 / 256 ≤ 3 ∧ operand ops 1 % 256 ≤ 31 ∧ operand ops 3 / 256 ≤ 4 ∧
      operand ops 3 % 256 ≤ 40 ∧ s.display.boundCells = []) ∧
    Meets .supervisor .configure [2, 0x0002, 0, 0] { floor with mode := .config } (fun s ops =>
      operand ops 2 = 0 ∧ ∃ c ∈ s.display.boundCells, s.display.onModule 0 2 c = true) ∧
    Meets .supervisor .configure [3, 10, 0, 0] config (fun _ ops => operand ops 1 ≤ 10) ∧
    Meets .supervisor .configure [4, 16, 0, 0] config (fun _ ops => ¬ operand ops 1 ≤ 15) ∧
    Meets .supervisor .configure [5, 0x0101, 50, 1000] config (fun _ ops =>
      operand ops 1 / 256 ≤ 1 ∧ operand ops 1 % 256 ≤ 1 ∧ operand ops 2 ∈ [50, 60, 75, 80, 100, 120] ∧
      operand ops 3 ∈ [50, 100, 200, 500, 1000]) ∧
    Meets .supervisor .configure [6, 1, 0, 0] config (fun _ ops => operand ops 1 ≤ 1) ∧
    Meets .supervisor .configure [7, 600, 900, 0] config (fun _ ops =>
      10 ≤ operand ops 1 ∧ operand ops 1 ≤ 600 ∧ operand ops 1 < operand ops 2 ∧ operand ops 2 ≤ 900) ∧
    Meets .supervisor .configure [8, 0, 99, 0] config (fun _ ops => ¬ 100 ≤ operandPair ops 1) ∧
    Meets .supervisor .configure [9, 0, 0, 0] config (fun _ ops => 8 < operand ops 0) :=
  ⟨meets (by decide +kernel) (by decide +kernel), meets (by decide +kernel) (by decide +kernel),
    meets (by decide +kernel) (by decide +kernel), meets (by decide +kernel) (by decide +kernel),
    meets (by decide +kernel) (by decide +kernel), meets (by decide +kernel) (by decide +kernel),
    meets (by decide +kernel) (by decide +kernel), meets (by decide +kernel) (by decide +kernel),
    meets (by decide +kernel) (by decide +kernel), meets (by decide +kernel) (by decide +kernel),
    meets (by decide +kernel) (by decide +kernel), meets (by decide +kernel) (by decide +kernel)⟩

theorem test_witness_ModeChanges :
    Meets .supervisor .goLive [] floor (fun s _ => s.mode = .live) ∧
    Meets .supervisor .goLive [] config (fun s _ => s.mode = .config ∧
      (∀ l, l < 4 → (s.display.link l).enabled = false) ∧ (s.ribbon 0).enabled = false ∧
      (s.ribbon 1).enabled = false) ∧
    Meets .supervisor .goLive [] (config.setRibbon 1 { Ribbon.reset with enabled := true }) (fun s _ =>
      s.mode = .config ∧ (s.ribbon 1).enabled = true ∧ s.items.joined = false) ∧
    Meets .supervisor .goConfig [] config (fun s _ => s.mode = .config) ∧
    Meets .supervisor .goConfig [] floor (fun s _ => s.mode = .live ∧ ¬ s.quote.session = .closed) ∧
    Meets .supervisor .goConfig [] (closed.setRibbon 0 { Ribbon.reset with state := .idle }) (fun s _ =>
      s.mode = .live ∧ s.quote.session = .closed ∧ s.tape.ribbon0.queue = [] ∧ s.tape.ribbon1.queue = [] ∧
      s.tape.ribbon0.state = .idle ∧ s.tape.ribbon1.state = .idle ∧
      (∀ e ∈ s.display.links, Table.wf Module.reset e.2.modules = true) ∧
      Table.wf Cell.vacant s.display.cells = true) :=
  ⟨meets (by decide +kernel) (by decide +kernel), meets (by decide +kernel) (by decide +kernel),
    meets (by decide +kernel) (by decide +kernel), meets (by decide +kernel) (by decide +kernel),
    meets (by decide +kernel) (by decide +kernel), meets (by decide +kernel) (by decide +kernel)⟩

theorem test_witness_TimebaseCounts :
    floor.inReset = false ∧ ({ floor with inReset := true } : State).inReset = true ∧
    floor.transit.seconds = 0 ∧
    (let s := { floor.setSeconds 1 with timebase := ⟨0, 0, 86399⟩ };
      s.transit.seconds = 0 + 1 ∧ s.timebase.dayClock ≤ 86399) ∧
    Meets .supervisor .setTime [1, 20863] floor (fun s ops => ops.length = 2 ∧ operandPair ops 0 = 86399 ∧
      s.transit.seconds = 0) ∧
    Meets .supervisor .setTime [1, 20864] floor (fun _ ops => 86399 < operandPair ops 0) :=
  ⟨by decide +kernel, by decide +kernel, by decide +kernel, by decide +kernel,
    meets (by decide +kernel) (by decide +kernel), meets (by decide +kernel) (by decide +kernel)⟩

theorem test_witness_DeviceReset :
    ({ floor with inReset := true } : State).inReset = true ∧ floor.inReset = false := by decide

/-! ### Witnesses: the attention line, refusals by form, frames -/

theorem test_witness_MaskAndSeverityWrites_attention :
    (floor.inReset = false ∧ floor.attention .terminal = true ∧ floor.notices.queue ≠ [] ∧ floor.attention .feed = false) ∧
    ((recorded.port .feed).status.getLsbD 6 = true ∧ (recorded.port .feed).mask.getLsbD 6 = false ∧
      recorded.attention .feed = true) :=
  ⟨by decide +kernel, by decide +kernel⟩

theorem test_witness_ReadCycles_remaining :
    (∀ ws, (floor.port .feed).state ≠ .reply ws) :=
  not_reply (by decide +kernel)

theorem test_witness_RecordsAreLookedUp_refusals :
    Meets .feed .readInstrument [2048] floor (fun _ ops => ops.length = 1 ∧ ¬ operand ops 0 < 2048) ∧
    Meets .terminal .readInstrument [2047] floor (fun s ops =>
      operand ops 0 < 2048 ∧ (s.instr (operand ops 0)).trading = .vacant) ∧
    Meets .feed .findSymbol [0x4142, 0x4300] floor (fun _ ops => ops.length ≠ 3) :=
  ⟨meets (by decide +kernel) (by decide +kernel), meets (by decide +kernel) (by decide +kernel),
    meets (by decide +kernel) (by decide +kernel)⟩

theorem test_witness_DefineInstrumentCreatesTheRecord_threshold :
    (65536 * operand ([0, 0].map num) 0 + operand ([0, 0].map num) 1 = 0) ∧
    (65536 * operand ([0x98, 0x967F].map num) 0 + operand ([0x98, 0x967F].map num) 1 = 9999999) ∧
    (65536 * operand ([0x98, 0x9680].map num) 0 + operand ([0x98, 0x9680].map num) 1 = 10000000) ∧
    (65536 * operand ([0, 99].map num) 0 + operand ([0, 99].map num) 1 = 99) :=
  ⟨by decide +kernel, by decide +kernel, by decide +kernel, by decide +kernel⟩

theorem test_witness_SessionOpensAndCloses_malformed :
    Meets .supervisor .openSession [0] floor (fun _ ops => ops ≠ []) ∧
    Meets .supervisor .closeSession [0] floor (fun _ ops => ops ≠ []) ∧
    Meets .supervisor .rollSession [0] floor (fun _ ops => ops ≠ []) ∧
    Meets .supervisor .goLive [0] floor (fun _ ops => ops ≠ []) ∧
    Meets .supervisor .goConfig [0] floor (fun _ ops => ops ≠ []) ∧
    Meets .supervisor .setTime [0] floor (fun _ ops => ops.length ≠ 2) :=
  ⟨meets (by decide +kernel) (by decide +kernel), meets (by decide +kernel) (by decide +kernel),
    meets (by decide +kernel) (by decide +kernel), meets (by decide +kernel) (by decide +kernel),
    meets (by decide +kernel) (by decide +kernel), meets (by decide +kernel) (by decide +kernel)⟩

theorem test_witness_HaltsAndFastMarkets_refusals :
    Meets .supervisor .halt [312, 16] floor (fun _ ops => ¬ operand ops 1 ≤ 15) ∧
    Meets .supervisor .halt [2047, 15] floor (fun s ops =>
      ops.length = 2 ∧ operand ops 0 < 2048 ∧ operand ops 1 ≤ 15 ∧
      (s.instr (operand ops 0)).trading = .vacant) ∧
    Meets .supervisor .resume [2048] floor (fun _ ops => ¬ operand ops 0 < 2048) ∧
    Meets .supervisor .resume [2047] floor (fun s ops => (s.instr (operand ops 0)).trading = .vacant) ∧
    Meets .supervisor .setFastMarket [312, 0] floor (fun _ ops => ops.length ≠ 1) ∧
    Meets .supervisor .setFastMarket [2047] floor (fun s ops => (s.instr (operand ops 0)).trading = .vacant) ∧
    Meets .supervisor .clearFastMarket [2048] floor (fun _ ops => ¬ operand ops 0 < 2048) ∧
    Meets .supervisor .clearFastMarket [2047] floor (fun s ops =>
      (s.instr (operand ops 0)).trading = .vacant) :=
  ⟨meets (by decide +kernel) (by decide +kernel), meets (by decide +kernel) (by decide +kernel),
    meets (by decide +kernel) (by decide +kernel), meets (by decide +kernel) (by decide +kernel),
    meets (by decide +kernel) (by decide +kernel), meets (by decide +kernel) (by decide +kernel),
    meets (by decide +kernel) (by decide +kernel), meets (by decide +kernel) (by decide +kernel)⟩

theorem test_witness_TapeTextParts_refusals :
    Meets .supervisor .tapeText [] config (fun s _ => s.mode = .config) ∧
    Meets .supervisor .tapeText [0x2001, 0x5000] floor (fun s ops =>
      s.mode = .live ∧ ¬ operand ops 0 / 4096 ≤ 1) ∧
    Meets .supervisor .tapeText [0x0000] floor (fun _ ops => ops.length = 1 ∧ ¬ 1 ≤ operand ops 0 % 256) ∧
    Meets .supervisor .tapeText [0x0001, 0x6100] floor (fun _ ops =>
      ¬ ∀ b ∈ (wordBytes (ops.drop 1)).take 1, isTapeChar b = true) ∧
    Meets .supervisor .tapeText [0x1001, 0x5000] (floor.setRibbon 1 Ribbon.reset) (fun s ops =>
      s.mode = .live ∧ ops.length = 1 + (operand ops 0 % 256 + 1) / 2 ∧ s.inService (operand ops 0 / 4096) = false) ∧
    Meets .supervisor .tapeText [0x1001, 0x5000] { floor with items := { floor.items with joined := true } } (fun s ops =>
      s.inService (operand ops 0 / 4096) = false) ∧
    Meets .supervisor .tapeText [0x0201, 0x5000] ((crowded 256).setTextBuffer (some ⟨0, [0x41]⟩)) (fun s ops =>
      s.mode = .live ∧ s.inService 0 = true ∧ operand ops 0 / 256 % 16 = 2 ∧
      s.ports.textBuffer = some ⟨0, [0x41]⟩ ∧ ¬ (s.ribbon 0).queue.length < 256) :=
  ⟨meets (by decide +kernel) (by decide +kernel), meets (by decide +kernel) (by decide +kernel),
    meets (by decide +kernel) (by decide +kernel), meets (by decide +kernel) (by decide +kernel),
    meets (by decide +kernel) (by decide +kernel), meets (by decide +kernel) (by decide +kernel),
    meets (by decide +kernel) (by decide +kernel)⟩

theorem test_witness_RepaintQueueAppends_panelOf :
    (Table.wf Panel.absent floor.display.panels = true ∧ Table.wf Cell.vacant floor.display.cells = true) ∧
    (floor.display.panelOf 31 = some ⟨true, 1, 16, 16, true⟩ ∧ floor.display.panelOf 32 = none) :=
  ⟨by decide +kernel, by decide +kernel⟩

theorem test_witness_ArbiterChoosesByClass_lowest :
    (let v : Link := { Link.reset with modules := [(2, upModule), (7, upModule)] };
      Table.wf Module.reset v.modules = true ∧
        Table.first (Module.keepAliveDue v.holdSeconds 5000) v.modules = some (2, upModule)) ∧
    (((framed (.sending probe)).display.link 0).line = .sending probe) ∧
    ((floor.display.link 0).line = .free) :=
  ⟨by decide +kernel, by decide +kernel, by decide +kernel⟩

theorem test_witness_TapeQueueAppends_notices :
    ((∀ k ∈ [0, 1], k ≤ 1) ∧ [0, 1].Nodup ∧ (floor.ribbon 0).state ≠ .idle) ∧
    ((∀ k ∈ [1], k ≤ 1) ∧ [1].Nodup ∧ 0 ∉ [1]) :=
  ⟨by decide +kernel, by decide +kernel⟩

theorem test_witness_RibbonEvents_frames :
    (((sending false ⟨[0x41], none, false, false⟩).ribbon 0).state = .sending ⟨[0x41], none, false, false⟩) ∧
    (((sending false ⟨[0x41], some 199, false, false⟩).ribbon 0).state = .sending ⟨[0x41], some 199, false, false⟩ ∧
      (some (199 : Time)) ≠ none) ∧
    ((floor.ribbon 1).state = .idle ∧ floor.items.joined = false) :=
  ⟨by decide +kernel, by decide +kernel, by decide +kernel⟩

theorem test_witness_DescriptorAndLineWrites_malformed :
    Meets .supervisor .writeDescriptor [0, 1, 1, 2, 4095, 17] floor (fun _ ops =>
      ops.length = 6 ∧ ¬ operand ops 5 ≤ 16) ∧
    Meets .supervisor .writeDescriptor [1024, 0, 0, 0, 0, 0] floor (fun _ ops => ¬ operand ops 0 ≤ 1023) ∧
    Meets .supervisor .writeLine [4095, 1, 2048, 2] floor (fun _ ops =>
      ops.length = 4 ∧ operand ops 1 = 1 ∧ ¬ operand ops 2 ≤ 2047) ∧
    Meets .supervisor .writeLine [0, 2, 0, 0] floor (fun _ ops => operand ops 1 ≠ 0 ∧ operand ops 1 ≠ 1) :=
  ⟨meets (by decide +kernel) (by decide +kernel), meets (by decide +kernel) (by decide +kernel),
    meets (by decide +kernel) (by decide +kernel), meets (by decide +kernel) (by decide +kernel)⟩

theorem test_witness_LinesAreWrittenThroughSelectors_refusals :
    Meets .terminal .writePageLine [64] config (fun s _ => s.mode = .config) ∧
    Meets .terminal .writePageLine [5, 0, 7, 16, 0, 0, 0] floor (fun s ops =>
      s.mode = .live ∧ ops.length = 7 ∧ ¬ operand ops 3 ≤ 15) :=
  ⟨meets (by decide +kernel) (by decide +kernel), meets (by decide +kernel) (by decide +kernel)⟩

theorem test_witness_PagesOpenAndClose_refusals :
    Meets .terminal .setLocalTable [64] config (fun s _ => s.mode = .config) ∧
    Meets .terminal .openPage [64] config (fun s _ => s.mode = .config) ∧
    Meets .terminal .closePage [64] config (fun s _ => s.mode = .config) ∧
    Meets .terminal .setLocalTable [5, 128] floor (fun s ops =>
      s.mode = .live ∧ ops.length = 2 ∧ ¬ operand ops 1 ≤ 127) ∧
    Meets .terminal .openPage [64, 0, 7] floor (fun s ops => s.mode = .live ∧ ¬ operand ops 0 ≤ 63) ∧
    Meets .terminal .closePage [5, 0] floor (fun s ops => s.mode = .live ∧ ops.length ≠ 1) ∧
    Meets .supervisor .closePage [64] config (fun s ops => s.mode = .config ∧ ¬ operand ops 0 ≤ 63) :=
  ⟨meets (by decide +kernel) (by decide +kernel), meets (by decide +kernel) (by decide +kernel),
    meets (by decide +kernel) (by decide +kernel), meets (by decide +kernel) (by decide +kernel),
    meets (by decide +kernel) (by decide +kernel), meets (by decide +kernel) (by decide +kernel),
    meets (by decide +kernel) (by decide +kernel)⟩

theorem test_witness_LinesAreRead_refusals :
    Meets .terminal .readChangedLine [64] config (fun s _ => s.mode = .config) ∧
    Meets .terminal .readLine [64] config (fun s _ => s.mode = .config) ∧
    Meets .terminal .readChangedLine [64] floor (fun s ops => s.mode = .live ∧ ¬ operand ops 0 ≤ 63) ∧
    Meets .terminal .readLine [5, 16] floor (fun s ops =>
      s.mode = .live ∧ ops.length = 2 ∧ ¬ operand ops 1 ≤ 15) :=
  ⟨meets (by decide +kernel) (by decide +kernel), meets (by decide +kernel) (by decide +kernel),
    meets (by decide +kernel) (by decide +kernel), meets (by decide +kernel) (by decide +kernel)⟩

theorem test_witness_NoticesRaiseMaskAndTake_refusals :
    Meets .terminal .setNoticeMask [2] config (fun s _ => s.mode = .config) ∧
    Meets .terminal .takeNotice [0] config (fun s _ => s.mode = .config) ∧
    Meets .terminal .setNoticeMask [0, 64, 1] floor (fun s ops =>
      s.mode = .live ∧ operand ops 0 = 0 ∧ ¬ operand ops 1 ≤ 63) ∧
    Meets .terminal .setNoticeMask [2, 0, 1] floor (fun _ ops => operand ops 0 ≠ 0 ∧ operand ops 0 ≠ 1) ∧
    Meets .terminal .takeNotice [0] floor (fun s ops => s.mode = .live ∧ ops ≠ []) :=
  ⟨meets (by decide +kernel) (by decide +kernel), meets (by decide +kernel) (by decide +kernel),
    meets (by decide +kernel) (by decide +kernel), meets (by decide +kernel) (by decide +kernel),
    meets (by decide +kernel) (by decide +kernel)⟩

theorem test_witness_ConfigureReplacesItems_malformed :
    Meets .supervisor .configure [1, 4, 1, 0] floor (fun _ ops => operand ops 0 = 1 ∧ ¬ operand ops 1 ≤ 3) ∧
    Meets .supervisor .configure [2, 0x0320, 1, 0] config (fun _ ops =>
      operand ops 0 = 2 ∧ ¬ operand ops 1 % 256 ≤ 31) ∧
    Meets .supervisor .configure [5, 0x0200, 0, 0] config (fun _ ops =>
      operand ops 0 = 5 ∧ ¬ operand ops 1 / 256 ≤ 1) ∧
    Meets .supervisor .configure [6, 2, 0, 0] config (fun _ ops => operand ops 0 = 6 ∧ ¬ operand ops 1 ≤ 1) ∧
    Meets .supervisor .configure [3, 10, 0] config (fun _ ops => ops.length ≠ 4) ∧
    Meets .supervisor .configure [0, 0, 0, 0] config (fun _ ops => operand ops 0 = 0) :=
  ⟨meets (by decide +kernel) (by decide +kernel), meets (by decide +kernel) (by decide +kernel),
    meets (by decide +kernel) (by decide +kernel), meets (by decide +kernel) (by decide +kernel),
    meets (by decide +kernel) (by decide +kernel), meets (by decide +kernel) (by decide +kernel)⟩

theorem chain_of {l : List Print}
    (h : (l.zip (l.drop 1)).all (fun e => decide (e.2.number = successor e.1.number)) = true) (k : Nat)
    (p q : Print) (hp : l[k]? = some p) (hq : l[k + 1]? = some q) : q.number = successor p.number := by
  have hm : (l.zip (l.drop 1))[k]? = some (p, q) := by
    rw [List.getElem?_zip_eq_some]
    exact ⟨hp, by rw [List.getElem?_drop, Nat.add_comm]; exact hq⟩
  have := List.all_eq_true.1 h _ (List.mem_of_getElem? hm)
  simpa using this

/-- The parts of `Instrument.derived` that a finite check decides. -/
def derivedCheck (v : Instrument) : Bool :=
  decide (v.high = greatest (priceCollection v)) && decide (v.low = least (priceCollection v)) &&
    decide (v.last = derivedLast v) && decide (v.tick = derivedTick v) &&
    decide (v.quoteCondition = quoteConditionOf v.bid v.ask v.fast) && decide (v.prints.length ≤ 8) &&
    decide (1 ≤ v.nextNumber ∧ v.nextNumber ≤ 65535) &&
    decide (∀ p ∈ v.prints, 1 ≤ p.number ∧ p.number ≤ 65535) &&
    (v.prints.zip (v.prints.drop 1)).all (fun e => decide (e.2.number = successor e.1.number)) &&
    decide (∀ p ∈ v.prints.getLast?, v.nextNumber = successor p.number)

theorem derived_of {v : Instrument} (h : derivedCheck v = true) : v.derived := by
  simp only [derivedCheck, Bool.and_eq_true, decide_eq_true_eq] at h
  obtain ⟨⟨⟨⟨⟨⟨⟨⟨⟨h1, h2⟩, h3⟩, h4⟩, h5⟩, h6⟩, h7⟩, h8⟩, h9⟩, h10⟩ := h
  exact ⟨h1, h2, h3, h4, h5, h6, h7, h8, chain_of h9, fun p hp => h10 p hp⟩

theorem floor_instr (i : Nat) (h1 : i ≠ 77) (h2 : i ≠ 312) (h3 : i ≠ 400) : floor.instr i = Instrument.vacant := by
  simp [State.instr, floor, Table.get, Ne.symm h1, Ne.symm h2, Ne.symm h3]

theorem floor_context (t : Nat) (h : t ≠ 5) : floor.context t = Context.reset := by
  simp [State.context, floor, Table.get, Ne.symm h]

theorem test_witness_RecordsStayDerived :
    ({ floor with pending := [.tick] } : State).recordsDerived ∧
      ∃ t, step { floor with pending := [.tick] } = .next t := by
  refine ⟨⟨by decide +kernel, fun i => ?_⟩, _, rfl⟩
  show (floor.instr i).derived
  by_cases h1 : i = 77
  · subst h1; exact derived_of (by decide +kernel)
  by_cases h2 : i = 312
  · subst h2; exact derived_of (by decide +kernel)
  by_cases h3 : i = 400
  · subst h3; exact derived_of (by decide +kernel)
  rw [floor_instr i h1 h2 h3]
  exact derived_of (by decide +kernel)

theorem test_witness_ViewerSetsFollowOpenPages :
    ({ floor with pending := [.noticeRaise] } : State).viewersFollowPages ∧
      ∃ t, step { floor with pending := [.noticeRaise] } = .next t := by
  have h5 : floor.context 5 = ⟨some ⟨200, 4, 2⟩, some ⟨⟨true, 2⟩, [some ⟨312, .full⟩, none, none], [0]⟩⟩ := by
    decide +kernel
  refine ⟨⟨by decide +kernel, fun i t => ?_, fun i => ?_, fun t p hp => ?_⟩, _, rfl⟩
  · show t ∈ (floor.instr i).viewers ↔ ∃ p f, (floor.context t).page = some p ∧ some ⟨i, f⟩ ∈ p.snapshot
    have hv : (floor.instr i).viewers = if i = 312 then [5] else [] := by
      by_cases h1 : i = 77
      · subst h1; decide +kernel
      by_cases h2 : i = 312
      · subst h2; decide +kernel
      by_cases h3 : i = 400
      · subst h3; decide +kernel
      rw [floor_instr i h1 h2 h3, if_neg h2]
      rfl
    by_cases ht : t = 5
    · subst ht
      rw [hv, h5]
      by_cases h2 : i = 312 <;> simp [h2]
    · rw [hv, floor_context t ht]
      by_cases h2 : i = 312 <;> simp [h2, ht, Context.reset]
  · show (floor.instr i).viewers.Pairwise (· < ·)
    by_cases h1 : i = 77
    · subst h1; decide +kernel
    by_cases h2 : i = 312
    · subst h2; decide +kernel
    by_cases h3 : i = 400
    · subst h3; decide +kernel
    rw [floor_instr i h1 h2 h3]
    exact List.Pairwise.nil
  · change (floor.context t).page = some p at hp
    by_cases ht : t = 5
    · subst ht
      rw [h5] at hp
      cases hp
      decide
    · rw [floor_context t ht] at hp
      cases hp

theorem pricesOnGrid_of (v : Instrument) (h : (storedPrices v).all
    (fun x => decide (x ≤ 2559999) && decide (x % v.denominator.grid = 0)) = true) : v.pricesOnGrid := by
  intro _ x hx
  simpa using List.all_eq_true.1 h x hx

theorem floor_directory : floor.directoryKept := by
  have hmem : ∀ e, e ∈ floor.quote.directory ↔ e = ⟨[0x41, 0x42, 0x43], some 0x41, 77⟩ ∨
      e = ⟨[0x44, 0x45, 0x46], none, 400⟩ ∨ e = ⟨[0x58, 0x59, 0x5A], none, 312⟩ := by
    intro e
    simp [floor]
  have h77 : (floor.instr 77).trading ≠ .vacant ∧ (floor.instr 77).symbol = some [0x41, 0x42, 0x43] ∧
      (floor.instr 77).cls = some 0x41 := by decide +kernel
  have h400 : (floor.instr 400).trading ≠ .vacant ∧ (floor.instr 400).symbol = some [0x44, 0x45, 0x46] ∧
      (floor.instr 400).cls = none := by decide +kernel
  have h312 : (floor.instr 312).trading ≠ .vacant ∧ (floor.instr 312).symbol = some [0x58, 0x59, 0x5A] ∧
      (floor.instr 312).cls = none := by decide +kernel
  refine ⟨by decide +kernel, fun e => ?_, fun i hi => ?_⟩
  · rw [hmem e]
    obtain ⟨symbol, cls, i⟩ := e
    by_cases h1 : i = 77
    · subst h1
      simp [h77, eq_comm]
    by_cases h2 : i = 312
    · subst h2
      simp [h312, eq_comm]
    by_cases h3 : i = 400
    · subst h3
      simp [h400, eq_comm]
    simp [h1, h2, h3, floor_instr i h1 h2 h3, Instrument.vacant]
  · by_cases h1 : i = 77
    · subst h1
      exact ⟨by decide, by rw [h77.2.1]; rfl⟩
    by_cases h2 : i = 312
    · subst h2
      exact ⟨by decide, by rw [h312.2.1]; rfl⟩
    by_cases h3 : i = 400
    · subst h3
      exact ⟨by decide, by rw [h400.2.1]; rfl⟩
    exact absurd (by rw [floor_instr i h1 h2 h3]; rfl) hi

theorem floor_wellKept : floor.wellKept := by
  refine ⟨fun p => ?_, ?_, ?_, ?_, ?_, by decide +kernel, floor_directory, fun i => ?_⟩
  · unfold Port.errorWordsNamed
    cases p <;> decide +kernel
  · unfold Notices.ordered
    decide +kernel
  · unfold State.tapesFit
    decide +kernel
  · intro h
    cases h
  · unfold State.timeInRange
    decide +kernel
  · by_cases h1 : i = 77
    · subst h1; exact pricesOnGrid_of _ (by decide +kernel)
    by_cases h2 : i = 312
    · subst h2; exact pricesOnGrid_of _ (by decide +kernel)
    by_cases h3 : i = 400
    · subst h3; exact pricesOnGrid_of _ (by decide +kernel)
    rw [floor_instr i h1 h2 h3]
    exact fun h => absurd rfl h

theorem test_witness_EveryStepKeepsTheInvariants :
    ({ floor with pending := [.tick] } : State).wellKept ∧
      ∃ t, step { floor with pending := [.tick] } = .next t :=
  ⟨⟨floor_wellKept.1, floor_wellKept.2, floor_wellKept.3, floor_wellKept.4, floor_wellKept.5, floor_wellKept.6,
    floor_wellKept.7, floor_wellKept.8⟩, _, rfl⟩

theorem floor_cell (c : Nat) (h1 : c ≠ 1) (h2 : c ≠ 2) (h3 : c ≠ 16) : floor.display.cell c = Cell.vacant := by
  simp [Display.cell, floor, Table.get, Ne.symm h1, Ne.symm h2, Ne.symm h3]

/-- A property of every cell of `floor`, from the three BOUND ones and the vacant record. -/
theorem floor_cells {P : Nat → Cell → Prop} (h1 : P 1 (floor.display.cell 1)) (h2 : P 2 (floor.display.cell 2))
    (h3 : P 16 (floor.display.cell 16)) (h : ∀ c, c ≠ 1 → c ≠ 2 → c ≠ 16 → P c Cell.vacant) (c : Nat) :
    P c (floor.display.cell c) := by
  by_cases c1 : c = 1
  · subst c1; exact h1
  by_cases c2 : c = 2
  · subst c2; exact h2
  by_cases c3 : c = 16
  · subst c3; exact h3
  rw [floor_cell c c1 c2 c3]
  exact h c c1 c2 c3

/-- A binding list of `floor`: it is strung, and holds of the three BOUND cells just those its owner has. -/
theorem floor_lists (head : Option Nat) (owns : CellField → Bool) (l : List Nat)
    (hl : floor.display.bindingList head = l) (hs : floor.display.strung head l) (hn : l.Nodup)
    (hb : ∀ c ∈ l, c ∈ [1, 2, 16]) (h : ∀ c ∈ [1, 2, 16], c ∈ l ↔ owns (floor.display.cell c).field = true) :
    floor.display.lists head owns := by
  unfold Display.lists
  rw [hl]
  refine ⟨hs, hn, fun c => ?_⟩
  by_cases hc : c ∈ [1, 2, 16]
  · have hbound : (floor.display.cell c).bound = true :=
      (by decide +kernel : ∀ x ∈ [1, 2, 16], (floor.display.cell x).bound = true) c hc
    simp only [hbound, true_and]
    exact h c hc
  · have hv : floor.display.cell c = Cell.vacant := by
      simp only [List.mem_cons, List.not_mem_nil, or_false, not_or] at hc
      exact floor_cell c hc.1 hc.2.1 hc.2.2
    rw [hv]
    exact ⟨fun hm => absurd (hb c hm) hc, fun hm => absurd hm.1 (by decide)⟩

theorem floor_panel (n : Nat) (h0 : n ≠ 0) (h1 : n ≠ 1) : floor.display.panel n = Panel.absent := by
  simp [Display.panel, floor, Table.get, Ne.symm h0, Ne.symm h1]

theorem floor_panels : floor.display.panelsKept := by
  have hc0 : ∀ c, (floor.display.panel 0).covers c = true ↔ c < 16 := by
    intro c
    simp [Display.panel, floor, Table.get, Panel.covers]
  have hc1 : ∀ c, (floor.display.panel 1).covers c = true ↔ 16 ≤ c ∧ c < 32 := by
    intro c
    simp [Display.panel, floor, Table.get, Panel.covers]
  have hno : ∀ c, ¬ Panel.absent.covers c = true := by
    intro c
    simp [Panel.covers, Panel.absent]
  refine ⟨fun n hn => ?_, fun n m c hn hm => ?_⟩
  · by_cases n0 : n = 0
    · subst n0; decide +kernel
    by_cases n1 : n = 1
    · subst n1; decide +kernel
    rw [floor_panel n n0 n1] at hn
    exact absurd hn (by decide)
  · have key : ∀ k, (floor.display.panel k).covers c = true → k = 0 ∧ c < 16 ∨ k = 1 ∧ 16 ≤ c := by
      intro k hk
      by_cases k0 : k = 0
      · subst k0; exact .inl ⟨rfl, (hc0 c).1 hk⟩
      by_cases k1 : k = 1
      · subst k1; exact .inr ⟨rfl, ((hc1 c).1 hk).1⟩
      rw [floor_panel k k0 k1] at hk
      exact absurd hk (hno c)
    have := key n hn
    have := key m hm
    omega

theorem floor_boardKept : floor.boardKept := by
  refine ⟨by decide +kernel, ⟨by decide +kernel, by decide +kernel, by decide +kernel⟩, floor_panels, ⟨?_, ?_, ?_⟩,
    ⟨?_, ?_, ?_⟩, ⟨by decide +kernel, ?_⟩, fun i => ?_, ?_⟩
  · exact floor_cells (P := fun _ v => v.bound = false → v = Cell.vacant) (by decide +kernel) (by decide +kernel)
      (by decide +kernel) (fun _ _ _ _ _ => rfl)
  · have place : ∀ c ∈ [1, 2, 16], ∀ p, floor.display.panelOf c = some p →
        let e := (floor.display.link p.link).module (floor.display.cell c).address
        e.state ≠ .unconfigured ∧ (floor.display.cell c).row ≤ e.rows ∧
          (floor.display.cell c).column + (floor.display.cell c).width - 1 ≤ e.columns := by decide +kernel
    intro c hb
    have hc : c ∈ [1, 2, 16] := by
      by_contra hc
      simp only [List.mem_cons, List.not_mem_nil, or_false, not_or] at hc
      rw [floor_cell c hc.1 hc.2.1 hc.2.2] at hb
      cases hb
    refine ⟨(by decide : ∀ x ∈ [1, 2, 16], x < 4096) c hc, ?_⟩
    have hp : (floor.display.panelOf c).isSome = true :=
      (by decide +kernel : ∀ x ∈ [1, 2, 16], (floor.display.panelOf x).isSome = true) c hc
    obtain ⟨p, hp⟩ := Option.isSome_iff_exists.1 hp
    exact ⟨p, hp, place c hc p hp⟩
  · have apart : ∀ b ∈ [1, 2, 16], ∀ c ∈ [1, 2, 16], b ≠ c → floor.display.linkOf b = floor.display.linkOf c →
        (floor.display.cell b).row ≠ (floor.display.cell c).row := by decide +kernel
    have bound : ∀ c, (floor.display.cell c).bound = true → c ∈ [1, 2, 16] := by
      intro c hb
      by_contra hc
      simp only [List.mem_cons, List.not_mem_nil, or_false, not_or] at hc
      rw [floor_cell c hc.1 hc.2.1 hc.2.2] at hb
      cases hb
    exact fun b c hn hb hc hl _ hr => absurd hr (apart b (bound b hb) c (bound c hc) hn hl)
  · intro l
    by_cases hl : l = 0
    · subst hl; decide +kernel
    · simp [Display.queue, floor, Table.get, Ne.symm hl]
  · intro c l
    have hq : floor.display.queue l = if l = 0 then [2] else [] := by
      simp [Display.queue, floor, Table.get, eq_comm]
    rw [hq]
    by_cases hc : c = 2
    · subst hc
      have h2 : (floor.display.cell 2).queued = true ∧ floor.display.linkOf 2 = some 0 := by decide +kernel
      by_cases hl : l = 0 <;> simp [hl, h2, eq_comm]
    · have hv : (floor.display.cell c).queued = false :=
        floor_cells (P := fun c v => c ≠ 2 → v.queued = false) (by decide +kernel) (fun h => absurd rfl h)
          (by decide +kernel) (fun _ _ _ _ _ => rfl) c hc
      by_cases hl : l = 0 <;> simp [hl, hv, hc]
  · intro c hq
    have hc : c = 2 := by
      by_contra hc
      rw [floor_cells (P := fun c v => c ≠ 2 → v.queued = false) (by decide +kernel) (fun h => absurd rfl h)
        (by decide +kernel) (fun _ _ _ _ _ => rfl) c hc] at hq
      cases hq
    subst hc
    decide +kernel
  · intro c
    have hv : (floor.display.cell c).expiry = none :=
      floor_cells (P := fun _ v => v.expiry = none) (by decide +kernel) (by decide +kernel) (by decide +kernel)
        (fun _ _ _ _ => rfl) c
    rw [hv]
    simp [floor]
  · by_cases h2 : i = 312
    · subst h2
      refine floor_lists _ _ [1, 16] (by decide +kernel) ?_ (by decide) (by decide) (by decide +kernel)
      exact ⟨rfl, rfl, trivial⟩
    · have hn : (floor.instr i).bindHead = none := by
        by_cases h1 : i = 77
        · subst h1; decide +kernel
        by_cases h3 : i = 400
        · subst h3; decide +kernel
        rw [floor_instr i h1 h2 h3]
        rfl
      rw [hn]
      refine floor_lists _ _ [] (by decide +kernel) trivial (by decide) (by decide) fun c hc => ?_
      have hf : ∀ x ∈ [1, 2, 16], ∀ f, (floor.display.cell x).field = f →
          f = .instrument .last 312 ∨ f = .clock ∨ f = .instrument .bid 312 := by
        simp only [forall_eq']
        decide +kernel
      rcases hf c hc _ rfl with h | h | h <;> simp [h, CellField.ofInstrument, Ne.symm h2]
  · refine floor_lists _ _ [2] (by decide +kernel) ?_ (by decide) (by decide) (by decide +kernel)
    exact ⟨rfl, trivial⟩

theorem test_witness_BoardStaysInOrder :
    let s : State := { floor with pending := [.panelDark .supervisor (final .panelDark [0]) .now] }
    s.wellKept ∧ s.boardKept ∧ ∃ t, step s = .next t :=
  ⟨⟨floor_wellKept.1, floor_wellKept.2, floor_wellKept.3, floor_wellKept.4, floor_wellKept.5, floor_wellKept.6,
    floor_wellKept.7, floor_wellKept.8⟩,
    ⟨floor_boardKept.1, floor_boardKept.2, floor_boardKept.3, floor_boardKept.4, floor_boardKept.5,
      floor_boardKept.6, floor_boardKept.7, floor_boardKept.8⟩, _, rfl⟩

/-! ### The manual's examples -/

/-- The next state of a command; every command has one (no arm refuses). -/
def after (c : Instr) (s : State) : State :=
  match exec c s with
  | .next t => t
  | .fault _ => s
  | .refused _ => s

/-- The reply that the engine of a request holds (R163). -/
def reply (p : PortId) (r : Request) (ops : List Nat) (s : State) : List Word :=
  match ((after (r.row p (final r ops) .now) (asked p r ops s)).port p).state with
  | .working (.taken ws) _ => ws
  | .working (.handed _ _) _ => []
  | .idle => []
  | .collecting _ _ _ => []
  | .reply _ => []

/-- 02_price_arithmetic_and_rendering.md, worked sequence: 46⅜ is 11,872 units. -/
theorem test_price_46_and_3_eighths : priceOperand ([46, 0x8003].map num) 0 = some 11872 := by decide +kernel
/-- R32: 46⅜ on the tape. -/
theorem test_priceText_46_and_3_eighths : priceText 11872 = [0x34, 0x36, 0x82] := by decide +kernel
/-- R32: a whole of 0 is not written beside a fraction. -/
theorem test_priceText_3_eighths : priceText 96 = [0x82] := by decide +kernel
/-- R33: a net change of -12 3/16 overflows a width of 6 (R39). -/
theorem test_fit_overflow : fit 6 .right [0x2D, 0x31, 0x32, 0x20, 0x33, 0x2F, 0x31, 0x36] = List.replicate 6 0x89 := by
  decide +kernel
/-- 02, worked sequence: UP replaces DOWN, so reversal becomes yes. -/
theorem test_tick_reverses : tickFunction 11872 (some 11648) .down = .up ∧ reversalOf .up .down = true := by decide
/-- R42: with E 65,534 and s 2 the report is a GAP, with E 2 and s 65,534 a DUPLICATE. -/
theorem test_sequence_gap : classify (some 65534) 2 = .gap ∧ classify (some 2) 65534 = .duplicate := by
  decide +kernel
/-- R29: a sum of exactly 999,999,999 does not set the saturation mark. -/
theorem test_volume_does_not_saturate : volumeAfter 999999998 false 0 1 = (999999999, false) := by decide
/-- R123: "OOS XYZ.A 150SHS 12 3/16" is 24 characters long. -/
theorem test_print_block_length :
    (printBlock { xyz with cls := some 0x41 } ⟨true, 3120, 150⟩ true false).length = 24 := by decide +kernel
/-- R124: with reference 45 the price 46⅜ prints as "6⅜". -/
theorem test_shortened_price :
    shortens .digitsDeleted (some 45) 11872 = true ∧ shortPrice 11872 = [0x36, 0x82] ∧
      shortens .digitsDeleted (some 39) 11872 = false := by decide +kernel
/-- R128: 11 characters at 80 ms load 1,040 ms. -/
theorem test_pacing_count : pacingCount 80 (List.replicate 11 0x41) = 1040 := by decide
/-- 07, worked sequence, starts 2, 4, 5 and 6: the mode after. -/
theorem test_late_modes :
    newLateMode 60000 120000 .normal 60500 = .digitsDeleted ∧
    newLateMode 60000 120000 .digitsDeleted 126000 = .digitsVolumeDeleted ∧
    newLateMode 60000 120000 .digitsVolumeDeleted 60000 = .digitsDeleted ∧
    newLateMode 60000 120000 .digitsDeleted 28000 = .normal := by decide
/-- R171: the check byte is the sum of every earlier byte; the acknowledgement of a unit is 06h, 06h. -/
theorem test_frames :
    boardFrame 3 .hold = [0x03, 0x02, 0x05] ∧ blockFrame [0x41, 0x42] = [0x02, 0x02, 0x41, 0x42, 0x87] ∧
      isRibbonAck 0x06 0x06 = true ∧ isRibbonAck 0x06 0x07 = false := by decide

/-! ### One command each -/

/-- R178: after device reset no link is enabled and no ribbon eligible, so GO LIVE is BUSY (23h). -/
theorem test_goLive_busy : reply .supervisor .goLive [] State.reset = [0x2300] := by decide +kernel
/-- R174, R176: a TRADE REPORT accepted answers DONE with its print number. -/
theorem test_tradeReport_reply : reply .feed .tradeReport (trade 100 312 48) floor = [0x0001, 3] := by
  decide +kernel
/-- R43: a GAP moves E past the report and records SEQUENCE_GAP, position 6. -/
theorem test_tradeReport_gap :
    (let t := after (.tradeReport .feed 0 .now) (asked .feed .tradeReport (trade 102 312 48) floor);
      t.quote.expectation = some 103 ∧ (t.port .feed).status = 0x40) := by decide +kernel
/-- R5: the ninth print pushes the oldest out, which folds into the anchors. -/
theorem test_tradeReport_ninth_print :
    (let t := after (.tradeReport .feed 0 .now) (asked .feed .tradeReport (trade 100 400 48) floor);
      (t.instr 400).prints.length = 8 ∧ (t.instr 400).anchorLast.isSome = true ∧
        t.transit.departures.map (·.number) = [65531]) := by decide +kernel
/-- R56, R57: a bid above the ask is accepted, and the condition is CROSSED. -/
theorem test_quoteReport_crossed :
    (let t := after (.quoteReport .feed 1 .now)
        (asked .feed .quoteReport [100, 312, 47, 0x8000, 46, 0x8000, 1, 1] floor);
      (t.instr 312).quoteCondition = .crossed) := by decide +kernel
/-- R45: SEQUENCE RESET with 0 unsets E and answers 0. -/
theorem test_sequenceReset_unsets :
    (after (.sequenceReset .feed 0 .now) (asked .feed .sequenceReset [0] floor)).quote.expectation = none ∧
      reply .feed .sequenceReset [0] floor = [0x0001, 0] := by decide +kernel
/-- R17, R174: bytes 0 to 7 of the READ INSTRUMENT reply of XYZ. -/
theorem test_readInstrument_bytes :
    wordBytes (((reply .terminal .readInstrument [312] floor).drop 1).take 4) =
      [0x58, 0x59, 0x5A, 0, 0, 0x40, 0x10, 0x01] := by decide +kernel
/-- R11: FIND SYMBOL finds the class. -/
theorem test_findSymbol : reply .feed .findSymbol [0x4142, 0x4300, 0x41] floor = [0x0001, 77] := by decide +kernel
/-- R12: a symbol that stands in the directory is DUPLICATE_SYMBOL (1Ch). -/
theorem test_defineInstrument_duplicate :
    reply .supervisor .defineInstrument [9, 0x5859, 0x5A00, 0, 0, 0, 0, 0, 0, 0] floor = [0x1C00] := by
  decide +kernel
/-- R14: a new previous close is BUSY (23h) while the session is OPEN. -/
theorem test_modifyInstrument_busy :
    reply .supervisor .modifyInstrument [77, 0, 0, 0, 0, 0, 20, 0x8000] floor = [0x2300] := by decide +kernel
/-- R16: an instrument with a viewer or a cell is IN_USE (1Bh). -/
theorem test_removeInstrument_in_use : reply .supervisor .removeInstrument [312] floor = [0x1B00] := by
  decide +kernel
/-- R20: ROLL SESSION is BUSY while the session is OPEN. -/
theorem test_rollSession_busy : reply .supervisor .rollSession [] floor = [0x2300] := by decide +kernel
/-- R20: a roll takes last as the previous close and empties the print list. -/
theorem test_rollRecord :
    (let t := after .rollRecord (closed.setRolling [312]);
      (t.instr 312).prevClose = some 12128 ∧ (t.instr 312).prints = [] ∧ (t.instr 312).carriedTick = .up ∧
        t.quote.rolling = []) := by decide +kernel
/-- R61: HALT appends "XYZ HALTED" to the carrying ribbon. -/
theorem test_halt_notice :
    (let t := after (.halt .supervisor 7 .now) (asked .supervisor .halt [312, 7] floor);
      (t.instr 312).trading = .halted 7 ∧ (t.ribbon 0).queue.getLast? =
        some (.notice [0x58, 0x59, 0x5A, 0x20, 0x48, 0x41, 0x4C, 0x54, 0x45, 0x44] 0 (some 312))) := by
  decide +kernel
/-- R67, R71: a cancel of the newest print falls back to the one before and withdraws the queued entry. -/
theorem test_cancelPrint :
    (let t := after (.cancelPrint .supervisor 2 .now) (asked .supervisor .cancelPrint [312, 2] floor);
      (t.instr 312).last = some ⟨11776, 1200⟩ ∧ (t.instr 312).high = some 11776 ∧
        (t.ribbon 0).queue = [.notice [0x41] 0 none]) ∧
    reply .supervisor .cancelPrint [312, 2] floor = [0x0001, 1] := by decide +kernel
/-- R71: a committed print is canceled by a notice. -/
theorem test_cancelPrint_committed : reply .supervisor .cancelPrint [312, 1] floor = [0x0001, 2] := by
  decide +kernel
/-- R64: a print 8 or more behind is TOO_OLD (19h). -/
theorem test_cancelPrint_too_old : reply .supervisor .cancelPrint [400, 65530] floor = [0x1900] := by
  decide +kernel
/-- R81 check 6: cells that share a column are refused OVERLAP (1Dh). -/
theorem test_defineCell_overlap :
    reply .supervisor .defineCell [3, 2, 1, 8, 1, 17, 0, 0, 0] floor = [0x1D00] := by decide +kernel
/-- R86, R87: a panel made dark appends its paintable cells that are not queued. -/
theorem test_panelDark :
    (after (.panelDark .supervisor 0 .now) (asked .supervisor .panelDark [0] floor)).display.queue 0 = [2, 1] := by
  decide +kernel
/-- R88, R89, R91: a change of LAST highlights cell 1, and the free link takes it and sends "47⅜", highlighted. -/
theorem test_boardHandoff :
    (let s := { floor with
        display := { floor.display.setCell 2 { floor.display.cell 2 with queued := false } with repaint := [] } };
      let t := after .boardHandoff (s.handOn 312 [.last] true);
      t.display.highlights = [1] ∧ (t.display.cell 1).expiry = some 3000 ∧ t.display.queue 0 = [] ∧
        (t.display.link 0).line = .sending ⟨2, .write 1 1 ⟨true, false⟩
          [0x20, 0x20, 0x20, 0x20, 0x20, 0x34, 0x37, 0x82], .write, true⟩) := by decide +kernel
/-- R103: a module that does not answer goes DOWN, and MODULE_DOWN, position 2, is recorded. -/
theorem test_moduleAckTimeout :
    (let t := after (.moduleAckTimeout 0) (framed (.inFlight probe 49));
      ((t.display.link 0).module 2).state = .down ∧ (t.port .supervisor).status = 0x04) := by decide +kernel
/-- R102: an acknowledgement with another module's address is ignored. -/
theorem test_moduleAcknowledgement_other :
    after (.moduleAcknowledgement 0 0x83 0x83) (framed (.inFlight probe 50)) = framed (.inFlight probe 50) := by
  decide +kernel
/-- R174: READ LINK of link 0: RUNNING, module 2 UP in bits 7 to 4 of the first module word. -/
theorem test_readLink : (reply .supervisor .readLink [0] floor).take 3 = [0x0009, 0x0002, 0x0010] := by
  decide +kernel
/-- R128, R132: with the pair JOINED the second acknowledgement completes the block, which is paced. -/
theorem test_ribbonAcknowledgement_joined :
    ((after (.ribbonAcknowledgement 1 0x06 0x06) (sending true ⟨[0x41], some 200, true, false⟩)).ribbon 0).pacing =
      240 := by decide +kernel
/-- R129: the deadline puts the ribbon in FAULT with its block. -/
theorem test_ribbonAckTimeout :
    ((after (.ribbonAckTimeout 0) (sending false ⟨[0x41], some 199, false, false⟩)).ribbon 0).state =
      .fault [0x41] := by decide +kernel
/-- R119: the end of the pacing count makes an entry start, which sends "XYZ 3s 47⅜". -/
theorem test_pacingCountEnd :
    ((after (.pacingCountEnd 0) (floor.setRibbon 0 { floor.ribbon 0 with pacing := 0 })).ribbon 0).inFlight.map
      (·.text) = some [0x58, 0x59, 0x5A, 0x20, 0x33, 0x73, 0x20, 0x34, 0x37, 0x82] := by decide +kernel
/-- R174: READ RIBBON of ribbon 0: PACING, two entries, 80 ms. -/
theorem test_readRibbon : reply .supervisor .readRibbon [0] floor = [0x0005, 0x0003, 2, 80, 0, 0] := by
  decide +kernel
/-- R137: a LOCAL_TABLE in a slot above 127 is WRONG_KIND (20h). -/
theorem test_writeDescriptor_wrong_kind :
    reply .supervisor .writeDescriptor [128, 2, 1, 0, 128, 1] floor = [0x2000] := by decide +kernel
/-- R146: the T-port may not alter a page of alter rank 1; RANK, position 2, is recorded. -/
theorem test_writePageLine_rank :
    reply .terminal .writePageLine (writeThrough 7 0 1) floor = [0x2200] ∧
      ((after (.writePageLine .terminal 0 .now)
        (asked .terminal .writePageLine (writeThrough 7 0 1) floor)).port .terminal).status = 0x04 := by
  decide +kernel
/-- R143: OPEN PAGE replaces the open page, and the terminal joins the viewer set of 77. -/
theorem test_openPage :
    (let t := after (.openPage .terminal 7 .now) (asked .terminal .openPage [5, 0, 7] floor);
      (t.instr 77).viewers = [5] ∧ (t.instr 312).viewers = [5] ∧ t.transit.raises = [5]) := by decide +kernel
/-- R148: the lowest dirty offset is returned, with none left. -/
theorem test_readChangedLine :
    (reply .terminal .readChangedLine [5] floor).take 3 = [0x0016, 0x0102, 0x0000] := by decide +kernel
/-- 09, worked sequence: the clearing of the global mask releases 5 and 20, and 9 stays pending. -/
theorem test_setNoticeMask_global :
    (let s := { floor with
        notices := { masks := [(9, true)], globalMask := true, waiting := [5, 9, 20], queue := [] } };
      (after (.setNoticeMask .terminal 0 .now) (asked .terminal .setNoticeMask [1, 0, 0] s)).notices =
        { masks := [(9, true)], globalMask := false, waiting := [9], queue := [5, 20] } ∧
      reply .terminal .setNoticeMask [1, 0, 0] s = [0x0001, 2]) := by decide +kernel
/-- R157: TAKE NOTICE hands out the head. -/
theorem test_takeNotice : reply .terminal .takeNotice [] floor = [0x0002, 5, 0] := by decide +kernel
/-- R180: device time 0 follows 2^32 - 1; R181: the thousandth TICK completes a second. -/
theorem test_tick_wraps :
    (after .tick { floor with timebase := ⟨0xFFFFFFFF, 999, 0⟩ }).timebase = ⟨0, 0, 0⟩ ∧
      (after .tick { floor with timebase := ⟨0xFFFFFFFF, 999, 0⟩ }).transit.seconds = 1 := by decide +kernel
/-- R181: 0 follows 86,399, and the minute changes. -/
theorem test_dayClockAdvance_wraps :
    (let t := after .dayClockAdvance { floor.setSeconds 1 with timebase := ⟨0, 0, 86399⟩ };
      t.timebase.dayClock = 0 ∧ t.transit.minuteChanges = 1) := by decide +kernel
/-- R166: only the named condition is cleared. -/
theorem test_errorStatusWrite : ((after (.errorStatusWrite .feed 0x40) recorded).port .feed).status = 0x3F := by
  decide +kernel
/-- R161, R163: in WORKING a word at REQUEST is discarded and records OVERRUN, position 0. -/
theorem test_registerWrite_overrun :
    ((after (.registerWrite .feed 0 0x0107 .now) (atPort .feed (.working (.taken [0]) false) floor)).port
      .feed).status = 0x01 := by decide +kernel
/-- R163: the last word of a reply takes the port to IDLE. -/
theorem test_replyRead :
    (let t := after (.replyRead .feed 1) (atPort .feed (.reply [0x1000]) floor);
      (t.port .feed).dataOut = 0x1000 ∧ (t.port .feed).state = .idle) := by decide +kernel
/-- R182: while RESET is low a read returns FFFFh. -/
theorem test_replyRead_in_reset :
    ((after (.replyRead .feed 2) (after .deviceReset floor)).port .feed).dataOut = 0xFFFF := by decide +kernel
/-- R162: a request code in no row of the table is MALFORMED (13h), recorded in position 1. -/
theorem test_unlistedRequestCode :
    (let t := after (.unlistedRequestCode .terminal 0xFF00) floor;
      (t.port .terminal).state = .reply [0x1300] ∧ (t.port .terminal).status = 0x02) := by decide +kernel

/-! ### Witnesses: rows whose moment has not come, codes and unnamed bits -/

theorem test_witness_ReadCycles_unnamedBits :
    (∀ ws, (floor.port .feed).state = .reply ws → ws.length ≤ 24) ∧
    ((atPort .feed (.reply (List.replicate 24 0)) floor).port .feed).state = .reply (List.replicate 24 0) ∧
    (List.replicate 24 (0 : Word)).length ≤ 24 :=
  ⟨fun ws h => absurd h (not_reply (by decide +kernel) ws), by decide +kernel, by decide +kernel⟩

theorem test_witness_BoardEngineEvents_untaken :
    floor.display.highlights = [] ∧
    (let d := floor.display.setCell 1 { floor.display.cell 1 with expiry := some 1 };
      let s : State := { floor with display := { d with highlights := [1] } };
      s.display.highlights = 1 :: [] ∧ (s.display.cell 1).expiry = some 1 ∧ reached 1 s.now = false) := by
  decide +kernel

theorem test_witness_ArbiterChoosesByClass_notDue :
    (let v := floor.display.link (0 : Fin 4);
      (v.module (2 : Fin 32)).keepAliveDue v.holdSeconds floor.now = false ∧
        (v.module (2 : Fin 32)).probeDue floor.items.probeSeconds floor.now = false) ∧
    ({ Module.reset with state := .down, lastSent := some 0 } : Module).probeDue 5 5000 = true ∧
    ({ Module.reset with state := .down, lastSent := some 0 } : Module).probeDue 5 4999 = false := by
  decide +kernel

theorem test_witness_LinkEvents_untaken :
    (((framed (.inFlight probe 49)).display.link (0 : Fin 4)).line = .inFlight probe 49 ∧ probe.address ≤ 31 ∧
      reached 49 (framed (.inFlight probe 49)).now = true ∧ reached 50 (framed (.inFlight probe 50)).now = false) ∧
    (∀ x deadline, (floor.display.link (0 : Fin 4)).line ≠ .inFlight x deadline) ∧
    (∀ x, (floor.display.link (0 : Fin 4)).line ≠ .sending x) ∧
    ((floor.display.link (1 : Fin 4)).state = .settling (some 500) ∧ reached 500 floor.now = false) := by
  have h : (floor.display.link (0 : Fin 4)).line = .free := by decide +kernel
  exact ⟨by decide +kernel, fun _ _ => by rw [h]; nofun, fun _ => by rw [h]; nofun, by decide +kernel⟩

theorem test_witness_LinkRequests_codes :
    Meets .supervisor .readLink [0]
      { floor with display := floor.display.setLink 0 { floor.display.link 0 with state := .test .charset } }
      (fun s ops => ops.length = 1 ∧ (s.display.link (operand ops 0)).state = .test .charset) ∧
    Meets .supervisor .readLink [0] floor (fun s ops =>
      ops.length = 1 ∧ (s.display.link (operand ops 0)).state = .running) :=
  ⟨meets (by decide +kernel) (by decide +kernel), meets (by decide +kernel) (by decide +kernel)⟩

theorem test_witness_RibbonEvents_untaken :
    floor.items.joined = false ∧ (sending true ⟨[0x41], none, false, false⟩).items.joined = true ∧
    (let b : Block := ⟨[0x41], some 199, false, false⟩;
      ((sending false b).ribbon (0 : Fin 2)).state = .sending b ∧ b.deadline ≠ none ∧
        reached 199 (sending false b).now = true) ∧
    (let b : Block := ⟨[0x41], some 200, false, false⟩;
      ((sending false b).ribbon (0 : Fin 2)).state = .sending b ∧ reached 200 (sending false b).now = false) ∧
    (let b : Block := ⟨[0x41], none, false, false⟩;
      ((sending false b).ribbon (0 : Fin 2)).state = .sending b ∧ b.deadline = none) ∧
    (∀ b, (floor.ribbon (1 : Fin 2)).state ≠ .sending b) ∧
    ((floor.ribbon (0 : Fin 2)).state = .pacing ∧ (floor.ribbon (0 : Fin 2)).pacing ≠ 0 ∧
      (floor.ribbon (1 : Fin 2)).state ≠ .pacing ∧ (floor.ribbon (0 : Fin 2)).lateExpiry = none) := by
  have h : (floor.ribbon (1 : Fin 2)).state = .idle := by decide +kernel
  exact ⟨by decide +kernel, by decide +kernel, by decide +kernel, by decide +kernel, by decide +kernel,
    fun _ => by rw [h]; nofun, by decide +kernel⟩

theorem test_witness_LinesAreWrittenThroughSelectors_noSelector :
    Meets .terminal .writePageLine [5, 0, 128, 0, 0, 0, 0] floor (fun s ops =>
      s.mode = .live ∧ selectorOperand ops 1 = none) ∧
    Meets .terminal .writePageLine [5, 1, 16, 0, 0, 0, 0] floor (fun _ ops => selectorOperand ops 1 = none) :=
  ⟨meets (by decide +kernel) (by decide +kernel), meets (by decide +kernel) (by decide +kernel)⟩

theorem test_witness_TimebaseCounts_secondsDue :
    Meets .supervisor .setTime [1, 20863] (floor.setSeconds 1) (fun s ops => ops.length = 2 ∧
      operandPair ops 0 ≤ 86399 ∧ s.transit.seconds ≠ 0 ∧
      exec .dayClockAdvance s = .next (after .dayClockAdvance s)) :=
  meets (by decide +kernel) ⟨by decide +kernel, by decide +kernel, by decide +kernel, rfl⟩

/-- R132: while JOINED both ribbon links carry the block of ribbon 0; 02h, one character and their sum. -/
theorem test_ribbonLinkOut :
    (sending true ⟨[0x41], none, false, false⟩).ribbonLinkOut 1 = [0x02, 0x01, 0x41, 0x44] ∧
    (sending true ⟨[0x41], none, false, false⟩).ribbonLinkOut 0 = [0x02, 0x01, 0x41, 0x44] ∧
    (sending false ⟨[0x41], none, false, false⟩).ribbonLinkOut 1 = [] := by decide +kernel

/-! ### Witnesses: handoffs that a link or a read would overtake -/

/-- `floor` with cell 1 queued on link 0 and a changed last of its instrument 312 on its way. -/
def overtaken : State :=
  { floor.handOn 312 [.last] true with
    display := (floor.display.setCell 1 { floor.display.cell 1 with queued := true, onChange := true }).setQueue 0 [1] }

theorem test_witness_ArbiterChoosesByClass_inTurn :
    floor.display.cellInTurn floor.now floor.items.probeSeconds 0 = some 2 ∧
    floor.display.cellInTurn floor.now floor.items.probeSeconds 1 = none := by decide +kernel

theorem test_witness_LinkEvents_overtaken :
    overtaken.overtakes [0] = true ∧ overtaken.transit.boardChanges = ⟨312, [.last], true⟩ :: [] ∧
    floor.overtakes [0] = false ∧ floor.transit.boardChanges = [] ∧
    (let f (d : Display) : Display := d.enqueue 1
      let s : State := { floor.handOn 312 [.last] true with
        display := (floor.display.setCell 2 { floor.display.cell 2 with queued := false }).setQueue 0 [] }
      (s.display.queue 0 = [] ∧ (f s.display).queue 0 ≠ []) ∧
        ({ s with display := f s.display } : State).overtakes [0] = true) := by decide +kernel

theorem test_witness_LinesAreRead_overtaken :
    Meets .terminal .readChangedLine [5] (floor.handOn 312 [.last] true) (fun s ops =>
      operand ops 0 ≤ 63 ∧ s.mode = .live ∧ ops.length = 1 ∧ s.transit.pageChanges = ⟨312, [.last]⟩ :: [] ∧
        (s.context 5).page.map (fun q => (q.dirty, q.snapshot[0]?)) = some (0 :: [], some (some ⟨312, .full⟩))) :=
  meets (by decide +kernel) (by decide +kernel)

/-- R93: the handoff is taken first: one WRITE, HIGHLIGHT under R89, and nothing is queued or on its way after it. -/
theorem test_cell_behind_its_handoff :
    (let t := overtaken.onLink 0 id;
      t.transit.boardChanges = [] ∧ t.display.queue 0 = [] ∧ (t.display.cell 1).queued = false ∧
        (t.display.link 0).frameOut.take 5 = [0x02, 0x01, 0x01, 0x01, 0x01]) := by decide +kernel

/-- R151: the handoff is taken first: the line is dirty once, and the read takes its mark. -/
theorem test_line_behind_its_handoff :
    (let t := after (.readChangedLine .terminal (final .readChangedLine [5]) .now)
        (asked .terminal .readChangedLine [5] (floor.handOn 312 [.last] true));
      t.transit.pageChanges = [] ∧ (t.context 5).page.map (·.dirty) = some [] ∧ t.transit.raises = []) := by
  decide +kernel

end Sys2Proof.Tests
end

section
/-! The tick function of R25, one equation per row of its table, and the family it keeps at an unchanged price. -/

namespace Sys2Proof.Machine

variable {p r : Nat} {t : Tick}

@[simp] theorem tickFunction_none : tickFunction p none t = .flat := rfl

theorem tickFunction_of_gt (h : r < p) : tickFunction p (some r) t = .up := if_pos h

theorem tickFunction_of_lt (h : p < r) : tickFunction p (some r) t = .down := by
  have notAbove : ¬ r < p := Nat.lt_asymm h
  simp only [tickFunction, if_neg notAbove, if_pos h]

@[simp] theorem tickFunction_self_up : tickFunction p (some p) .up = .zeroUp := by simp [tickFunction]

@[simp] theorem tickFunction_self_zeroUp : tickFunction p (some p) .zeroUp = .zeroUp := by simp [tickFunction]

@[simp] theorem tickFunction_self_down : tickFunction p (some p) .down = .zeroDown := by simp [tickFunction]

@[simp] theorem tickFunction_self_zeroDown : tickFunction p (some p) .zeroDown = .zeroDown := by simp [tickFunction]

@[simp] theorem tickFunction_self_flat : tickFunction p (some p) .flat = .flat := by simp [tickFunction]

/-- R25: "a run of unchanged prints keeps showing the direction of the last move". -/
theorem family_tickFunction_self : (tickFunction p (some p) t).family = t.family := by
  cases t with
  | flat => rw [tickFunction_self_flat]
  | up => rw [tickFunction_self_up]; rfl
  | zeroUp => rw [tickFunction_self_zeroUp]
  | down => rw [tickFunction_self_down]; rfl
  | zeroDown => rw [tickFunction_self_zeroDown]

/-- Settles O19: each row of R25's table is one of the equations above; the families are those of the definition. -/
theorem tickFunctionTable : Obligations.TickFunctionTable := by
  intro p r t
  refine ⟨tickFunction_none, tickFunction_of_gt, tickFunction_of_lt, ?upRow, ?downRow, ?flatRow, ?keepsFamily,
    rfl, rfl, rfl, rfl, rfl⟩
  case upRow =>
    rintro rfl (rfl | rfl)
    · exact tickFunction_self_up
    · exact tickFunction_self_zeroUp
  case downRow =>
    rintro rfl (rfl | rfl)
    · exact tickFunction_self_down
    · exact tickFunction_self_zeroDown
  case flatRow =>
    rintro rfl rfl
    exact tickFunction_self_flat
  case keepsFamily =>
    rintro rfl
    exact family_tickFunction_self

end Sys2Proof.Machine
end

section
/-! The feed sequence: the cycle of R41, the classes of R42, and the reports that R42 and R44 answer at the sequence
step. -/

namespace Sys2Proof.Machine

/-! ### The cycle of the sequence numbers -/

section Cycle

variable {e n k : Nat}

@[simp] theorem successor_last : successor 65535 = 1 := rfl

theorem successor_of_lt (h : n < 65535) : successor n = n + 1 := if_neg (Nat.not_le.mpr h)

/-- R41: counted from 0, the successor is the next residue modulo 65535. -/
theorem successor_eq_mod (h : n ≤ 65535) : successor n = n % 65535 + 1 := by
  obtain below | rfl := h.lt_or_eq
  · rw [successor_of_lt below, Nat.mod_eq_of_lt below]
  · rfl

/-- The closed form of `k` successor steps from `e`. -/
theorem iterate_successor (one_le : 1 ≤ e) (le_last : e ≤ 65535) :
    successor^[k] e = (e - 1 + k) % 65535 + 1 := by
  induction k with
  | zero => rw [Function.iterate_zero_apply]; omega
  | succ k ih =>
    have inCycle : (e - 1 + k) % 65535 + 1 ≤ 65535 := Nat.mod_lt _ (by decide)
    calc successor^[k + 1] e
        = successor ((e - 1 + k) % 65535 + 1) := by rw [Function.iterate_succ_apply', ih]
      _ = ((e - 1 + k) % 65535 + 1) % 65535 + 1 := successor_eq_mod inCycle
      _ = (e - 1 + (k + 1)) % 65535 + 1 := by rw [Nat.mod_add_mod, Nat.add_assoc]

/-- R42: the distance is the number of successor steps. -/
theorem cycleDistance_iterate_successor (one_le : 1 ≤ e) (le_last : e ≤ 65535) (hk : k < 65535) :
    cycleDistance e (successor^[k] e) = k := by
  rw [iterate_successor one_le le_last, cycleDistance]
  omega

end Cycle

/-! ### The classes -/

section Classes

variable {e n : Nat}

@[simp] theorem classify_none : classify none n = .expected := rfl

theorem classify_of_zero (h : cycleDistance e n = 0) : classify (some e) n = .expected := if_pos h

theorem classify_of_ahead (one_le : 1 ≤ cycleDistance e n) (le_half : cycleDistance e n ≤ 32767) :
    classify (some e) n = .gap := by
  have notZero : cycleDistance e n ≠ 0 := Nat.one_le_iff_ne_zero.mp one_le
  simp only [classify, if_neg notZero, if_pos le_half]

theorem classify_of_behind (h : 32768 ≤ cycleDistance e n) : classify (some e) n = .duplicate := by
  have notZero : cycleDistance e n ≠ 0 := by omega
  have notAhead : ¬ cycleDistance e n ≤ 32767 := Nat.not_le.mpr h
  simp only [classify, if_neg notZero, if_neg notAhead]

end Classes

/-! ### The sequence step of a report -/

section Reports

variable {body : Engine} {ops : List Word} {s : State}

/-- R42: an unusable sequence word is refused ahead of every content check. -/
theorem reportEngine_of_zero (live : s.mode = .live) (zero : operand ops 0 = 0) :
    reportEngine body ops s = ⟨.malformed, [], s⟩ := by
  simp [reportEngine, refuse, live, zero]

/-- R44: a DUPLICATE never reaches the report's own steps. -/
theorem reportEngine_of_duplicate {e : Nat} (live : s.mode = .live) (nonzero : operand ops 0 ≠ 0)
    (expects : s.quote.expectation = some e) (duplicate : classify (some e) (operand ops 0) = .duplicate) :
    reportEngine body ops s = ⟨.duplicate, [BitVec.ofNat 16 e], s⟩ := by
  simp [reportEngine, live, nonzero, expects, duplicate, word]

/-- Both reports are taken by the sequence step, each with its own steps after it (R46, R56). -/
theorem exists_engineOf_eq_reportEngine {r : Request} (p : PortId) (h : r = .tradeReport ∨ r = .quoteReport) :
    ∃ body, engineOf p r = reportEngine body := by
  obtain rfl | rfl := h
  · exact ⟨_, rfl⟩
  · exact ⟨_, rfl⟩

/-- A request's row taken now leaves what its engine answers. -/
theorem Request.exec_row_now {r : Request} {p : PortId} {w : Word} {a : Answer} {ws : List Word} {t : State}
    (received : s.receives p w r ops) (answers : engineOf p r ops s = ⟨a, ws, t⟩) :
    exec (r.row p w .now) s = .next (t.answered p a ws) := by
  rw [Request.exec_row, State.requestRow_of received answers]

end Reports

/-- Settles O22: the distance of R42 is the count of successor steps, and the two answers of the sequence step are
the equations of `reportEngine` above. -/
theorem sequenceClassification : Obligations.SequenceClassification := by
  refine ⟨?successorCycle, fun _ => classify_none, ?classes, ?answers⟩
  case successorCycle =>
    intro n _ le_last
    split
    next last => rw [last, successor_last]
    next notLast => exact successor_of_lt (Nat.lt_of_le_of_ne le_last notLast)
  case classes =>
    rintro e _ k one_le le_last hk rfl
    have distance := cycleDistance_iterate_successor one_le le_last hk
    refine ⟨fun zero => classify_of_zero ?_, fun ahead half => classify_of_ahead ?_ ?_,
      fun behind => classify_of_behind ?_⟩
    all_goals rwa [distance]
  case answers =>
    intro s p w ops r isReport received live
    obtain ⟨body, engine⟩ := exists_engineOf_eq_reportEngine p isReport
    constructor
    · intro zero
      refine Request.exec_row_now received ?_
      rw [engine, reportEngine_of_zero live zero]
    · intro e nonzero expects duplicate
      refine Request.exec_row_now received ?_
      rw [engine, reportEngine_of_duplicate live nonzero expects duplicate]

end Sys2Proof.Machine
end

section
/-! The error status: what a write of it leaves, and the levels that follow from it (R165 to R168). -/

namespace Sys2Proof.Machine

/-! ### Words as sets of positions -/

section Words

variable {n : Nat} {x m : BitVec n}

/-- The positions of a word less those of another. -/
theorem getLsbD_and_not (k : Nat) : (x &&& ~~~m).getLsbD k = (x.getLsbD k && !m.getLsbD k) := by
  by_cases inWord : k < n
  · simp [inWord]
  · simp [BitVec.getLsbD_of_ge _ _ (Nat.le_of_not_lt inWord)]

/-- Every position of a word lies in another. -/
theorem and_not_eq_zero_iff : x &&& ~~~m = 0#n ↔ ∀ k, x.getLsbD k = true → m.getLsbD k = true := by
  constructor
  · intro zero k inX
    have absent : (x.getLsbD k && !m.getLsbD k) = false := by rw [← getLsbD_and_not, zero, BitVec.getLsbD_zero]
    simpa [inX] using absent
  · intro contained
    refine BitVec.eq_of_getLsbD_eq fun k _ => ?_
    rw [getLsbD_and_not, BitVec.getLsbD_zero]
    simpa using contained k

/-- Positions outside a word that contains `x` do not count in what is taken from `x`. -/
theorem and_not_and_of_contained {w c : BitVec n} (h : x &&& ~~~c = 0#n) : x &&& ~~~(w &&& c) = x &&& ~~~w := by
  rw [BitVec.not_and, BitVec.and_or_distrib_left, h, BitVec.or_zero]

end Words

/-! ### Conditions and the levels that follow from them -/

@[simp] theorem Condition.getLsbD_word_position (c : Condition) : c.word.getLsbD c.position = true := by
  cases c <;> rfl

/-- R168: the port calls for no attention exactly where every recorded condition is masked. -/
theorem Port.calls_eq_false_iff {v : Port} :
    v.calls = false ↔ ∀ k, v.status.getLsbD k = true → v.mask.getLsbD k = true :=
  bne_eq_false_iff_eq.trans and_not_eq_zero_iff

/-- R167: the port is not HELD exactly where every recorded STOPPING condition is masked. -/
theorem Port.held_eq_false_iff {v : Port} :
    v.held = false ↔
      ∀ k, v.status.getLsbD k = true → v.severity.getLsbD k = true → v.mask.getLsbD k = true := by
  have reorder : v.status &&& ~~~v.mask &&& v.severity = v.status &&& v.severity &&& ~~~v.mask := by ac_rfl
  rw [Port.held, bne_eq_false_iff_eq, reorder]
  exact and_not_eq_zero_iff.trans (by simp)

/-! ### The write -/

section Write

variable {s : State} {p : PortId} {w : Word}

theorem exec_errorStatusWrite (released : s.inReset = false) :
    exec (.errorStatusWrite p w) s = .next (s.clearConditions p w) := by
  simp [exec, execErrorStatusWrite, released]

@[simp] theorem State.port_clearConditions :
    (s.clearConditions p w).port p = { s.port p with status := (s.port p).status &&& ~~~w } :=
  State.port_setPort_self ..

/-- R166: what is left is what was recorded and not named by the word. -/
theorem State.status_clearConditions {k : Nat} :
    ((s.clearConditions p w).port p).status.getLsbD k = true ↔
      (s.port p).status.getLsbD k = true ∧ ¬ w.getLsbD k = true := by
  rw [State.port_clearConditions, getLsbD_and_not]
  simp

@[simp] theorem State.port_record {c : Condition} :
    (s.record p c).port p = { s.port p with status := (s.port p).status ||| c.word } :=
  State.port_setPort_self ..

/-- R166: a 1 in a position that names no condition has no effect. -/
theorem State.clearConditions_and_conditions (named : (s.port p).errorWordsNamed p) :
    s.clearConditions p (w &&& p.conditions) = s.clearConditions p w := by
  obtain ⟨statusNamed, -, -⟩ := named
  rw [State.clearConditions, and_not_and_of_contained statusNamed, State.clearConditions]

end Write

/-- Settles O7: the write is `clearConditions`, and the levels are read off the positions that it leaves. -/
theorem errorStatusWriteClears : Obligations.ErrorStatusWriteClears := by
  intro s p w c released named
  refine ⟨s.clearConditions p w, exec_errorStatusWrite released, ?frame, ?positions, ?unnamed, ?attention, ?held,
    ?before, ?after⟩
  case frame => rw [State.port_clearConditions, State.clearConditions]
  case positions =>
    intro k
    rw [State.port_clearConditions, getLsbD_and_not]
  case unnamed => rw [exec_errorStatusWrite released, State.clearConditions_and_conditions named]
  case attention =>
    intro cleared
    refine Port.calls_eq_false_iff.mpr fun k left => ?_
    obtain ⟨recorded, kept⟩ := State.status_clearConditions.mp left
    rw [State.port_clearConditions]
    exact Bool.eq_true_of_not_eq_false fun unmasked => kept (cleared k recorded unmasked)
  case held =>
    intro cleared
    refine Port.held_eq_false_iff.mpr fun k left stopping => ?_
    obtain ⟨recorded, kept⟩ := State.status_clearConditions.mp left
    rw [State.port_clearConditions] at stopping ⊢
    exact Bool.eq_true_of_not_eq_false fun unmasked => kept (cleared k recorded unmasked stopping)
  case before =>
    intro cleared
    refine ⟨_, exec_errorStatusWrite (s := s.record p c) released, ?_⟩
    rw [State.port_clearConditions, getLsbD_and_not, cleared, Bool.not_true, Bool.and_false]
  case after => simp

end Sys2Proof.Machine
end

section
/-! Word 0 of the replies: the count beside each outcome, engine by engine, and the port unit's own refusals (R163,
R165, R174). -/

namespace Sys2Proof.Machine

/-! ### Word 0 -/

section WordZero

variable (a : Answer) (ws : List Word)

@[simp] theorem loByte_wordOf (hi lo : Byte) : loByte (wordOf hi lo) = lo := BitVec.extractLsb'_append_eq_right

@[simp] theorem hiByte_wordOf (hi lo : Byte) : hiByte (wordOf hi lo) = hi := BitVec.extractLsb'_append_eq_left

theorem headD_replyWords : (replyWords a ws).headD 0 = wordOf a.code (BitVec.ofNat 8 ws.length) := rfl

@[simp] theorem drop_one_replyWords : (replyWords a ws).drop 1 = ws := rfl

@[simp] theorem replyWords_nil : replyWords a [] = [wordOf a.code 0] := rfl

end WordZero

/-! ### Results and engines that count as R174 has it -/

/-- R174 of an engine's answer: a refusal other than DUPLICATE brings no word, DUPLICATE brings one. -/
structure Result.Counted (x : Result) : Prop where
  refusal : x.answer ≠ .done → x.answer ≠ .duplicate → x.words = []
  duplicate : x.answer = .duplicate → x.words.length = 1

/-- R174 of an engine: whatever it answers is counted so. -/
def Engine.Counted (e : Engine) : Prop := ∀ ops s, (e ops s).Counted

@[simp] theorem counted_doneWith (ws : List Word) (s : State) : (doneWith ws s).Counted :=
  ⟨fun notDone => absurd rfl notDone, nofun⟩

@[simp] theorem counted_done (s : State) : (done s).Counted := counted_doneWith [] s

@[simp] theorem counted_refuse {a : Answer} : (refuse a s).Counted ↔ a ≠ .duplicate :=
  ⟨fun h isDuplicate => absurd (h.duplicate isDuplicate) Nat.zero_ne_one,
    fun h => ⟨fun _ _ => rfl, fun isDuplicate => absurd isDuplicate h⟩⟩

/-- The sequence effects of a report change neither its outcome nor its words (R43). -/
theorem Result.Counted.afterReport {x : Result} (h : x.Counted) (c : SequenceClass) (n : Nat) :
    (afterReport c n x).Counted := by
  unfold Machine.afterReport
  split
  · exact h
  · exact ⟨h.refusal, h.duplicate⟩

/-- An engine with checks: none of them answers DUPLICATE, and the action counts. -/
theorem Engine.Counted.checked {check : List Word → State → Option Answer} {act : Engine}
    (checks : ∀ ops s, check ops s ≠ some .duplicate) (acts : act.Counted) :
    Engine.Counted (checked check act) := by
  intro ops s
  unfold Machine.checked
  split
  next a refuses => exact counted_refuse.mpr fun isDuplicate => checks ops s (refuses.trans (congrArg some isDuplicate))
  next => exact acts ops s

theorem Engine.Counted.liveOnly {body : Engine} (h : body.Counted) : Engine.Counted (liveOnly body) := by
  intro ops s
  unfold Machine.liveOnly
  split
  · exact counted_refuse.mpr nofun
  · exact h ops s

/-- A report: DUPLICATE is answered at the sequence step alone, with the expectation (R44). -/
theorem Engine.Counted.reportEngine {body : Engine} (h : body.Counted) : Engine.Counted (reportEngine body) := by
  intro ops s
  unfold Machine.reportEngine
  split
  · exact counted_refuse.mpr nofun
  split
  · exact counted_refuse.mpr nofun
  split
  · exact ⟨fun _ notDuplicate => absurd rfl notDuplicate, fun _ => rfl⟩
  · exact (h ops s).afterReport _ _
  · exact (h ops s).afterReport _ _

/-! ### The checks -/

/-- An ordered list of checks refuses with one of its own answers. -/
theorem firstRefusal_ne_some {checks : List (Bool × Answer)} {a : Answer} (h : a ∉ checks.map (·.2)) :
    firstRefusal checks ≠ some a := by
  intro refuses
  obtain ⟨c, found, rfl⟩ := Option.map_eq_some_iff.mp refuses
  exact h (List.mem_map_of_mem (List.mem_of_find?_eq_some found))

section Checks

variable (ops : List Word) (s : State)

theorem defineInstrumentCheck_ne_duplicate : defineInstrumentCheck ops s ≠ some .duplicate := by
  unfold defineInstrumentCheck
  split
  · exact firstRefusal_ne_some (by simp)
  · nofun

/-- R64: a print out of reach is NOT_FOUND or TOO_OLD. -/
theorem Instrument.missing_ne_duplicate (v : Instrument) (number : Nat) : v.missing number ≠ some .duplicate := by
  unfold Instrument.missing
  split
  next => split <;> nofun
  next =>
    split
    · nofun
    · dsimp only
      split <;> nofun

theorem cancelPrintCheck_ne_duplicate : cancelPrintCheck ops s ≠ some .duplicate := by
  unfold cancelPrintCheck
  dsimp only
  split
  next a refuses => exact refuses ▸ firstRefusal_ne_some (by simp [floorChecks])
  split
  next a missing => exact missing ▸ Instrument.missing_ne_duplicate _ _
  next => exact firstRefusal_ne_some (by simp)

theorem correctPrintCheck_ne_duplicate : correctPrintCheck ops s ≠ some .duplicate := by
  unfold correctPrintCheck
  dsimp only
  split
  next a refuses => exact refuses ▸ firstRefusal_ne_some (by simp [floorChecks])
  split
  next a missing => exact missing ▸ Instrument.missing_ne_duplicate _ _
  next => exact firstRefusal_ne_some (by simp)

theorem textPartCheck_ne_duplicate : textPartCheck ops s ≠ some .duplicate := by
  unfold textPartCheck
  dsimp only
  split
  next => exact firstRefusal_ne_some (by simp)
  next => nofun
  next =>
    split
    · nofun
    · exact firstRefusal_ne_some (by simp)

theorem tapeTextCheck_ne_duplicate : tapeTextCheck ops s ≠ some .duplicate := by
  unfold tapeTextCheck
  split
  next a refuses => exact refuses ▸ firstRefusal_ne_some (by simp)
  next => exact textPartCheck_ne_duplicate ops s

theorem defineCellCheck_ne_duplicate : defineCellCheck ops s ≠ some .duplicate := by
  unfold defineCellCheck
  split
  · nofun
  split
  · nofun
  · exact firstRefusal_ne_some (by simp)

theorem configureCheck_ne_duplicate : configureCheck ops s ≠ some .duplicate := by
  unfold configureCheck
  split
  · nofun
  · exact firstRefusal_ne_some (by simp)

theorem pageLineCheck_ne_duplicate (c : Context) (x : Selector) (d : Descriptor) :
    pageLineCheck ops c x d ≠ some .duplicate :=
  firstRefusal_ne_some (by simp)

theorem Selector.slot_ne_duplicate (c : Context) (x : Selector) : x.slot c ≠ .error .duplicate := by
  unfold Selector.slot
  repeat' split
  all_goals nofun

theorem Descriptor.asPage_ne_duplicate (d : Descriptor) : d.asPage ≠ .error .duplicate := by
  unfold Descriptor.asPage
  repeat' split
  all_goals nofun

/-- R139: a selector is refused by its slot or by the descriptor there. -/
theorem State.resolve_ne_duplicate (t : Nat) (x : Option Selector) : s.resolve t x ≠ .error .duplicate := by
  unfold State.resolve
  split
  · nofun
  next y =>
    split
    next a refuses => rintro ⟨⟩; exact y.slot_ne_duplicate _ refuses
    next => exact Descriptor.asPage_ne_duplicate _

end Checks

/-! ### The engines -/

theorem counted_tradeReportEngine : Engine.Counted tradeReportEngine :=
  .reportEngine (.checked (fun _ _ => firstRefusal_ne_some (by simp)) fun _ _ => counted_doneWith _ _)

theorem counted_quoteReportEngine : Engine.Counted quoteReportEngine :=
  .reportEngine (.checked (fun _ _ => firstRefusal_ne_some (by simp)) fun _ _ => counted_done _)

theorem counted_findSymbolEngine : Engine.Counted findSymbolEngine := by
  intro ops s
  unfold findSymbolEngine
  repeat' split
  all_goals simp

theorem counted_openSessionEngine : Engine.Counted openSessionEngine := by
  intro ops s
  unfold openSessionEngine
  repeat' split
  all_goals simp

theorem counted_closeSessionEngine : Engine.Counted closeSessionEngine := by
  intro ops s
  unfold closeSessionEngine
  repeat' split
  all_goals simp

theorem counted_rollSessionEngine : Engine.Counted rollSessionEngine := by
  intro ops s
  unfold rollSessionEngine
  repeat' split
  all_goals simp

theorem counted_resumeEngine : Engine.Counted resumeEngine := by
  refine .checked (fun _ _ => firstRefusal_ne_some (by simp [floorChecks])) fun ops s => ?_
  dsimp only
  split <;> exact counted_done _

theorem counted_fastMarketEngine (fast : Bool) : Engine.Counted (fastMarketEngine fast) := by
  refine .checked (fun _ _ => firstRefusal_ne_some (by simp [floorChecks])) fun ops s => ?_
  dsimp only
  split <;> exact counted_done _

theorem counted_cancelPrintEngine : Engine.Counted cancelPrintEngine := by
  refine .checked cancelPrintCheck_ne_duplicate fun ops s => ?_
  dsimp only
  split
  · exact counted_done _
  · exact counted_doneWith _ _

theorem counted_correctPrintEngine : Engine.Counted correctPrintEngine := by
  refine .checked correctPrintCheck_ne_duplicate fun ops s => ?_
  dsimp only
  split
  · exact counted_done _
  · exact counted_doneWith _ _

theorem counted_tapeTextEngine : Engine.Counted tapeTextEngine := by
  refine .checked tapeTextCheck_ne_duplicate fun ops s => ?_
  dsimp only
  split
  · exact counted_done _
  · exact counted_done _
  · split <;> exact counted_done _

theorem counted_darkEngine (dark : Bool) : Engine.Counted (darkEngine dark) := by
  refine .checked (fun _ _ => firstRefusal_ne_some (by simp [panelChecks])) fun ops s => ?_
  split <;> exact counted_done _

theorem counted_lampTestStopEngine : Engine.Counted lampTestStopEngine := by
  refine .checked (fun _ _ => firstRefusal_ne_some (by simp [linkChecks, settlingCheck])) fun ops s => ?_
  dsimp only
  split <;> exact counted_done _

theorem counted_ribbonRestartEngine : Engine.Counted ribbonRestartEngine := by
  refine .checked (fun _ _ => firstRefusal_ne_some (by simp)) fun ops s => ?_
  dsimp only
  split <;> exact counted_done _

theorem counted_refuse_of_resolve {s : State} {t : Nat} {x : Option Selector} {a : Answer}
    (refuses : s.resolve t x = .error a) : (refuse a s).Counted :=
  counted_refuse.mpr fun isDuplicate => s.resolve_ne_duplicate t x (isDuplicate ▸ refuses)

theorem counted_openPageEngine : Engine.Counted openPageEngine := by
  refine .liveOnly fun ops s => ?_
  split
  · exact counted_refuse.mpr nofun
  split
  next => exact counted_done _
  next a refuses => exact counted_refuse_of_resolve refuses
  next => exact counted_refuse.mpr nofun

theorem counted_closePageEngine (p : PortId) : Engine.Counted (closePageEngine p) := by
  have body : Engine.Counted closePageBody :=
    .checked (fun _ _ => firstRefusal_ne_some (by simp)) fun _ _ => counted_done _
  unfold closePageEngine
  split
  · exact body.liveOnly
  · exact body

theorem counted_writePageLineEngine : Engine.Counted writePageLineEngine := by
  refine .liveOnly fun ops s => ?_
  split
  · exact counted_refuse.mpr nofun
  split
  next =>
    split
    next => exact counted_refuse.mpr nofun
    next a _ refuses =>
      exact counted_refuse.mpr fun isDuplicate => pageLineCheck_ne_duplicate ops _ _ _ (isDuplicate ▸ refuses)
    next => exact counted_done _
  next a refuses => exact counted_refuse_of_resolve refuses
  next => exact counted_refuse.mpr nofun

/-- R148: an empty dirty set is answered NONE. -/
theorem counted_readChangedLineEngine : Engine.Counted readChangedLineEngine := by
  refine .liveOnly (.checked (fun _ _ => firstRefusal_ne_some (by simp)) fun ops s => ?_)
  have counted (t : State) : ((t.takeLine (operand ops 0)).getD (refuse .noLine s)).Counted := by
    unfold State.takeLine
    repeat' split
    all_goals simp
  exact counted _

theorem counted_readLineEngine : Engine.Counted readLineEngine := by
  refine .liveOnly (.checked (fun _ _ => firstRefusal_ne_some (by simp)) fun ops s => ?_)
  repeat' split
  all_goals simp

/-- R157: an empty notice queue is answered EMPTY. -/
theorem counted_takeNoticeEngine : Engine.Counted takeNoticeEngine := by
  refine .liveOnly (.checked (fun _ _ => firstRefusal_ne_some (by simp)) fun ops s => ?_)
  dsimp only [State.takeHead]
  split <;> simp

theorem counted_configureEngine : Engine.Counted configureEngine := by
  refine .checked configureCheck_ne_duplicate fun ops s => ?_
  split <;> exact counted_done _

theorem counted_goLiveEngine : Engine.Counted goLiveEngine := by
  intro ops s
  unfold goLiveEngine
  repeat' split
  all_goals simp

theorem counted_goConfigEngine : Engine.Counted goConfigEngine := by
  intro ops s
  unfold goConfigEngine
  repeat' split
  all_goals simp

/-- R174 of every request at its engine. -/
theorem counted_engineOf (p : PortId) (r : Request) : Engine.Counted (engineOf p r) := by
  cases r with
  | tradeReport => exact counted_tradeReportEngine
  | quoteReport => exact counted_quoteReportEngine
  | sequenceReset => exact .checked (fun _ _ => firstRefusal_ne_some (by simp)) fun _ _ => counted_doneWith _ _
  | readInstrument => exact .checked (fun _ _ => firstRefusal_ne_some (by simp)) fun _ _ => counted_doneWith _ _
  | findSymbol => exact counted_findSymbolEngine
  | defineInstrument => exact .checked defineInstrumentCheck_ne_duplicate fun _ _ => counted_done _
  | modifyInstrument => exact .checked (fun _ _ => firstRefusal_ne_some (by simp)) fun _ _ => counted_done _
  | removeInstrument => exact .checked (fun _ _ => firstRefusal_ne_some (by simp)) fun _ _ => counted_done _
  | openSession => exact counted_openSessionEngine
  | closeSession => exact counted_closeSessionEngine
  | rollSession => exact counted_rollSessionEngine
  | halt => exact .checked (fun _ _ => firstRefusal_ne_some (by simp [floorChecks])) fun _ _ => counted_done _
  | resume => exact counted_resumeEngine
  | setFastMarket => exact counted_fastMarketEngine true
  | clearFastMarket => exact counted_fastMarketEngine false
  | cancelPrint => exact counted_cancelPrintEngine
  | correctPrint => exact counted_correctPrintEngine
  | tapeText => exact counted_tapeTextEngine
  | definePanel => exact .checked (fun _ _ => firstRefusal_ne_some (by simp)) fun _ _ => counted_done _
  | removePanel => exact .checked (fun _ _ => firstRefusal_ne_some (by simp [panelChecks])) fun _ _ => counted_done _
  | panelDark => exact counted_darkEngine true
  | panelLight => exact counted_darkEngine false
  | defineCell => exact .checked defineCellCheck_ne_duplicate fun _ _ => counted_done _
  | removeCell => exact .checked (fun _ _ => firstRefusal_ne_some (by simp)) fun _ _ => counted_done _
  | moduleRestart =>
    exact .checked (fun _ _ => firstRefusal_ne_some (by simp [linkChecks, settlingCheck])) fun _ _ => counted_done _
  | lampTestStart =>
    exact .checked (fun _ _ => firstRefusal_ne_some (by simp [linkChecks, settlingCheck])) fun _ _ => counted_done _
  | lampTestStop => exact counted_lampTestStopEngine
  | readLink => exact .checked (fun _ _ => firstRefusal_ne_some (by simp)) fun _ _ => counted_doneWith _ _
  | ribbonRestart => exact counted_ribbonRestartEngine
  | ribbonRate => exact .checked (fun _ _ => firstRefusal_ne_some (by simp)) fun _ _ => counted_done _
  | readRibbon => exact .checked (fun _ _ => firstRefusal_ne_some (by simp)) fun _ _ => counted_doneWith _ _
  | writeDescriptor => exact .checked (fun _ _ => firstRefusal_ne_some (by simp)) fun _ _ => counted_done _
  | writeLine => exact .checked (fun _ _ => firstRefusal_ne_some (by simp)) fun _ _ => counted_done _
  | setLocalTable =>
    exact .liveOnly (.checked (fun _ _ => firstRefusal_ne_some (by simp)) fun _ _ => counted_done _)
  | openPage => exact counted_openPageEngine
  | closePage => exact counted_closePageEngine p
  | writePageLine => exact counted_writePageLineEngine
  | readChangedLine => exact counted_readChangedLineEngine
  | readLine => exact counted_readLineEngine
  | setNoticeMask =>
    exact .liveOnly (.checked (fun _ _ => firstRefusal_ne_some (by simp)) fun _ _ => counted_doneWith _ _)
  | takeNotice => exact counted_takeNoticeEngine
  | configure => exact counted_configureEngine
  | goLive => exact counted_goLiveEngine
  | goConfig => exact counted_goConfigEngine
  | setTime => exact .checked (fun _ _ => firstRefusal_ne_some (by simp)) fun _ _ => counted_done _

/-! ### The port unit -/

section PortUnit

variable {s : State} {p : PortId} {a : Answer}

@[simp] theorem State.recordMalformed_malformed : s.recordMalformed p .malformed = s.record p .malformed := if_pos rfl

theorem State.recordMalformed_of_ne (h : a ≠ .malformed) : s.recordMalformed p a = s := if_neg h

/-- R162: what the port unit itself refuses with. -/
theorem State.portCheck_error {head : Word} (h : s.portCheck p head = .error a) :
    a = .held ∨ a = .malformed ∨ a = .notPermitted := by
  unfold State.portCheck at h
  split at h
  · cases h; exact .inl rfl
  split at h
  · cases h; exact .inr (.inl rfl)
  split at h
  · cases h; exact .inr (.inl rfl)
  split at h
  · cases h
  · cases h; exact .inr (.inr rfl)

@[simp] theorem State.state_port_refuseAt : ((s.refuseAt p a).port p).state = .reply (replyWords a []) := by
  simp [State.refuseAt, State.setPortState]

end PortUnit

/-- Settles O11: every request by the count of its engine, the port unit's refusals by their list. -/
theorem refusalReplyCounts : Obligations.RefusalReplyCounts := by
  refine ⟨rfl, ?wordZero, ?malformed, ?engines, ?portUnit⟩
  case wordZero => exact fun a ws => ⟨hiByte_wordOf _ _, drop_one_replyWords a ws⟩
  case malformed => exact fun _ _ _ => ⟨State.recordMalformed_malformed, State.recordMalformed_of_ne⟩
  case engines =>
    intro p r ops s x
    have counted : x.Counted := counted_engineOf p r ops s
    constructor
    · intro notDone notDuplicate
      have noWords := counted.refusal notDone notDuplicate
      exact ⟨noWords, by simp [noWords]⟩
    · intro isDuplicate
      have oneWord := counted.duplicate isDuplicate
      rw [headD_replyWords, loByte_wordOf, oneWord]
      rfl
  case portUnit =>
    intro p head s a refuses
    obtain rfl | rfl | rfl := State.portCheck_error refuses
    all_goals exact ⟨nofun, nofun, State.state_port_refuseAt⟩

end Sys2Proof.Machine
end

section
/-! Every command, by the block it acts on: the rows of the requests and of the ports reduce to the engines
(Laws/Step), and each event of a block touches that block's part of the state alone. -/

namespace Sys2Proof

/-- The commands that are events of the board engine and of the link controllers. -/
def Instr.isBoardEvent : Instr → Bool
  | .boardHandoff | .minuteChange | .sessionChange | .tapeStateChange | .highlightExpiry | .frameSent _
  | .moduleAcknowledgement .. | .moduleAckTimeout _ | .keepAliveDue .. | .probeDue .. | .settleExpiry _ => true
  | _ => false

/-- The commands that are events of the ribbon engine. -/
def Instr.isTapeEvent : Instr → Bool
  | .departedCopyHandoff | .blockFrameSent _ | .ribbonAcknowledgement .. | .pacingCountEnd _ | .ribbonAckTimeout _
  | .readyRise _ | .readyFall _ | .lateNoticeExpiry _ => true
  | _ => false

/-- The commands that are events of the master ports, other than the rows of the requests. -/
def Instr.isPortRow (c : Instr) : Prop :=
  (∃ p loc w k, c = .registerWrite p loc w k) ∨ (∃ p loc, c = .replyRead p loc) ∨
    (∃ p w, c = .errorStatusWrite p w) ∨ (∃ p w, c = .errorMaskWrite p w) ∨ (∃ p w, c = .errorSeverityWrite p w) ∨
    (∃ p w, c = .portReset p w) ∨ (∃ p, c = .requestComplete p) ∨ ∃ p w, c = .unlistedRequestCode p w

/-- The commands that are events of one block, or of the whole part, and come by no master port. -/
inductive Instr.BlockEvent : Instr → Prop where
  | board {c : Instr} : c.isBoardEvent = true → c.BlockEvent
  | tape {c : Instr} : c.isTapeEvent = true → c.BlockEvent
  | rollRecord : Instr.BlockEvent .rollRecord
  | pageHandoff : Instr.BlockEvent .pageHandoff
  | noticeRaise : Instr.BlockEvent .noticeRaise
  | tick : Instr.BlockEvent .tick
  | dayClockAdvance : Instr.BlockEvent .dayClockAdvance
  | deviceReset : Instr.BlockEvent .deviceReset
  | resetRelease : Instr.BlockEvent .resetRelease

/-- Every command is the row of a request, a row of a port, or an event of a block. -/
theorem Instr.kinds (c : Instr) : (∃ r p w k, c = Request.row r p w k) ∨ c.isPortRow ∨ c.BlockEvent := by
  cases c
  case tradeReport p w k => exact .inl ⟨.tradeReport, p, w, k, rfl⟩
  case quoteReport p w k => exact .inl ⟨.quoteReport, p, w, k, rfl⟩
  case sequenceReset p w k => exact .inl ⟨.sequenceReset, p, w, k, rfl⟩
  case readInstrument p w k => exact .inl ⟨.readInstrument, p, w, k, rfl⟩
  case findSymbol p w k => exact .inl ⟨.findSymbol, p, w, k, rfl⟩
  case defineInstrument p w k => exact .inl ⟨.defineInstrument, p, w, k, rfl⟩
  case modifyInstrument p w k => exact .inl ⟨.modifyInstrument, p, w, k, rfl⟩
  case removeInstrument p w k => exact .inl ⟨.removeInstrument, p, w, k, rfl⟩
  case openSession p w k => exact .inl ⟨.openSession, p, w, k, rfl⟩
  case closeSession p w k => exact .inl ⟨.closeSession, p, w, k, rfl⟩
  case rollSession p w k => exact .inl ⟨.rollSession, p, w, k, rfl⟩
  case halt p w k => exact .inl ⟨.halt, p, w, k, rfl⟩
  case resume p w k => exact .inl ⟨.resume, p, w, k, rfl⟩
  case setFastMarket p w k => exact .inl ⟨.setFastMarket, p, w, k, rfl⟩
  case clearFastMarket p w k => exact .inl ⟨.clearFastMarket, p, w, k, rfl⟩
  case cancelPrint p w k => exact .inl ⟨.cancelPrint, p, w, k, rfl⟩
  case correctPrint p w k => exact .inl ⟨.correctPrint, p, w, k, rfl⟩
  case tapeText p w k => exact .inl ⟨.tapeText, p, w, k, rfl⟩
  case definePanel p w k => exact .inl ⟨.definePanel, p, w, k, rfl⟩
  case removePanel p w k => exact .inl ⟨.removePanel, p, w, k, rfl⟩
  case panelDark p w k => exact .inl ⟨.panelDark, p, w, k, rfl⟩
  case panelLight p w k => exact .inl ⟨.panelLight, p, w, k, rfl⟩
  case defineCell p w k => exact .inl ⟨.defineCell, p, w, k, rfl⟩
  case removeCell p w k => exact .inl ⟨.removeCell, p, w, k, rfl⟩
  case moduleRestart p w k => exact .inl ⟨.moduleRestart, p, w, k, rfl⟩
  case lampTestStart p w k => exact .inl ⟨.lampTestStart, p, w, k, rfl⟩
  case lampTestStop p w k => exact .inl ⟨.lampTestStop, p, w, k, rfl⟩
  case readLink p w k => exact .inl ⟨.readLink, p, w, k, rfl⟩
  case ribbonRestart p w k => exact .inl ⟨.ribbonRestart, p, w, k, rfl⟩
  case ribbonRate p w k => exact .inl ⟨.ribbonRate, p, w, k, rfl⟩
  case readRibbon p w k => exact .inl ⟨.readRibbon, p, w, k, rfl⟩
  case writeDescriptor p w k => exact .inl ⟨.writeDescriptor, p, w, k, rfl⟩
  case writeLine p w k => exact .inl ⟨.writeLine, p, w, k, rfl⟩
  case setLocalTable p w k => exact .inl ⟨.setLocalTable, p, w, k, rfl⟩
  case openPage p w k => exact .inl ⟨.openPage, p, w, k, rfl⟩
  case closePage p w k => exact .inl ⟨.closePage, p, w, k, rfl⟩
  case writePageLine p w k => exact .inl ⟨.writePageLine, p, w, k, rfl⟩
  case readChangedLine p w k => exact .inl ⟨.readChangedLine, p, w, k, rfl⟩
  case readLine p w k => exact .inl ⟨.readLine, p, w, k, rfl⟩
  case setNoticeMask p w k => exact .inl ⟨.setNoticeMask, p, w, k, rfl⟩
  case takeNotice p w k => exact .inl ⟨.takeNotice, p, w, k, rfl⟩
  case configure p w k => exact .inl ⟨.configure, p, w, k, rfl⟩
  case goLive p w k => exact .inl ⟨.goLive, p, w, k, rfl⟩
  case goConfig p w k => exact .inl ⟨.goConfig, p, w, k, rfl⟩
  case setTime p w k => exact .inl ⟨.setTime, p, w, k, rfl⟩
  case rollRecord => exact .inr (.inr .rollRecord)
  case pageHandoff => exact .inr (.inr .pageHandoff)
  case noticeRaise => exact .inr (.inr .noticeRaise)
  case tick => exact .inr (.inr .tick)
  case dayClockAdvance => exact .inr (.inr .dayClockAdvance)
  case deviceReset => exact .inr (.inr .deviceReset)
  case resetRelease => exact .inr (.inr .resetRelease)
  case boardHandoff | minuteChange | sessionChange | tapeStateChange | highlightExpiry | frameSent |
      moduleAcknowledgement | moduleAckTimeout | keepAliveDue | probeDue | settleExpiry =>
    exact .inr (.inr (.board rfl))
  case departedCopyHandoff | blockFrameSent | ribbonAcknowledgement | pacingCountEnd | ribbonAckTimeout | readyRise |
      readyFall | lateNoticeExpiry =>
    exact .inr (.inr (.tape rfl))
  all_goals exact .inr (.inl (by simp [Instr.isPortRow]))

end Sys2Proof

namespace Sys2Proof.Machine

/-- What the port units, the engines and the events of the blocks keep, every command keeps. -/
theorem PortKept.exec {Q : State → Prop} (h : PortKept Q)
    (events : ∀ c s t, c.BlockEvent → Q s → exec c s = .next t → Q t) {c : Instr} {s t : State} (hs : Q s)
    (ht : exec c s = .next t) : Q t := by
  obtain ⟨r, p, w, k, rfl⟩ | row | event := c.kinds
  · exact h.row r hs ht
  · exact h.portRow hs row ht
  · exact events c s t event hs ht

/-- A property that names neither the queue of commands nor what stands behind it: a step keeps what every command
keeps. -/
theorem step_keeps {Q : State → Prop} (pending : ∀ (s : State) l, Q s → Q { s with pending := l })
    (command : ∀ c s t, Q s → exec c s = .next t → Q t) {s t : State} (hs : Q s) (ht : step s = .next t) : Q t := by
  unfold step at ht
  split at ht
  · cases ht; exact hs
  · exact command _ _ t (pending s _ hs) ht

/-! ### What an event of the board leaves -/

/-- An action of the board engine or of a link controller: everything but the display, the handoffs on their way and
the S-port's error status stays. -/
structure State.boardActs (s t : State) : Prop where
  pending : t.pending = s.pending
  inReset : t.inReset = s.inReset
  mode : t.mode = s.mode
  quote : t.quote = s.quote
  tape : t.tape = s.tape
  pages : t.pages = s.pages
  notices : t.notices = s.notices
  timebase : t.timebase = s.timebase
  items : t.items = s.items
  ports : t.ports = s.ports ∨ t.ports = (s.record .supervisor .moduleDown).ports

theorem State.boardActs.refl (s : State) : s.boardActs s := ⟨rfl, rfl, rfl, rfl, rfl, rfl, rfl, rfl, rfl, .inl rfl⟩

theorem State.boardActs.onBoard (s : State) (x : Transit) (f : Display → Display) :
    s.boardActs (State.onBoard f { s with transit := x }) := by
  constructor <;> simp

theorem State.boardActs.onLink (s : State) (l : Nat) (f : Display → Display) : s.boardActs (s.onLink l f) := by
  constructor <;> simp

/-- What an event of the board engine or of a link controller leaves. -/
theorem exec_boardEvent {c : Instr} {s t : State} (h : c.isBoardEvent = true) (ht : exec c s = .next t) :
    s.boardActs t := by
  cases c <;> cases h <;> cases ht
  case boardHandoff | minuteChange | sessionChange | tapeStateChange =>
    split
    · exact .refl s
    · exact .onBoard s _ _
  case highlightExpiry => exact .onBoard s s.transit _
  case frameSent =>
    split
    · exact .refl s
    · exact .refl s
    · exact ⟨rfl, rfl, rfl, rfl, rfl, rfl, rfl, rfl, rfl, .inl rfl⟩
  case moduleAcknowledgement =>
    split
    · exact .refl s
    split
    · exact .onLink s _ _
    · exact .refl s
  case moduleAckTimeout l =>
    split
    · exact .refl s
    next m deadline _ =>
    split
    · split
      · have acts := State.boardActs.onLink s l fun d => d.timedOut l m
        exact ⟨acts.pending, acts.inReset, acts.mode, acts.quote, acts.tape, acts.pages, acts.notices, acts.timebase,
          acts.items, .inr (by simp [State.record, State.setPort, State.port])⟩
      · exact .onLink s _ _
    · exact .refl s
  case keepAliveDue | probeDue =>
    split
    · exact .onLink s _ _
    · exact .refl s
  case settleExpiry =>
    split
    · exact .refl s
    split
    · exact .onLink s _ _
    · exact .refl s

/-! ### What an event of the ribbons leaves -/

/-- An action of the ribbon engine: everything but the ribbons, the digit references of the records, the handoffs on
their way and the S-port's error status stays. -/
structure State.tapeActs (s t : State) : Prop where
  pending : t.pending = s.pending
  inReset : t.inReset = s.inReset
  mode : t.mode = s.mode
  directory : t.quote.directory = s.quote.directory
  session : t.quote.session = s.quote.session
  records : ∀ {α : Type} (π : Instrument → α), (∀ v r w, π (Instrument.setDigitRef r w v) = π v) → s.sameRecords π t
  display : t.display = s.display
  pages : t.pages = s.pages
  notices : t.notices = s.notices
  timebase : t.timebase = s.timebase
  items : t.items = s.items
  ports : t.ports = s.ports ∨ t.ports = (s.record .supervisor .ribbonFault).ports

theorem State.tapeActs.refl (s : State) : s.tapeActs s :=
  ⟨rfl, rfl, rfl, rfl, rfl, fun _ _ => .refl s, rfl, rfl, rfl, rfl, rfl, .inl rfl⟩

theorem State.tapeActs.setTape (s : State) (x : Tape) (y : Transit) :
    s.tapeActs { s with tape := x, transit := y } :=
  ⟨rfl, rfl, rfl, rfl, rfl, fun _ _ => .of_instruments rfl, rfl, rfl, rfl, rfl, rfl, .inl rfl⟩

@[simp] theorem State.entryQuote_directory (r : Nat) (mode : LateMode) (e : TapeEntry) (s : State) :
    (s.entryQuote r mode e).directory = s.quote.directory := by
  unfold State.entryQuote
  split
  · rfl
  · dsimp only
    split <;> rfl

@[simp] theorem State.entryQuote_session (r : Nat) (mode : LateMode) (e : TapeEntry) (s : State) :
    (s.entryQuote r mode e).session = s.quote.session := by
  unfold State.entryQuote
  split
  · rfl
  · dsimp only
    split <;> rfl

theorem State.tapeActs.entryStart (r : Nat) (e : TapeEntry) (rest : List TapeEntry) (s : State) :
    s.tapeActs (s.entryStart r e rest) :=
  ⟨rfl, rfl, rfl, State.entryQuote_directory .., State.entryQuote_session ..,
    fun _ hπ => State.entryStart_records hπ r e rest s, rfl, rfl, rfl, rfl, rfl, .inl rfl⟩

theorem State.tapeActs.freed (r : Nat) (s : State) : s.tapeActs (s.freed r) := by
  unfold State.freed
  dsimp only
  split
  · exact .setTape s _ s.transit
  · exact .entryStart r _ _ s
  · exact .setTape s _ s.transit

/-- Two actions of the ribbon engine one after the other, the second recording no condition. -/
theorem State.tapeActs.then {s t u : State} (h : s.tapeActs t) (g : t.tapeActs u) (ports : u.ports = t.ports) :
    s.tapeActs u where
  pending := g.pending.trans h.pending
  inReset := g.inReset.trans h.inReset
  mode := g.mode.trans h.mode
  directory := g.directory.trans h.directory
  session := g.session.trans h.session
  records π hπ := (h.records π hπ).trans (g.records π hπ)
  display := g.display.trans h.display
  pages := g.pages.trans h.pages
  notices := g.notices.trans h.notices
  timebase := g.timebase.trans h.timebase
  items := g.items.trans h.items
  ports := by rw [ports]; exact h.ports

theorem State.tapeActs.appendEntry (r : Nat) (e : TapeEntry) (s : State) : s.tapeActs (s.appendEntry r e) := by
  unfold State.appendEntry
  dsimp only
  split
  · split
    · exact (State.tapeActs.setTape s _ s.transit).then (.freed r _) (by simp)
    · exact .setTape s _ s.transit
  all_goals exact .setTape s _ s.transit

theorem State.tapeActs.foldl {β : Type} {f : State → β → State} (hf : ∀ s a, State.tapeActs s (f s a))
    (ports : ∀ s a, (f s a).ports = s.ports) (l : List β) (s : State) : s.tapeActs (l.foldl f s) := by
  induction l using List.reverseRecOn with
  | nil => exact .refl s
  | append_singleton l a ih =>
    rw [List.foldl_append]
    exact ih.then (hf _ a) (ports _ a)

theorem State.tapeActs.appendNotice (rs : List Nat) (text : Text) (i : Option Nat) (s : State) :
    s.tapeActs (s.appendNotice rs text i) :=
  .foldl (fun s r => .appendEntry r _ s) (fun _ _ => State.appendEntry_ports ..) rs s

theorem State.tapeActs.appendPrint (rs : List Nat) (i n : Nat) (s : State) : s.tapeActs (s.appendPrint rs i n) :=
  .foldl (fun s r => .appendEntry r _ s) (fun _ _ => State.appendEntry_ports ..) rs s

theorem State.tapeActs.tapeStep (rs : List Nat) (i n : Nat) (b : Bool) (text : Text) (s : State) :
    s.tapeActs (s.tapeStep rs i n b text) := by
  refine .foldl (fun s r => ?_) (fun s r => ?_) rs s
  · split
    · split
      · exact .setTape s _ s.transit
      · exact .refl s
    · exact .appendEntry r _ s
  · split
    · split <;> rfl
    · exact State.appendEntry_ports ..

/-- What an event of the ribbon engine leaves. -/
theorem exec_tapeEvent {c : Instr} {s t : State} (h : c.isTapeEvent = true) (ht : exec c s = .next t) :
    s.tapeActs t := by
  cases c <;> cases h <;> cases ht
  case departedCopyHandoff =>
    split
    · exact .refl s
    · exact .setTape s _ _
  case blockFrameSent =>
    split
    · exact .refl s
    split
    · exact .refl s
    · exact .setTape s _ s.transit
  case ribbonAcknowledgement =>
    split
    · exact .refl s
    split
    · exact .refl s
    split
    · exact .setTape s _ s.transit
    · exact .refl s
  case pacingCountEnd r =>
    split
    · exact .freed r s
    · exact .refl s
  case ribbonAckTimeout =>
    split
    · exact .refl s
    split
    · exact .refl s
    split
    · exact ⟨rfl, rfl, rfl, rfl, rfl, fun _ _ => .of_instruments rfl, rfl, rfl, rfl, rfl, rfl, .inr rfl⟩
    · exact .refl s
  case readyRise u =>
    split
    · have acts := State.tapeActs.freed (s.servedBy u) { s with tape := s.tape.setReady u true }
      exact ⟨acts.pending, acts.inReset, acts.mode, acts.directory, acts.session,
        fun π hπ => (State.tapeActs.setTape s _ s.transit).records π hπ |>.trans (acts.records π hπ), acts.display, acts.pages, acts.notices,
        acts.timebase, acts.items, acts.ports⟩
    · exact .setTape s _ s.transit
  case readyFall => exact .setTape s _ s.transit
  case lateNoticeExpiry =>
    split
    · exact .refl s
    split
    · exact .setTape s _ s.transit
    · exact .refl s

end Sys2Proof.Machine
end

section
/-! The step and the queue of commands (R182). -/

namespace Sys2Proof.Machine

/-- Settles O1: the two branches of the step. -/
theorem stepTakesTheFrontCommand : Obligations.StepTakesTheFrontCommand :=
  ⟨fun c rest s front => by simp [step, front], fun s empty => by simp [step, empty]⟩

theorem exec_next (c : Instr) (s : State) : ∃ t, exec c s = .next t := by
  cases c <;> exact ⟨_, rfl⟩

/-- Neither a port unit nor an engine moves the queue of commands or the RESET level. -/
theorem portKept_queue (s : State) : PortKept fun t => t.pending = s.pending ∧ t.inReset = s.inReset where
  port _ _ _ h := h
  buffer _ _ h := h
  expectation _ _ h := h
  terminals _ h := h
  engine p r ops t h := by simpa using h

/-- Settles O2: the rows of the ports by what the port units and the engines keep, the events one block at a time. -/
theorem commandsRunAndLeaveTheQueue : Obligations.CommandsRunAndLeaveTheQueue := by
  intro c s
  obtain ⟨t, ht⟩ := exec_next c s
  refine ⟨t, ht, ?_⟩
  obtain ⟨r, p, w, k, rfl⟩ | row | event := c.kinds
  · obtain ⟨pending, inReset⟩ := (portKept_queue s).row r ⟨rfl, rfl⟩ ht
    exact ⟨pending, fun _ _ => inReset⟩
  · obtain ⟨pending, inReset⟩ := (portKept_queue s).portRow ⟨rfl, rfl⟩ row ht
    exact ⟨pending, fun _ _ => inReset⟩
  cases event with
  | board h => exact ⟨(exec_boardEvent h ht).pending, fun _ _ => (exec_boardEvent h ht).inReset⟩
  | tape h => exact ⟨(exec_tapeEvent h ht).pending, fun _ _ => (exec_tapeEvent h ht).inReset⟩
  | rollRecord => 
    cases ht
    split
    · simp
    · split <;> simp
  | pageHandoff =>
    cases ht
    split
    · simp
    · rw [State.takePageChange_frame]; simp
  | noticeRaise =>
    cases ht
    split <;> simp
  | tick =>
    cases ht
    split <;> simp
  | dayClockAdvance =>
    cases ht
    split <;> simp
  | deviceReset => cases ht; exact ⟨rfl, fun h => absurd rfl h⟩
  | resetRelease =>
    cases ht
    exact ⟨by split <;> rfl, fun _ h => absurd rfl h⟩

end Sys2Proof.Machine
end

section
/-! Every record stays what its print list, anchors and quote give (R4 to R9, R57): what a print list is, what each
action of the quote engine makes of a record, and then every command. -/

namespace Sys2Proof.Machine

/-! ### The numbers of a print list -/

/-- A print list as R4 numbers it: at most 8 prints, their numbers following one another in the cycle 1 to 65535 up to
the next print number. -/
structure PrintsInOrder (l : List Print) (next : Nat) : Prop where
  length : l.length ≤ Config.printListLength
  range : 1 ≤ next ∧ next ≤ 65535
  numbers : ∀ p ∈ l, 1 ≤ p.number ∧ p.number ≤ 65535
  chain : l.IsChain fun p q => q.number = successor p.number
  newest : ∀ p, l.getLast? = some p → next = successor p.number

theorem isChain_numbers_iff (l : List Print) : (l.IsChain fun p q => q.number = successor p.number) ↔
    ∀ (k : Nat) (p q : Print), l[k]? = some p → l[k + 1]? = some q → q.number = successor p.number := by
  rw [List.isChain_iff_getElem]
  constructor
  · intro h k p q hp hq
    obtain ⟨_, rfl⟩ := List.getElem?_eq_some_iff.mp hp
    obtain ⟨hk, rfl⟩ := List.getElem?_eq_some_iff.mp hq
    exact h k hk
  · intro h k hk
    exact h k _ _ (List.getElem?_eq_getElem _) (List.getElem?_eq_getElem hk)

theorem Instrument.derived.prints {v : Instrument} (h : v.derived) : PrintsInOrder v.prints v.nextNumber :=
  ⟨h.length, h.next, h.numbers, (isChain_numbers_iff _).mpr h.chain, h.newest⟩

/-- A record is derived where its print list is in order and the derived fields are. -/
theorem Instrument.derived.of {v : Instrument} (prints : PrintsInOrder v.prints v.nextNumber)
    (high : v.high = greatest (priceCollection v)) (low : v.low = least (priceCollection v))
    (last : v.last = derivedLast v) (tick : v.tick = derivedTick v)
    (condition : v.quoteCondition = quoteConditionOf v.bid v.ask v.fast) : v.derived :=
  ⟨high, low, last, tick, condition, prints.length, prints.range, prints.numbers,
    (isChain_numbers_iff _).mp prints.chain, prints.newest⟩

theorem PrintsInOrder.nil {next : Nat} (h : 1 ≤ next ∧ next ≤ 65535) : PrintsInOrder [] next :=
  ⟨Nat.zero_le _, h, nofun, .nil, nofun⟩

theorem successor_range {n : Nat} (h : 1 ≤ n) : 1 ≤ successor n ∧ successor n ≤ 65535 := by
  unfold successor
  split <;> omega

theorem PrintsInOrder.tail {p : Print} {l : List Print} {next : Nat} (h : PrintsInOrder (p :: l) next) :
    PrintsInOrder l next where
  length := Nat.le_of_succ_le h.length
  range := h.range
  numbers q hq := h.numbers q (List.mem_cons_of_mem _ hq)
  chain := h.chain.tail
  newest q hq := h.newest q (by
    cases l with
    | nil => cases hq
    | cons r l => simpa using hq)

/-- A print with the next number joins a list that has room. -/
theorem PrintsInOrder.append {l : List Print} {p : Print} (h : PrintsInOrder l p.number)
    (room : l.length < Config.printListLength) : PrintsInOrder (l ++ [p]) (successor p.number) where
  length := by simpa using room
  range := successor_range h.range.1
  numbers q hq := by
    obtain hq | rfl := List.mem_append.mp hq |>.imp_right List.mem_singleton.mp
    · exact h.numbers q hq
    · exact h.range
  chain := List.isChain_append.mpr ⟨h.chain, .singleton p, fun q hq r hr => by
    cases hr; exact h.newest q hq⟩
  newest q hq := by
    obtain rfl : p = q := by simpa using hq
    rfl

/-- Prints are replaced by prints of the same number. -/
theorem PrintsInOrder.map {l : List Print} {next : Nat} (h : PrintsInOrder l next) {f : Print → Print}
    (same : ∀ p, (f p).number = p.number) : PrintsInOrder (l.map f) next where
  length := by simpa using h.length
  range := h.range
  numbers q hq := by
    obtain ⟨p, hp, rfl⟩ := List.mem_map.mp hq
    exact (same p).symm ▸ h.numbers p hp
  chain := by
    rw [List.isChain_map]
    simpa only [same] using h.chain
  newest q hq := by
    rw [List.getLast?_map] at hq
    obtain ⟨p, hp, rfl⟩ := Option.map_eq_some_iff.mp hq
    exact (same p).symm ▸ h.newest p hp

/-- The number of the `k`-th print, counted on in the cycle from that of the first. -/
theorem PrintsInOrder.number_at {p : Print} {l : List Print} {next : Nat} (h : PrintsInOrder (p :: l) next) (k : Nat)
    (q : Print) (hq : (p :: l)[k]? = some q) : q.number = (p.number - 1 + k) % 65535 + 1 := by
  have inRange := h.numbers p List.mem_cons_self
  induction k generalizing q with
  | zero =>
    obtain rfl : p = q := by simpa using hq
    rw [Nat.add_zero, Nat.mod_eq_of_lt (by omega)]
    omega
  | succ k ih =>
    obtain ⟨hk, rfl⟩ := List.getElem?_eq_some_iff.mp hq
    have before := ih _ (List.getElem?_eq_getElem (Nat.lt_of_succ_lt hk))
    have follows := (isChain_numbers_iff _).mp h.chain k _ _ (List.getElem?_eq_getElem (Nat.lt_of_succ_lt hk)) hq
    rw [follows, before]
    unfold successor
    split <;> omega

/-- A print list bears each number once. -/
theorem PrintsInOrder.unique {l : List Print} {next : Nat} (h : PrintsInOrder l next) {p q : Print} (hp : p ∈ l)
    (hq : q ∈ l) (same : p.number = q.number) : p = q := by
  cases l with
  | nil => cases hp
  | cons r l =>
    obtain ⟨i, hi⟩ := List.mem_iff_getElem?.mp hp
    obtain ⟨j, hj⟩ := List.mem_iff_getElem?.mp hq
    have short : (r :: l).length ≤ 8 := h.length
    have hi8 := (List.getElem?_eq_some_iff.mp hi).1
    have hj8 := (List.getElem?_eq_some_iff.mp hj).1
    have ni := h.number_at i p hi
    have nj := h.number_at j q hj
    obtain rfl : i = j := by omega
    exact Option.some.inj (hi.symm.trans hj)

/-! ### The newest VALID REGULAR print -/

theorem newestValidRegular_concat (l : List Print) (p : Print) :
    newestValidRegular (l ++ [p]) = if p.counts then some p else newestValidRegular l := by
  unfold newestValidRegular
  rw [List.filter_append]
  by_cases h : p.counts = true <;> simp [h]

theorem newestValidRegular_cons (p : Print) (l : List Print) :
    newestValidRegular (p :: l) = (newestValidRegular l).or (if p.counts then some p else none) := by
  unfold newestValidRegular
  by_cases h : p.counts = true
  · cases he : l.filter Print.counts <;> simp [h, he, List.getLast?_cons]
  · simp [h]

theorem newestValidRegular_mem {l : List Print} {p : Print} (h : newestValidRegular l = some p) :
    p ∈ l ∧ p.counts = true :=
  List.mem_filter.mp (List.mem_of_getLast? h)

/-- Prints are replaced, each by one that counts as it does. -/
theorem newestValidRegular_map {l : List Print} {f : Print → Print} (same : ∀ p ∈ l, (f p).counts = p.counts) :
    newestValidRegular (l.map f) = (newestValidRegular l).map f := by
  unfold newestValidRegular
  rw [List.filter_map, List.getLast?_map]
  exact congrArg (fun l => (List.getLast? l).map f) (List.filter_congr same)

/-- A print other than the newest is replaced by one that does not count, and the newest stays. -/
theorem newestValidRegular_drop {l : List Print} {f : Print → Print} {number : Nat}
    (out : ∀ p, p.number = number → (f p).counts = false) (rest : ∀ p, p.number ≠ number → f p = p)
    (older : (newestValidRegular l).map (·.number) ≠ some number) :
    newestValidRegular (l.map f) = newestValidRegular l := by
  induction l using List.reverseRecOn with
  | nil => rfl
  | append_singleton l p ih =>
    rw [List.map_append, List.map_singleton, newestValidRegular_concat, newestValidRegular_concat]
    rw [newestValidRegular_concat] at older
    by_cases this : p.number = number
    · rw [out p this]
      by_cases counts : p.counts = true
      · simp [counts, this] at older
      · simpa [counts] using ih (by simpa [counts] using older)
    · rw [rest p this]
      by_cases counts : p.counts = true
      · simp [counts]
      · simpa [counts] using ih (by simpa [counts] using older)

end Sys2Proof.Machine
end

section
/-! Every record stays what its print list, anchors and quote give (R4 to R9, R57): what each action of the quote
engine makes of a record, and then every command. -/

namespace Sys2Proof.Machine

/-! ### What each action makes of a record -/

/-- What a record's derived fields do not follow from: the binding list head, the viewers and the digit references. -/
def Instrument.bare (v : Instrument) : Instrument :=
  { v with bindHead := none, viewers := [], digitRef0 := none, digitRef1 := none }

theorem Instrument.derived_bare {v : Instrument} : v.bare.derived ↔ v.derived :=
  ⟨fun h => ⟨h.high, h.low, h.last, h.tick, h.condition, h.length, h.next, h.numbers, h.chain, h.newest⟩,
    fun h => ⟨h.high, h.low, h.last, h.tick, h.condition, h.length, h.next, h.numbers, h.chain, h.newest⟩⟩

/-- The print numbers begin at 1 (R4). -/
theorem nextNumber_start : 1 ≤ 1 ∧ 1 ≤ 65535 := by decide

theorem derived_vacant : Instrument.vacant.derived := .of (.nil nextNumber_start) rfl rfl rfl rfl rfl

theorem derived_vacated (v : Instrument) : v.vacated.derived := .of (.nil nextNumber_start) rfl rfl rfl rfl rfl

theorem derived_definedInstrument (ops : List Word) (v : Instrument) : (definedInstrument ops v).derived :=
  .of (.nil nextNumber_start) rfl rfl rfl rfl rfl

theorem derived_rolled (v : Instrument) : v.rolled.derived := .of (.nil nextNumber_start) rfl rfl rfl rfl rfl

section Actions

variable {v : Instrument} (h : v.derived)
include h

theorem Instrument.derived.modified (ops : List Word) : (modifiedInstrument ops v).derived :=
  .of h.prints h.high h.low h.last h.tick h.condition

theorem Instrument.derived.trading (x : TradingState) : ({ v with trading := x } : Instrument).derived :=
  .of h.prints h.high h.low h.last h.tick h.condition

theorem Instrument.derived.quoted (ops : List Word) : (quotedInstrument ops v).derived :=
  .of h.prints h.high h.low h.last h.tick rfl

theorem Instrument.derived.withFast (fast : Bool) : (v.withFast fast).derived :=
  .of h.prints h.high h.low h.last h.tick rfl

end Actions

/-! A trade (R51) -/

@[simp] theorem counts_formPrint (price size : Nat) (late : Bool) (v : Instrument) :
    (formPrint price size late v).counts = !late := by
  cases late <;> rfl

@[simp] theorem foldAnchor_carriedTick (p : Print) (v : Instrument) : (foldAnchor p v).carriedTick = v.carriedTick := by
  unfold foldAnchor
  split <;> rfl

/-- Last with its stored tick as the print list and the anchors give them: R7 and R8 in one. -/
def Instrument.sale (v : Instrument) : Option AnchorSale :=
  match newestValidRegular v.prints with
  | some p => some ⟨p.price, p.size, p.storedTick⟩
  | none => v.anchorLast

theorem derivedLast_eq (v : Instrument) : derivedLast v = v.sale.map fun a => ⟨a.price, a.size⟩ := by
  unfold derivedLast Instrument.sale
  cases newestValidRegular v.prints <;> rfl

theorem derivedTick_eq (v : Instrument) : derivedTick v = (v.sale.map (·.tick)).getD v.carriedTick := by
  unfold derivedTick Instrument.sale
  cases newestValidRegular v.prints with
  | some p => rfl
  | none => cases v.anchorLast <;> rfl

/-- The anchors take over what a print that leaves the list showed (R5). -/
theorem anchorLast_foldAnchor (p : Print) (v : Instrument) :
    (foldAnchor p v).anchorLast =
      if p.counts then some ⟨p.price, p.size, p.storedTick⟩ else v.anchorLast := by
  unfold foldAnchor Print.counts Print.isRegular Print.storedTick
  cases p.valid <;> cases p.kind <;> simp

theorem prints_joinPrint (p : Print) (v : Instrument) : (joinPrint p v).prints =
    (if Config.printListLength ≤ v.prints.length then v.prints.tail else v.prints) ++ [p] := by
  unfold joinPrint
  split
  next none => simp [none]
  next first rest list => rw [list]; split <;> rfl

theorem anchorLast_joinPrint (p : Print) (v : Instrument) : (joinPrint p v).anchorLast =
    match leavingPrint v with
    | some q => (foldAnchor q v).anchorLast
    | none => v.anchorLast := by
  unfold joinPrint leavingPrint
  cases v.prints with
  | nil => rfl
  | cons first rest => dsimp only; split <;> rfl

/-- The print that joins shows, where it is REGULAR; where it is LATE what showed before does (R5, R7, R8). -/
theorem sale_joinPrint (p : Print) (v : Instrument) : (joinPrint p v).sale =
    if p.counts then some ⟨p.price, p.size, p.storedTick⟩ else v.sale := by
  unfold Instrument.sale
  rw [prints_joinPrint, newestValidRegular_concat, anchorLast_joinPrint]
  by_cases counts : p.counts = true
  · simp [counts]
  simp only [counts, if_false, Bool.false_eq_true, leavingPrint]
  by_cases full : Config.printListLength ≤ v.prints.length
  · cases list : v.prints with
    | nil => simp [list, Config.printListLength] at full
    | cons first rest =>
      rw [list] at full
      simp only [full, if_true, List.tail_cons, newestValidRegular_cons, List.head?_cons, anchorLast_foldAnchor]
      cases newestValidRegular rest with
      | some q => rfl
      | none => by_cases c : first.counts = true <;> simp [c]
  · simp [full]

/-- Nothing but the print list and the anchors changes where a print joins (R5). -/
theorem joinPrint_eq (p : Print) (v : Instrument) : joinPrint p v =
    { v with
      prints := (joinPrint p v).prints, anchorHigh := (joinPrint p v).anchorHigh
      anchorLow := (joinPrint p v).anchorLow, anchorLast := (joinPrint p v).anchorLast } := by
  unfold joinPrint foldAnchor
  split
  · rfl
  · split
    · split <;> rfl
    · rfl

@[simp] theorem joinPrint_last (p : Print) (v : Instrument) : (joinPrint p v).last = v.last := by
  rw [joinPrint_eq]

@[simp] theorem joinPrint_tick (p : Print) (v : Instrument) : (joinPrint p v).tick = v.tick := by
  rw [joinPrint_eq]

@[simp] theorem joinPrint_carriedTick (p : Print) (v : Instrument) : (joinPrint p v).carriedTick = v.carriedTick := by
  rw [joinPrint_eq]

theorem derived_acceptPrint {v : Instrument} (h : v.derived) (price size : Nat) (late : Bool) :
    (acceptPrint (formPrint price size late v) v).derived := by
  have sale := sale_joinPrint (formPrint price size late v) v
  have prints : PrintsInOrder (joinPrint (formPrint price size late v) v).prints (successor v.nextNumber) := by
    rw [prints_joinPrint]
    have order := h.prints
    refine PrintsInOrder.append (p := formPrint price size late v) ?_ ?_ <;> split
    next => cases list : v.prints with
      | nil => exact .nil h.next
      | cons first rest => exact (list ▸ order).tail
    next => exact order
    next full => have := order.length; simp [Config.printListLength] at *; omega
    next room => omega
  have same : (acceptPrint (formPrint price size late v) v).sale =
      (joinPrint (formPrint price size late v) v).sale := by cases late <;> rfl
  rw [counts_formPrint] at sale
  refine .of ?prints rfl rfl ?last ?tick ?condition
  case prints => cases late <;> exact prints
  case last =>
    rw [derivedLast_eq, same, sale]
    cases late with
    | false => rfl
    | true => exact (joinPrint_last _ v).trans (h.last.trans (derivedLast_eq v))
  case tick =>
    rw [derivedTick_eq, same, sale]
    cases late with
    | false => rfl
    | true =>
      show (joinPrint (formPrint price size true v) v).tick =
        (Option.map AnchorSale.tick v.sale).getD (joinPrint (formPrint price size true v) v).carriedTick
      rw [joinPrint_carriedTick, joinPrint_tick, h.tick, derivedTick_eq]
  case condition =>
    have condition : (joinPrint (formPrint price size late v) v).quoteCondition =
        quoteConditionOf (joinPrint (formPrint price size late v) v).bid
          (joinPrint (formPrint price size late v) v).ask (joinPrint (formPrint price size late v) v).fast := by
      rw [joinPrint_eq]; exact h.condition
    cases late <;> exact condition

/-! A cancel or a correction (R67, R69) -/

/-- A print found by its number stands in the list and bears it. -/
theorem Instrument.print_mem {v : Instrument} {n : Nat} {p : Print} (h : v.print n = some p) :
    p ∈ v.prints ∧ p.number = n :=
  ⟨List.mem_of_find?_eq_some h, by simpa using List.find?_some h⟩

/-- What a print of the list becomes where the print with the number of `q` is replaced by `q`. -/
def Print.replacedBy (q p : Print) : Print := if p.number = q.number then q else p

theorem Instrument.replacePrint_eq (v : Instrument) (q : Print) : v.replacePrint q = v.prints.map q.replacedBy := rfl

theorem Print.number_replacedBy (q p : Print) : (q.replacedBy p).number = p.number := by
  unfold Print.replacedBy
  split
  next same => exact same.symm
  next => rfl

theorem Instrument.derived.replaced {v : Instrument} (h : v.derived) (q : Print) :
    PrintsInOrder (v.replacePrint q) v.nextNumber :=
  h.prints.map q.number_replacedBy

theorem derived_cancel {v : Instrument} (h : v.derived) (p : Print) : (v.cancel p).derived := by
  have prints := h.replaced { p with valid := false }
  unfold Instrument.cancel
  dsimp only
  split
  next newest => exact .of prints rfl rfl rfl rfl h.condition
  next older =>
    have stays : newestValidRegular (v.replacePrint { p with valid := false }) = newestValidRegular v.prints :=
      newestValidRegular_drop (number := p.number)
        (fun x hx => by simp [hx, Print.counts])
        (fun x hx => by simp [hx])
        (by simpa [Instrument.isNewest] using older)
    refine .of prints rfl rfl ?_ ?_ h.condition
    · show v.last = _
      rw [h.last]
      unfold derivedLast
      exact stays ▸ rfl
    · show v.tick = _
      rw [h.tick]
      unfold derivedTick
      exact stays ▸ rfl

@[simp] theorem counts_correctedPrint (p : Print) (price size : Nat) (v : Instrument) :
    (correctedPrint p price size v).counts = p.counts := by
  unfold correctedPrint Print.counts Print.isRegular
  cases p.kind <;> rfl

theorem derived_correct {v : Instrument} (h : v.derived) {p : Print} (hp : p ∈ v.prints) (price size : Nat) :
    (v.correct p price size).derived := by
  have prints := h.replaced (correctedPrint p price size v)
  have newest : newestValidRegular (v.replacePrint (correctedPrint p price size v)) =
      (newestValidRegular v.prints).map (correctedPrint p price size v).replacedBy := by
    refine newestValidRegular_map fun x hx => ?_
    split
    next same => rw [h.prints.unique hx hp same, counts_correctedPrint]
    next => rfl
  unfold Instrument.correct
  dsimp only
  split
  next isNewest =>
    obtain ⟨x, found, same⟩ : ∃ x, newestValidRegular v.prints = some x ∧ x.number = p.number := by
      simpa [Instrument.isNewest] using isNewest
    have shown : newestValidRegular (v.replacePrint (correctedPrint p price size v)) =
        some (correctedPrint p price size v) := by
      rw [newest, found]
      exact congrArg some (if_pos same)
    refine .of prints rfl rfl ?_ ?_ h.condition
    · unfold derivedLast
      exact shown ▸ rfl
    · unfold derivedTick
      exact shown ▸ rfl
  next older =>
    have stays : newestValidRegular (v.replacePrint (correctedPrint p price size v)) = newestValidRegular v.prints := by
      rw [newest]
      cases found : newestValidRegular v.prints with
      | none => rfl
      | some x =>
        have other : x.number ≠ p.number := by simpa [Instrument.isNewest, found] using older
        exact congrArg some (if_neg other)
    refine .of prints rfl rfl ?_ ?_ h.condition
    · show v.last = _
      rw [h.last]
      unfold derivedLast
      exact stays ▸ rfl
    · show v.tick = _
      rw [h.tick]
      unfold derivedTick
      exact stays ▸ rfl

end Sys2Proof.Machine
end

section
/-! Every command keeps the records derived (R4 to R9, R57). -/

namespace Sys2Proof.Machine

/-! ### Engines that keep a property -/

/-- Whatever the engine answers, the state after it has the property where the state before had it. -/
def Engine.Keeps (Q : State → Prop) (e : Engine) : Prop := ∀ ops s, Q s → Q (e ops s).state

section Keeps

variable {Q : State → Prop}

theorem Engine.Keeps.checked {check : List Word → State → Option Answer} {act : Engine}
    (h : ∀ ops s, check ops s = none → Q s → Q (act ops s).state) : Engine.Keeps Q (checked check act) := by
  intro ops s hs
  unfold Machine.checked
  split
  next => exact hs
  next passes => exact h ops s passes hs

theorem Engine.Keeps.liveOnly {body : Engine} (h : body.Keeps Q) : Engine.Keeps Q (liveOnly body) := by
  intro ops s hs
  unfold Machine.liveOnly
  split
  · exact hs
  · exact h ops s hs

theorem PortKept.recordSome (h : ∀ (s : State) (p : PortId) (v : Port), Q s → Q (s.setPort p v)) {s : State}
    (p : PortId) (c : Option Condition) (hs : Q s) : Q (s.recordSome p c) := by
  cases c with
  | none => exact hs
  | some c => exact h s p _ hs

/-- A report moves the expectation and records conditions, beside what its body does (R43, R48). -/
theorem Engine.Keeps.reportEngine {body : Engine} (port : ∀ (s : State) (p : PortId) (v : Port), Q s → Q (s.setPort p v))
    (expectation : ∀ (s : State) e, Q s → Q (s.setExpectation e)) (h : body.Keeps Q) :
    Engine.Keeps Q (reportEngine body) := by
  have after (c : SequenceClass) (n : Nat) {x : Result} (hx : Q x.state) : Q (afterReport c n x).state := by
    unfold afterReport
    split
    · exact hx
    · exact PortKept.recordSome port _ _ (PortKept.recordSome port _ _ (expectation _ _ hx))
  intro ops s hs
  unfold Machine.reportEngine
  split
  · exact hs
  split
  · exact hs
  split
  · exact hs
  · exact after _ _ (h ops s hs)
  · exact after _ _ (h ops s hs)

/-- An engine that leaves what the property reads keeps it. -/
theorem Engine.Keeps.of_eq {α : Type} {π : State → α} (reads : ∀ s t, π t = π s → Q s → Q t) {e : Engine}
    (same : ∀ ops s, π (e ops s).state = π s) : e.Keeps Q := fun ops s hs => reads s _ (same ops s) hs

end Keeps

/-! ### The records -/

@[simp] theorem Instrument.bare_setDigitRef (r : Nat) (w : Option Nat) (v : Instrument) :
    (v.setDigitRef r w).bare = v.bare := by
  unfold Instrument.setDigitRef
  split <;> rfl

section Records

variable {s t : State}

theorem State.recordsDerived.same (hs : s.recordsDerived) (h : s.sameRecords Instrument.bare t) : t.recordsDerived := by
  obtain ⟨wf, derived⟩ := hs
  refine ⟨h.wf wf, fun i => ?_⟩
  rw [← Instrument.derived_bare, h.same wf i, Instrument.derived_bare]
  exact derived i

theorem State.recordsDerived.of_quote (s t : State) (h : t.quote = s.quote) (hs : s.recordsDerived) : t.recordsDerived :=
  hs.same (.of_instruments (congrArg Quote.instruments h))

theorem State.recordsDerived.setInstr (hs : s.recordsDerived) (i : Nat) {v : Instrument} (h : v.derived) :
    (s.setInstr i v).recordsDerived := by
  refine ⟨State.wf_setInstr i v hs.1, fun j => ?_⟩
  by_cases same : j = i
  · subst same
    rwa [State.instr_setInstr_self]
  · rw [State.instr_setInstr_ne _ _ same]
    exact hs.2 j

theorem State.recordsDerived.change (hs : s.recordsDerived) (i : Nat) {v : Instrument} (h : v.derived) (e : Bool) :
    (s.change i v e).recordsDerived := (hs.setInstr i h).same (.of_instruments rfl)

theorem State.recordsDerived.appendNotice (hs : s.recordsDerived) (rs : List Nat) (text : Text) (i : Option Nat) :
    (s.appendNotice rs text i).recordsDerived :=
  hs.same (State.appendNotice_records (fun v r w => v.bare_setDigitRef r w) rs text i s)

theorem State.recordsDerived.tapeStep (hs : s.recordsDerived) (rs : List Nat) (i n : Nat) (b : Bool) (text : Text) :
    (s.tapeStep rs i n b text).recordsDerived :=
  hs.same (State.tapeStep_records (fun v r w => v.bare_setDigitRef r w) rs i n b text s)

theorem State.recordsDerived.changeSession (hs : s.recordsDerived) (x : Session) (text : Text) :
    (s.changeSession x text).recordsDerived :=
  hs.same (State.changeSession_records (fun v r w => v.bare_setDigitRef r w) x text s)

theorem State.recordsDerived.setBindingHead (hs : s.recordsDerived) (f : CellField) (h : Option Nat) :
    (s.setBindingHead f h).recordsDerived := by
  cases f with
  | instrument f i => exact hs.same (.setInstr s i _ rfl)
  | clock => exact hs
  | market => exact hs
  | tapeState r => exact hs

end Records

/-! ### The engines -/

theorem recordsDerived_tradeReport : Engine.Keeps State.recordsDerived tradeReportEngine :=
  .reportEngine (fun _ _ _ hs => hs) (fun _ _ hs => hs) <| .checked fun ops s _ hs => by
    have changed := hs.change (operand ops 1) (derived_acceptPrint (hs.2 (operand ops 1))
      ((salePrice ops 2).getD 0) (operandPair ops 4) ((flagOperand ops 6).getD false)) true
    refine State.recordsDerived.same (s := State.depart ..) ?_
      (State.appendPrint_records (fun v r w => v.bare_setDigitRef r w) _ _ _ _)
    exact .of_quote _ _ (by simp) changed

theorem recordsDerived_quoteReport : Engine.Keeps State.recordsDerived quoteReportEngine :=
  .reportEngine (fun _ _ _ hs => hs) (fun _ _ hs => hs) <| .checked fun ops _ _ hs =>
    hs.change _ ((hs.2 _).quoted ops) true

theorem recordsDerived_openSession : Engine.Keeps State.recordsDerived openSessionEngine := by
  intro ops s hs
  unfold openSessionEngine
  split_ifs
  case neg => exact hs.changeSession _ _
  all_goals exact hs

theorem recordsDerived_closeSession : Engine.Keeps State.recordsDerived closeSessionEngine := by
  intro ops s hs
  unfold closeSessionEngine
  split_ifs
  case neg => exact hs.changeSession _ _
  all_goals exact hs

theorem recordsDerived_rollSession : Engine.Keeps State.recordsDerived rollSessionEngine := by
  intro ops s hs
  unfold rollSessionEngine
  split_ifs <;> exact hs

theorem recordsDerived_halt : Engine.Keeps State.recordsDerived haltEngine :=
  .checked fun _ _ _ hs => (hs.change _ ((hs.2 _).trading _) false).appendNotice _ _ _

theorem recordsDerived_resume : Engine.Keeps State.recordsDerived resumeEngine :=
  .checked fun ops s _ hs => by
    dsimp only
    split
    · exact (hs.change _ ((hs.2 _).trading _) false).appendNotice _ _ _
    · exact hs

theorem recordsDerived_fastMarket (fast : Bool) : Engine.Keeps State.recordsDerived (fastMarketEngine fast) :=
  .checked fun ops s _ hs => by
    dsimp only
    split
    · exact hs
    · exact hs.change _ ((hs.2 _).withFast fast) false

theorem recordsDerived_cancelPrint : Engine.Keeps State.recordsDerived cancelPrintEngine :=
  .checked fun ops s _ hs => by
    dsimp only
    split
    · exact hs
    · exact (hs.change _ (derived_cancel (hs.2 _) _) true).tapeStep _ _ _ _ _

theorem recordsDerived_correctPrint : Engine.Keeps State.recordsDerived correctPrintEngine :=
  .checked fun ops s _ hs => by
    dsimp only
    split
    · exact hs
    next p found =>
      exact (hs.change _ (derived_correct (hs.2 _) (Instrument.print_mem found).1 _ _) true).tapeStep _ _ _ _ _

theorem recordsDerived_tapeText : Engine.Keeps State.recordsDerived tapeTextEngine :=
  .checked fun ops s _ hs => by
    dsimp only
    split
    · exact hs.appendNotice _ _ _
    · exact hs
    split
    · exact hs
    next b _ => exact State.recordsDerived.appendNotice (s := s.setTextBuffer none) hs _ _ _

theorem recordsDerived_defineCell : Engine.Keeps State.recordsDerived defineCellEngine :=
  .checked fun _ _ _ hs => .of_quote _ _ (State.onBoard_quote _ _) (hs.setBindingHead _ _)

theorem recordsDerived_removeCell : Engine.Keeps State.recordsDerived removeCellEngine :=
  .checked fun ops s _ hs => by
    dsimp only
    split
    · exact .of_quote _ _ rfl (hs.setBindingHead _ _)
    · exact hs

theorem recordsDerived_openPage : Engine.Keeps State.recordsDerived openPageEngine := by
  refine .liveOnly fun ops s hs => ?_
  split
  · exact hs
  split
  · exact hs.same (State.openPage_records (fun _ _ => rfl) _ _ _ s)
  all_goals exact hs

theorem recordsDerived_closePage (p : PortId) : Engine.Keeps State.recordsDerived (closePageEngine p) := by
  have body : Engine.Keeps State.recordsDerived closePageBody :=
    .checked fun _ s _ hs => hs.same (State.closePage_records (fun _ _ => rfl) _ s)
  unfold closePageEngine
  split
  · exact .liveOnly body
  · exact body

theorem portKept_recordsDerived : PortKept State.recordsDerived where
  port _ _ _ hs := hs
  buffer _ _ hs := hs
  expectation _ _ hs := hs
  terminals s hs := hs.same (State.closeTerminals_records (fun _ _ => rfl) s)
  engine p r := by
    cases r
    case tradeReport => exact recordsDerived_tradeReport
    case quoteReport => exact recordsDerived_quoteReport
    case sequenceReset => exact Engine.Keeps.checked fun _ _ _ hs => hs
    case defineInstrument => exact Engine.Keeps.checked fun ops _ _ hs => hs.change _ (derived_definedInstrument ops _) false
    case modifyInstrument => exact Engine.Keeps.checked fun ops _ _ hs => hs.change _ ((hs.2 _).modified ops) false
    case removeInstrument => exact Engine.Keeps.checked fun _ _ _ hs => hs.setInstr _ (derived_vacated _)
    case openSession => exact recordsDerived_openSession
    case closeSession => exact recordsDerived_closeSession
    case rollSession => exact recordsDerived_rollSession
    case halt => exact recordsDerived_halt
    case resume => exact recordsDerived_resume
    case setFastMarket => exact recordsDerived_fastMarket true
    case clearFastMarket => exact recordsDerived_fastMarket false
    case cancelPrint => exact recordsDerived_cancelPrint
    case correctPrint => exact recordsDerived_correctPrint
    case tapeText => exact recordsDerived_tapeText
    case defineCell => exact recordsDerived_defineCell
    case removeCell => exact recordsDerived_removeCell
    case openPage => exact recordsDerived_openPage
    case closePage => exact recordsDerived_closePage p
    all_goals exact Engine.Keeps.of_eq (π := State.quote) .of_quote (by simp [engineOf])

theorem recordsDerived_atReset (low : Bool) (s : State) : (s.atReset low).recordsDerived :=
  ⟨rfl, fun _ => derived_vacant⟩

theorem recordsDerived_event {c : Instr} {s t : State} (event : c.BlockEvent) (hs : s.recordsDerived)
    (ht : exec c s = .next t) : t.recordsDerived := by
  cases event with
  | board h => exact .of_quote _ _ (exec_boardEvent h ht).quote hs
  | tape h => exact hs.same ((exec_tapeEvent h ht).records _ fun v r w => v.bare_setDigitRef r w)
  | rollRecord =>
    cases ht
    split
    · exact hs
    split
    · exact hs
    · exact State.recordsDerived.change (s := s.setRolling _) hs _ (derived_rolled _) false
  | pageHandoff =>
    cases ht
    split
    · exact hs
    · exact .of_quote _ _ (congrArg State.quote (State.takePageChange_frame _ _)) hs
  | noticeRaise => cases ht; split <;> exact hs
  | tick => cases ht; split <;> exact hs
  | dayClockAdvance => cases ht; split <;> exact hs
  | deviceReset => cases ht; exact recordsDerived_atReset _ s
  | resetRelease =>
    cases ht
    split
    · exact recordsDerived_atReset _ s
    · exact hs

/-- Settles O56: every action of the quote engine leaves a derived record, and nothing else writes the fields. -/
theorem recordsStayDerived : Obligations.RecordsStayDerived := fun _ _ hs ht =>
  step_keeps (fun _ _ hs => hs)
    (fun _ _ _ hs ht => portKept_recordsDerived.exec (fun _ _ _ event hs ht => recordsDerived_event event hs ht) hs ht)
    hs ht

end Sys2Proof.Machine
end

section
/-! What the engines leave of every record: the binding list head and the viewer set, but for the four requests that
move them. -/

namespace Sys2Proof.Machine

/-- The fields of a record that the board engine and the page engine hang on it: the binding list head and the viewer
set (R84, R145). -/
def Instrument.hooks (v : Instrument) : Option Nat × List Nat := (v.bindHead, v.viewers)

@[simp] theorem hooks_setDigitRef (r : Nat) (w : Option Nat) (v : Instrument) : (v.setDigitRef r w).hooks = v.hooks := by
  unfold Instrument.setDigitRef
  split <;> rfl

@[simp] theorem hooks_acceptPrint (price size : Nat) (late : Bool) (v : Instrument) :
    (acceptPrint (formPrint price size late v) v).hooks = v.hooks := by
  have joined : (joinPrint (formPrint price size late v) v).hooks = v.hooks := by
    rw [joinPrint_eq]
    rfl
  cases late <;> exact joined

@[simp] theorem hooks_cancel (p : Print) (v : Instrument) : (v.cancel p).hooks = v.hooks := by
  unfold Instrument.cancel
  dsimp only
  split <;> rfl

@[simp] theorem hooks_correct (p : Print) (price size : Nat) (v : Instrument) : (v.correct p price size).hooks = v.hooks := by
  unfold Instrument.correct
  dsimp only
  split <;> rfl

section SameRecords

variable {α : Type} {π : Instrument → α} {u s t : State}

theorem State.sameRecords.then_eq (hs : u.sameRecords π s) (h : t.quote.instruments = s.quote.instruments) :
    u.sameRecords π t := hs.trans (.of_instruments h)

theorem State.sameRecords.of_quote (s t : State) (h : t.quote = s.quote) (hs : u.sameRecords π s) :
    u.sameRecords π t := hs.then_eq (congrArg Quote.instruments h)

theorem State.sameRecords.then_change (hs : u.sameRecords π s) (i : Nat) (v : Instrument) (e : Bool)
    (h : π v = π (s.instr i)) : u.sameRecords π (s.change i v e) := hs.trans (.change s i v e h)

/-- What stays of every record stays through any further view of it. -/
theorem State.sameRecords.map (hs : s.sameRecords π t) {β : Type} (g : α → β) : s.sameRecords (fun v => g (π v)) t :=
  ⟨fun wf i => congrArg g (hs.same wf i), hs.wf⟩

end SameRecords

section Engines

variable (u : State)

theorem hooks_tradeReport : Engine.Keeps (u.sameRecords Instrument.hooks) tradeReportEngine := by
  refine .reportEngine (fun _ _ _ hs => hs.then_eq rfl) (fun _ _ hs => hs.then_eq rfl) <| .checked fun ops s _ hs => ?_
  have changed := hs.then_change (operand ops 1) _ true (hooks_acceptPrint ((salePrice ops 2).getD 0) (operandPair ops 4)
    ((flagOperand ops 6).getD false) (s.instr (operand ops 1)))
  refine State.sameRecords.trans (t := State.depart ..) ?_
    (State.appendPrint_records (fun v r w => hooks_setDigitRef r w v) _ _ _ _)
  exact .of_quote _ _ (by simp) changed

theorem hooks_changeSession (x : Session) (text : Text) (s : State) (hs : u.sameRecords Instrument.hooks s) :
    u.sameRecords Instrument.hooks (s.changeSession x text) :=
  hs.trans (State.changeSession_records (fun v r w => hooks_setDigitRef r w v) x text s)

theorem hooks_appendNotice (rs : List Nat) (text : Text) (i : Option Nat) (s : State)
    (hs : u.sameRecords Instrument.hooks s) : u.sameRecords Instrument.hooks (s.appendNotice rs text i) :=
  hs.trans (State.appendNotice_records (fun v r w => hooks_setDigitRef r w v) rs text i s)

theorem hooks_tapeStep (rs : List Nat) (i n : Nat) (b : Bool) (text : Text) (s : State)
    (hs : u.sameRecords Instrument.hooks s) : u.sameRecords Instrument.hooks (s.tapeStep rs i n b text) :=
  hs.trans (State.tapeStep_records (fun v r w => hooks_setDigitRef r w v) rs i n b text s)

theorem hooks_openSession : Engine.Keeps (u.sameRecords Instrument.hooks) openSessionEngine := by
  intro ops s hs
  unfold openSessionEngine
  split_ifs
  case neg => exact hooks_changeSession u _ _ s hs
  all_goals exact hs

theorem hooks_closeSession : Engine.Keeps (u.sameRecords Instrument.hooks) closeSessionEngine := by
  intro ops s hs
  unfold closeSessionEngine
  split_ifs
  case neg => exact hooks_changeSession u _ _ s hs
  all_goals exact hs

theorem hooks_rollSession : Engine.Keeps (u.sameRecords Instrument.hooks) rollSessionEngine := by
  intro ops s hs
  unfold rollSessionEngine
  split_ifs
  case neg => exact hs.then_eq rfl
  all_goals exact hs

theorem hooks_resume : Engine.Keeps (u.sameRecords Instrument.hooks) resumeEngine :=
  .checked fun ops s _ hs => by
    dsimp only
    split
    · exact hooks_appendNotice u _ _ _ _ (hs.then_change _ _ false rfl)
    · exact hs

theorem hooks_fastMarket (fast : Bool) : Engine.Keeps (u.sameRecords Instrument.hooks) (fastMarketEngine fast) :=
  .checked fun ops s _ hs => by
    dsimp only
    split
    · exact hs
    · exact hs.then_change _ _ false rfl

theorem hooks_cancelPrint : Engine.Keeps (u.sameRecords Instrument.hooks) cancelPrintEngine :=
  .checked fun ops s _ hs => by
    dsimp only
    split
    · exact hs
    · exact hooks_tapeStep u _ _ _ _ _ _ (hs.then_change _ _ true (hooks_cancel ..))

theorem hooks_correctPrint : Engine.Keeps (u.sameRecords Instrument.hooks) correctPrintEngine :=
  .checked fun ops s _ hs => by
    dsimp only
    split
    · exact hs
    · exact hooks_tapeStep u _ _ _ _ _ _ (hs.then_change _ _ true (hooks_correct ..))

theorem hooks_tapeText : Engine.Keeps (u.sameRecords Instrument.hooks) tapeTextEngine :=
  .checked fun ops s _ hs => by
    dsimp only
    split
    · exact hooks_appendNotice u _ _ _ s hs
    · exact hs.then_eq rfl
    split
    · exact hs
    · exact hooks_appendNotice u _ _ _ _ (hs.then_eq rfl)

/-- The requests that move a binding list head or a viewer set. -/
def Request.movesHooks : Request → Bool
  | .defineCell | .removeCell | .openPage | .closePage => true
  | _ => false

/-- Every other request leaves the binding list head and the viewer set of every record. -/
theorem hooks_engineOf (p : PortId) (r : Request) (h : Request.movesHooks r = false) :
    Engine.Keeps (u.sameRecords Instrument.hooks) (engineOf p r) := by
  cases r <;> cases h
  case tradeReport => exact hooks_tradeReport u
  case quoteReport =>
    exact .reportEngine (fun _ _ _ hs => hs.then_eq rfl) (fun _ _ hs => hs.then_eq rfl) <|
      .checked fun _ _ _ hs => hs.then_change _ _ true rfl
  case sequenceReset => exact .checked fun _ _ _ hs => hs.then_eq rfl
  case defineInstrument =>
    exact .checked fun ops s _ hs =>
      (hs.then_change (operand ops 0) (definedInstrument ops (s.instr (operand ops 0))) false rfl).then_eq rfl
  case modifyInstrument => exact .checked fun _ _ _ hs => hs.then_change _ _ false rfl
  case removeInstrument =>
    exact .checked fun ops s _ hs =>
      (hs.trans (.setInstr s (operand ops 0) (s.instr (operand ops 0)).vacated rfl)).then_eq rfl
  case openSession => exact hooks_openSession u
  case closeSession => exact hooks_closeSession u
  case rollSession => exact hooks_rollSession u
  case halt => exact .checked fun _ _ _ hs => hooks_appendNotice u _ _ _ _ (hs.then_change _ _ false rfl)
  case resume => exact hooks_resume u
  case setFastMarket => exact hooks_fastMarket u true
  case clearFastMarket => exact hooks_fastMarket u false
  case cancelPrint => exact hooks_cancelPrint u
  case correctPrint => exact hooks_correctPrint u
  case tapeText => exact hooks_tapeText u
  all_goals exact Engine.Keeps.of_eq (π := State.quote) .of_quote (by simp [engineOf])

end Engines

end Sys2Proof.Machine
end

section
/-! Every command keeps the viewer sets those of the open pages (R140, R143 to R147). -/

namespace Sys2Proof.Machine

/-! ### Sets in ascending order -/

@[simp] theorem mem_setInsert (n m : Nat) (l : List Nat) : m ∈ setInsert n l ↔ m = n ∨ m ∈ l := by
  induction l with
  | nil => simp [setInsert]
  | cons a l ih =>
    unfold setInsert
    split_ifs with below same
    · simp
    · simp [same]
    · simp [ih, or_left_comm]

theorem setInsert_pairwise (n : Nat) {l : List Nat} (h : l.Pairwise (· < ·)) : (setInsert n l).Pairwise (· < ·) := by
  induction l with
  | nil => simp [setInsert]
  | cons a l ih =>
    obtain ⟨above, rest⟩ := List.pairwise_cons.mp h
    unfold setInsert
    split_ifs with below same
    · refine List.pairwise_cons.mpr ⟨fun b hb => ?_, h⟩
      obtain rfl | hb := List.mem_cons.mp hb
      · exact below
      · exact below.trans (above b hb)
    · exact h
    · refine List.pairwise_cons.mpr ⟨fun b hb => ?_, ih rest⟩
      obtain rfl | hb := (mem_setInsert _ _ _).mp hb
      · omega
      · exact above b hb

theorem setErase_pairwise (n : Nat) {l : List Nat} (h : l.Pairwise (· < ·)) : (setErase n l).Pairwise (· < ·) :=
  h.sublist List.filter_sublist

/-! ### Contexts and viewer sets -/

@[simp] theorem State.context_setContext_self (s : State) (t : Nat) (c : Context) : (s.setContext t c).context t = c :=
  Table.get_put_self _ _ _ _

@[simp] theorem State.context_setContext_ne (s : State) {t u : Nat} (c : Context) (h : u ≠ t) :
    (s.setContext t c).context u = s.context u := Table.get_put_ne _ _ _ h

@[simp] theorem State.instr_setContext (s : State) (t : Nat) (c : Context) (i : Nat) :
    (s.setContext t c).instr i = s.instr i := rfl

@[simp] theorem State.context_changeViewers (s : State) (f : List Nat → List Nat) (is : List Nat) (t : Nat) :
    (s.changeViewers f is).context t = s.context t := by
  unfold State.context
  rw [State.changeViewers_pages]

/-- A set operation that is its own repetition reaches each listed record once. -/
theorem State.viewers_changeViewers {f : List Nat → List Nat} (repeats : ∀ l, f (f l) = f l) (is : List Nat) (s : State)
    (i : Nat) : ((s.changeViewers f is).instr i).viewers =
      if i ∈ is then f (s.instr i).viewers else (s.instr i).viewers := by
  induction is generalizing s with
  | nil => rfl
  | cons j is ih =>
    refine (ih (s.setInstr j { s.instr j with viewers := f (s.instr j).viewers })).trans ?_
    by_cases same : i = j
    · subst same
      simp [repeats]
    · simp [same]

theorem setErase_setErase (n : Nat) (l : List Nat) : setErase n (setErase n l) = setErase n l := by
  simp [setErase]

theorem setInsert_setInsert (n : Nat) (l : List Nat) : setInsert n (setInsert n l) = setInsert n l := by
  induction l with
  | nil => simp [setInsert]
  | cons a l ih =>
    by_cases below : n < a
    · simp [setInsert, below]
    · by_cases same : n = a
      · simp [setInsert, same]
      · simp [setInsert, below, same, ih]

/-- The open page of a terminal names an instrument (R140). -/
def State.shows (s : State) (t i : Nat) : Prop := ∃ p, (s.context t).page = some p ∧ i ∈ namedIndices p.snapshot

theorem mem_namedIndices {i : Nat} {lines : List (Option LineContent)} :
    i ∈ namedIndices lines ↔ ∃ f, some ⟨i, f⟩ ∈ lines := by
  unfold namedIndices
  rw [List.mem_filterMap]
  constructor
  · rintro ⟨c, mem, named⟩
    obtain ⟨⟨j, f⟩, rfl, rfl⟩ := Option.map_eq_some_iff.mp named
    exact ⟨f, mem⟩
  · rintro ⟨f, mem⟩
    exact ⟨_, mem, rfl⟩

/-- The dirty set of a page names lines of its snapshot, each once, in ascending order (R140). -/
def OpenPage.dirtyKept (p : OpenPage) : Prop := p.dirty.Pairwise (· < ·) ∧ ∀ k ∈ p.dirty, k < p.snapshot.length

theorem State.viewersFollowPages_iff (s : State) : s.viewersFollowPages ↔
    Table.wf Instrument.vacant s.quote.instruments = true ∧
    (∀ i t, t ∈ (s.instr i).viewers ↔ s.shows t i) ∧ (∀ i, (s.instr i).viewers.Pairwise (· < ·)) ∧
    ∀ t p, (s.context t).page = some p → p.dirtyKept := by
  simp only [State.viewersFollowPages, State.shows, mem_namedIndices, exists_and_left, OpenPage.dirtyKept]

section Keeps

variable {s t : State}

/-- The viewer sets and the contexts stay. -/
theorem State.viewersFollowPages.same (hs : s.viewersFollowPages) (records : s.sameRecords Instrument.viewers t)
    (contexts : t.pages.contexts = s.pages.contexts) : t.viewersFollowPages := by
  obtain ⟨wf, follow, order, dirty⟩ := hs
  have viewers i : (t.instr i).viewers = (s.instr i).viewers := records.same wf i
  have context n : t.context n = s.context n := by unfold State.context; rw [contexts]
  refine ⟨records.wf wf, fun i n => ?_, fun i => ?_, fun n => ?_⟩
  · rw [viewers, context]; exact follow i n
  · rw [viewers]; exact order i
  · rw [context]; exact dirty n

/-- A context takes another value with the same snapshot and a dirty set that names lines of it. -/
theorem State.viewersFollowPages.setContext (hs : s.viewersFollowPages) {n : Nat} {c : Context}
    (snapshot : c.page.map (·.snapshot) = (s.context n).page.map (·.snapshot))
    (dirty : ∀ p, c.page = some p → p.dirtyKept) : (s.setContext n c).viewersFollowPages := by
  rw [State.viewersFollowPages_iff] at hs ⊢
  obtain ⟨wf, follow, order, dirtyBefore⟩ := hs
  refine ⟨wf, fun i m => (follow i m).trans ?_, order, fun m p hp => ?_⟩
  · unfold State.shows
    by_cases same : m = n
    · subst same
      rw [State.context_setContext_self]
      generalize (s.context m).page = before at snapshot
      generalize c.page = after at snapshot
      cases before <;> cases after <;> simp_all
    · rw [State.context_setContext_ne _ _ same]
  · by_cases same : m = n
    · subst same
      rw [State.context_setContext_self] at hp
      exact dirty p hp
    · rw [State.context_setContext_ne _ _ same] at hp
      exact dirtyBefore m p hp

/-- R144: the terminal leaves the viewer sets of the instruments that its page names, and shows none of them. -/
theorem State.viewersFollowPages.closePage (hs : s.viewersFollowPages) (n : Nat) : (s.closePage n).viewersFollowPages := by
  unfold State.closePage
  split
  · exact hs
  next p opened =>
  have records := State.changeViewers_records (π := fun _ => ()) (fun _ _ => rfl) (setErase n)
    (namedIndices p.snapshot) s
  rw [State.viewersFollowPages_iff] at hs ⊢
  obtain ⟨wf, follow, order, dirty⟩ := hs
  refine ⟨records.wf wf, fun i m => ?_, fun i => ?_, fun m q hq => ?_⟩
  · rw [State.instr_setContext, State.viewers_changeViewers (setErase_setErase n)]
    by_cases same : m = n
    · subst same
      have closed : ¬ State.shows ((s.changeViewers (setErase m) (namedIndices p.snapshot)).setContext m
          { s.context m with page := none }) m i := by simp [State.shows]
      have showed : s.shows m i ↔ i ∈ namedIndices p.snapshot := by simp [State.shows, opened]
      split
      · simp [closed]
      next unnamed => simpa [closed, follow, showed] using unnamed
    · have stays : State.shows ((s.changeViewers (setErase n) (namedIndices p.snapshot)).setContext n
          { s.context n with page := none }) m i ↔ s.shows m i := by simp [State.shows, same]
      rw [stays, ← follow]
      split
      · simp [same]
      · rfl
  · rw [State.instr_setContext, State.viewers_changeViewers (setErase_setErase n)]
    split
    · exact setErase_pairwise n (order i)
    · exact order i
  · by_cases same : m = n
    · subst same
      simp at hq
    · rw [State.context_setContext_ne _ _ same, State.context_changeViewers] at hq
      exact dirty m q hq

theorem State.page_closePage (s : State) (n : Nat) : ((s.closePage n).context n).page = none := by
  unfold State.closePage
  split
  next closed => exact closed
  next => simp

/-- R143: the terminal joins the viewer sets of the instruments that its new page names. -/
theorem State.viewersFollowPages.openAt (hs : s.viewersFollowPages) {n : Nat} (closed : (s.context n).page = none)
    {c : Context} {p : OpenPage} (opened : c.page = some p) (kept : p.dirtyKept) :
    ((s.changeViewers (setInsert n) (namedIndices p.snapshot)).setContext n c).viewersFollowPages := by
  have records := State.changeViewers_records (π := fun _ => ()) (fun _ _ => rfl) (setInsert n)
    (namedIndices p.snapshot) s
  rw [State.viewersFollowPages_iff] at hs ⊢
  obtain ⟨wf, follow, order, dirty⟩ := hs
  refine ⟨records.wf wf, fun i m => ?_, fun i => ?_, fun m q hq => ?_⟩
  · rw [State.instr_setContext, State.viewers_changeViewers (setInsert_setInsert n)]
    by_cases same : m = n
    · subst same
      have shows : State.shows ((s.changeViewers (setInsert m) (namedIndices p.snapshot)).setContext m c) m i ↔
          i ∈ namedIndices p.snapshot := by simp [State.shows, opened]
      have before : ¬ s.shows m i := by simp [State.shows, closed]
      rw [shows]
      split
      next named => simp [named]
      next unnamed => simp [follow, before, unnamed]
    · have stays : State.shows ((s.changeViewers (setInsert n) (namedIndices p.snapshot)).setContext n c) m i ↔
          s.shows m i := by simp [State.shows, same]
      rw [stays, ← follow]
      split
      · simp [same]
      · rfl
  · rw [State.instr_setContext, State.viewers_changeViewers (setInsert_setInsert n)]
    split
    · exact setInsert_pairwise n (order i)
    · exact order i
  · by_cases same : m = n
    · subst same
      rw [State.context_setContext_self, opened] at hq
      cases hq
      exact kept
    · rw [State.context_setContext_ne _ _ same, State.context_changeViewers] at hq
      exact dirty m q hq

theorem dirtyKept_writtenOffsets (x : Selector) (lines : List (Option LineContent)) :
    OpenPage.dirtyKept ⟨x, lines, writtenOffsets lines⟩ :=
  ⟨List.pairwise_lt_range.sublist List.filter_sublist,
    fun _ hk => List.mem_range.mp (List.mem_of_mem_filter hk)⟩

theorem dirtyKept_markedDirty (b : PageChange) (p : OpenPage) :
    OpenPage.dirtyKept { p with dirty := p.markedDirty b } :=
  ⟨List.pairwise_lt_range.sublist List.filter_sublist,
    fun _ hk => List.mem_range.mp (List.mem_of_mem_filter hk)⟩

theorem State.viewersFollowPages.openPage (hs : s.viewersFollowPages) (n : Nat) (x : Selector) (d : Descriptor) :
    (s.openPage n x d).viewersFollowPages := by
  have opened := (hs.closePage n).openAt (s.page_closePage n)
    (c := { (s.closePage n).context n with page := some ⟨x, s.pageLines d, writtenOffsets (s.pageLines d)⟩ }) rfl
    (dirtyKept_writtenOffsets x (s.pageLines d))
  unfold State.openPage
  dsimp only
  split
  · exact opened
  · exact opened

theorem State.viewersFollowPages.markTerminal (hs : s.viewersFollowPages) (b : PageChange) (n : Nat) :
    (s.markTerminal b n).viewersFollowPages := by
  unfold State.markTerminal
  split
  · exact hs
  next p opened =>
  have marked := hs.setContext (n := n) (c := { s.context n with page := some { p with dirty := p.markedDirty b } })
    (by simp [opened]) (fun q hq => by cases hq; exact dirtyKept_markedDirty b p)
  dsimp only
  split
  · exact marked
  · exact marked

theorem State.viewersFollowPages.takePageChange (hs : s.viewersFollowPages) (b : PageChange) :
    (s.takePageChange b).viewersFollowPages := by
  unfold State.takePageChange
  generalize (s.instr b.index).viewers = terminals
  induction terminals generalizing s with
  | nil => exact hs
  | cons n rest ih => exact ih (hs.markTerminal b n)

theorem State.viewersFollowPages.takePageChanges (hs : s.viewersFollowPages) (bs : List PageChange) :
    (State.takePageChanges bs s).viewersFollowPages := by
  induction bs generalizing s with
  | nil => exact hs
  | cons b rest ih =>
    exact ih (State.viewersFollowPages.takePageChange (s := { s with transit := { s.transit with pageChanges := rest } }) hs b)

theorem State.viewersFollowPages.takeLine (hs : s.viewersFollowPages) {n : Nat} {x : Result} (h : s.takeLine n = some x) :
    x.state.viewersFollowPages := by
  unfold State.takeLine at h
  split at h
  · cases h
  next p opened =>
  split at h
  · cases h
  next k rest dirty =>
  cases h
  obtain ⟨order, inside⟩ := hs.2.2.2 n p opened
  rw [dirty] at order inside
  exact hs.setContext (c := { s.context n with page := some { p with dirty := rest } }) (by simp [opened]) fun q hq => by
    cases hq
    exact ⟨order.tail, fun j hj => inside j (List.mem_cons_of_mem _ hj)⟩

theorem State.viewersFollowPages.readChanged (hs : s.viewersFollowPages) (n : Nat) :
    (s.readChanged n).state.viewersFollowPages := by
  have behind : (if s.readOvertakes n then s.pagesCaughtUp else s).viewersFollowPages := by
    split
    · exact hs.takePageChanges _
    · exact hs
  unfold State.readChanged
  cases taken : State.takeLine n (if s.readOvertakes n then s.pagesCaughtUp else s) with
  | none => exact hs
  | some x => exact behind.takeLine taken

theorem State.viewersFollowPages.closeTerminals (hs : s.viewersFollowPages) : s.closeTerminals.viewersFollowPages := by
  have viewers i : (s.closeTerminals.instr i).viewers = [] := by
    show (Table.get Instrument.vacant (Table.mapValues Instrument.vacant (fun v => { v with viewers := [] })
      s.quote.instruments) i).viewers = []
    rw [Table.get_mapValues _ (fun v : Instrument => { v with viewers := [] }) rfl hs.1]
  have page n : (s.closeTerminals.context n).page = none := rfl
  refine ⟨(State.closeTerminals_records (π := fun _ => ()) (fun _ _ => rfl) s).wf hs.1, fun i n => ?_, fun i => ?_,
    fun n p hp => ?_⟩
  · simp [viewers, page]
  · simp [viewers]
  · simp [page] at hp

end Keeps

/-! ### Every command -/

theorem viewersFollowPages_closePage (p : PortId) : Engine.Keeps State.viewersFollowPages (closePageEngine p) := by
  have body : Engine.Keeps State.viewersFollowPages closePageBody := .checked fun _ _ _ hs => hs.closePage _
  unfold closePageEngine
  split
  · exact .liveOnly body
  · exact body

theorem viewersFollowPages_openPage : Engine.Keeps State.viewersFollowPages openPageEngine := by
  refine .liveOnly fun ops s hs => ?_
  split
  · exact hs
  split
  · exact hs.openPage _ _ _
  all_goals exact hs

theorem viewersFollowPages_setLocalTable : Engine.Keeps State.viewersFollowPages setLocalTableEngine :=
  .liveOnly <| .checked fun ops _ _ hs => hs.setContext rfl fun p hp => hs.2.2.2 (operand ops 0) p hp

theorem State.sameRecords.setBindingHead (s : State) (f : CellField) (h : Option Nat) :
    s.sameRecords Instrument.viewers (s.setBindingHead f h) := by
  cases f with
  | instrument f i => exact .setInstr s i _ rfl
  | clock => exact .of_instruments rfl
  | market => exact .of_instruments rfl
  | tapeState r => exact .of_instruments rfl

theorem viewersFollowPages_defineCell : Engine.Keeps State.viewersFollowPages defineCellEngine :=
  .checked fun _ _ _ hs => hs.same (.of_quote _ _ (State.onBoard_quote _ _) (.setBindingHead _ _ _)) (by simp [done])

theorem viewersFollowPages_removeCell : Engine.Keeps State.viewersFollowPages removeCellEngine :=
  .checked fun ops s _ hs => by
    dsimp only
    split
    · exact hs.same (.then_eq (.setBindingHead s _ _) rfl) (by simp [done])
    · exact hs

/-- The requests that move a terminal's context. -/
def Request.movesContexts : Request → Bool
  | .setLocalTable | .openPage | .closePage | .readChangedLine => true
  | _ => false

theorem contexts_engineOf (p : PortId) (r : Request) (h : Request.movesContexts r = false) (ops : List Word) (s : State) :
    (engineOf p r ops s).state.pages.contexts = s.pages.contexts := by
  cases r <;> cases h
  case writeDescriptor =>
    simp only [engineOf, writeDescriptorEngine, checked]
    split <;> rfl
  case writeLine =>
    simp only [engineOf, writeLineEngine, checked]
    split <;> rfl
  case writePageLine =>
    simp only [engineOf, writePageLineEngine, liveOnly]
    repeat' split
    all_goals rfl
  all_goals simp [engineOf]

theorem portKept_viewersFollowPages : PortKept State.viewersFollowPages where
  port _ _ _ hs := hs
  buffer _ _ hs := hs
  expectation _ _ hs := hs
  terminals _ hs := hs.closeTerminals
  engine p r := by
    have rest (plain : Request.movesHooks r = false) (contexts : Request.movesContexts r = false) :
        Engine.Keeps State.viewersFollowPages (engineOf p r) := fun ops s hs =>
      hs.same ((hooks_engineOf s p r plain ops s (.refl s)).map Prod.snd) (contexts_engineOf p r contexts ops s)
    cases r
    case openPage => exact viewersFollowPages_openPage
    case closePage => exact viewersFollowPages_closePage p
    case setLocalTable => exact viewersFollowPages_setLocalTable
    case readChangedLine => exact Engine.Keeps.liveOnly (.checked fun _ _ _ hs => hs.readChanged _)
    case defineCell => exact viewersFollowPages_defineCell
    case removeCell => exact viewersFollowPages_removeCell
    all_goals exact rest rfl rfl

theorem viewersFollowPages_atReset (low : Bool) (s : State) : (s.atReset low).viewersFollowPages :=
  ⟨rfl, fun _ _ => ⟨nofun, nofun⟩, fun _ => .nil, nofun⟩

theorem viewersFollowPages_event {c : Instr} {s t : State} (event : c.BlockEvent) (hs : s.viewersFollowPages)
    (ht : exec c s = .next t) : t.viewersFollowPages := by
  cases event with
  | board h =>
    have acts := exec_boardEvent h ht
    exact hs.same (.of_instruments (congrArg Quote.instruments acts.quote)) (congrArg Pages.contexts acts.pages)
  | tape h =>
    have acts := exec_tapeEvent h ht
    exact hs.same ((acts.records _ fun v r w => hooks_setDigitRef r w v).map Prod.snd) (congrArg Pages.contexts acts.pages)
  | rollRecord =>
    cases ht
    split
    · exact hs
    split
    · exact hs
    next i rest _ _ =>
      exact hs.same (State.sameRecords.then_change (u := s) (s := s.setRolling rest) (.of_instruments rfl) i (s.instr i).rolled
        false rfl) rfl
  | pageHandoff =>
    cases ht
    split
    · exact hs
    next b rest _ =>
      exact State.viewersFollowPages.takePageChange
        (s := { s with transit := { s.transit with pageChanges := rest } }) hs b
  | noticeRaise => cases ht; split <;> exact hs
  | tick => cases ht; split <;> exact hs
  | dayClockAdvance => cases ht; split <;> exact hs
  | deviceReset => cases ht; exact viewersFollowPages_atReset _ s
  | resetRelease =>
    cases ht
    split
    · exact viewersFollowPages_atReset _ s
    · exact hs

/-- Settles O57: opening, closing and the T-port reset move contexts and viewer sets together, and nothing else moves
either. -/
theorem viewerSetsFollowOpenPages : Obligations.ViewerSetsFollowOpenPages := fun _ _ hs ht =>
  step_keeps (fun _ _ hs => hs)
    (fun _ _ _ hs ht =>
      portKept_viewersFollowPages.exec (fun _ _ _ event hs ht => viewersFollowPages_event event hs ht) hs ht)
    hs ht

end Sys2Proof.Machine
end

section
/-! Every command keeps the error words within the positions that name a condition (R165, R167, R171). -/

namespace Sys2Proof.Machine

/-- The condition stands in a position that the error words of the port name (R171). -/
abbrev Condition.namedAt (p : PortId) (c : Condition) : Prop := c.word &&& ~~~p.conditions = 0

theorem Port.errorWordsNamed.record {p : PortId} {v : Port} (h : v.errorWordsNamed p) {c : Condition} (hc : c.namedAt p) :
    Port.errorWordsNamed p { v with status := v.status ||| c.word } := by
  obtain ⟨status, mask, severity⟩ := h
  refine ⟨?_, mask, severity⟩
  have distributes (a b x : Word) : (a ||| b) &&& x = a &&& x ||| b &&& x := BitVec.and_or_distrib_right
  show (v.status ||| c.word) &&& ~~~p.conditions = 0
  rw [distributes, status, hc]
  rfl

section Ports

variable {s : State}

theorem State.errorWordsNamed.setPort (hs : s.errorWordsNamed) {p : PortId} {v : Port} (h : v.errorWordsNamed p) :
    (s.setPort p v).errorWordsNamed := by
  intro q
  by_cases same : q = p
  · subst same; rwa [State.port_setPort_self]
  · rw [State.port_setPort_ne _ _ same]; exact hs q

theorem State.errorWordsNamed.of_ports (s t : State) (h : t.ports = s.ports) (hs : s.errorWordsNamed) :
    t.errorWordsNamed := by
  intro p
  have same : t.port p = s.port p := by unfold State.port; rw [h]
  exact same ▸ hs p

theorem State.errorWordsNamed.setPortState (hs : s.errorWordsNamed) (p : PortId) (x : PortState) :
    (s.setPortState p x).errorWordsNamed := hs.setPort (hs p)

theorem State.errorWordsNamed.record (hs : s.errorWordsNamed) {p : PortId} {c : Condition} (hc : c.namedAt p) :
    (s.record p c).errorWordsNamed := hs.setPort ((hs p).record hc)

theorem malformed_namedAt (p : PortId) : Condition.malformed.namedAt p := by cases p <;> decide

theorem State.errorWordsNamed.recordMalformed (hs : s.errorWordsNamed) (p : PortId) (a : Answer) :
    (s.recordMalformed p a).errorWordsNamed := by
  unfold State.recordMalformed
  split
  · exact hs.record (malformed_namedAt p)
  · exact hs

theorem State.errorWordsNamed.resetPort (hs : s.errorWordsNamed) (p : PortId) : (s.resetPort p).errorWordsNamed := by
  have cleared : ∀ p, (s.setPort p { s.port p with state := (s.port p).state.reset, status := 0 }).errorWordsNamed :=
    fun p => hs.setPort ⟨by simp, (hs p).2⟩
  cases p with
  | feed =>
    simp only [State.resetPort]
    split
    · exact cleared .feed
    · exact .of_ports _ _ rfl (cleared .feed)
  | supervisor =>
    simp only [State.resetPort]
    split
    · exact cleared .supervisor
    · intro q
      exact (by cases q <;> rfl : (State.setTextBuffer none _).port q = _) ▸ cleared .supervisor q
  | terminal => exact .of_ports _ _ rfl (cleared .terminal)

end Ports

/-! ### The engines -/

theorem namedAt_feedCondition {a : Answer} {c : Condition} (h : a.feedCondition = some c) : c.namedAt .feed := by
  cases a <;> simp only [Answer.feedCondition, reduceCtorEq, Option.some.injEq] at h <;> subst h <;> decide

theorem errorWordsNamed_recordSome {s : State} (hs : s.errorWordsNamed) {p : PortId} {c : Option Condition}
    (hc : ∀ x, c = some x → x.namedAt p) : (s.recordSome p c).errorWordsNamed := by
  cases c with
  | none => exact hs
  | some x => exact hs.record (hc x rfl)

/-- A report records conditions of the F-port alone (R43, R48). -/
theorem errorWordsNamed_reportEngine {body : Engine} (h : ∀ ops s, (body ops s).state.ports = s.ports) :
    Engine.Keeps State.errorWordsNamed (reportEngine body) := by
  have after (c : SequenceClass) (n : Nat) {x : Result} (hx : x.state.errorWordsNamed) :
      (afterReport c n x).state.errorWordsNamed := by
    unfold afterReport
    split
    · exact hx
    · have moved := State.errorWordsNamed.of_ports _ (x.state.setExpectation (some (successor n))) rfl hx
      refine errorWordsNamed_recordSome (errorWordsNamed_recordSome moved fun _ => namedAt_feedCondition) fun y hy => ?_
      split at hy <;> cases hy
      decide
  intro ops s hs
  unfold Machine.reportEngine
  split
  · exact hs
  split
  · exact hs
  split
  · exact hs
  · exact after _ _ (.of_ports _ _ (h ops s) hs)
  · exact after _ _ (.of_ports _ _ (h ops s) hs)

theorem errorWordsNamed_writePageLine : Engine.Keeps State.errorWordsNamed writePageLineEngine := by
  refine .liveOnly fun ops s hs => ?_
  split
  · exact hs
  split
  · split
    · exact hs.record (by decide)
    · exact hs
    · exact hs
  · exact hs
  · exact hs

theorem errorWordsNamed_tapeText : Engine.Keeps State.errorWordsNamed tapeTextEngine := by
  have buffer (s : State) (b : Option AssembledText) (hs : s.errorWordsNamed) : (s.setTextBuffer b).errorWordsNamed :=
    fun q => (by cases q <;> rfl : (s.setTextBuffer b).port q = s.port q) ▸ hs q
  refine .checked fun ops s _ hs => ?_
  dsimp only
  split
  · exact .of_ports _ _ (State.appendNotice_ports ..) hs
  · exact buffer s _ hs
  split
  · exact hs
  · exact .of_ports _ _ (State.appendNotice_ports ..) (buffer s none hs)

theorem errorWordsNamed_engineOf (p : PortId) (r : Request) : Engine.Keeps State.errorWordsNamed (engineOf p r) := by
  cases r
  case tradeReport =>
    refine errorWordsNamed_reportEngine fun ops s => ?_
    unfold checked
    split
    · rfl
    · simp [tradeApply, doneWith]
  case quoteReport =>
    refine errorWordsNamed_reportEngine fun ops s => ?_
    unfold checked
    split <;> rfl
  case writePageLine => exact errorWordsNamed_writePageLine
  case tapeText => exact errorWordsNamed_tapeText
  all_goals exact Engine.Keeps.of_eq (π := State.ports) .of_ports (by simp [engineOf])

/-! ### The rows -/

theorem and_and_not_self (w x : Word) : w &&& x &&& ~~~x = 0 := by
  rw [BitVec.and_assoc]
  simp

section Rows

variable {s : State} (hs : s.errorWordsNamed)
include hs

theorem State.errorWordsNamed.takeRequest (p : PortId) (r : Request) (ops : List Word) (b : Bool) :
    (s.takeRequest p (engineOf p r) ops b).errorWordsNamed :=
  ((errorWordsNamed_engineOf p r ops s hs).recordMalformed p _).setPortState p _

theorem State.errorWordsNamed.hand (p : PortId) (r : Request) (ops : List Word) (k : Taking) :
    (s.hand p r (engineOf p r) ops k).errorWordsNamed := by
  cases k with
  | now => exact hs.takeRequest p r ops false
  | later => exact hs.setPortState p _

theorem State.errorWordsNamed.refuseAt (p : PortId) (a : Answer) : (s.refuseAt p a).errorWordsNamed :=
  (hs.recordMalformed p a).setPortState p _

theorem State.errorWordsNamed.requestWrite (p : PortId) (w : Word) (k : Taking) :
    (s.requestWrite p w k).errorWordsNamed := by
  unfold State.requestWrite
  split
  · exact hs.record (by cases p <;> decide)
  · exact hs.setPortState p _
  split
  · exact hs.refuseAt p _
  · exact hs.hand p _ _ k

theorem State.errorWordsNamed.requestRow (r : Request) (p : PortId) (w : Word) (k : Taking) :
    (s.requestRow r (engineOf p r) p w k).errorWordsNamed := by
  unfold State.requestRow
  split
  · exact hs
  split
  · exact hs.requestWrite p w k
  · exact hs.requestWrite p w k
  split
  · exact hs.requestWrite p w k
  split
  · exact hs.hand p r _ k
  · exact hs.requestWrite p w k

theorem State.errorWordsNamed.clearConditions (p : PortId) (w : Word) : (s.clearConditions p w).errorWordsNamed := by
  refine hs.setPort ⟨?_, (hs p).2⟩
  have commutes (a b c : Word) : a &&& b &&& c = a &&& c &&& b := by
    rw [BitVec.and_assoc, BitVec.and_comm b, ← BitVec.and_assoc]
  show (s.port p).status &&& ~~~w &&& ~~~p.conditions = 0
  rw [commutes, (hs p).1]
  exact BitVec.zero_and

theorem State.errorWordsNamed.setMaskWord (p : PortId) (w : Word) : (s.setMaskWord p w).errorWordsNamed := by
  obtain ⟨status, -, severity⟩ := hs p
  exact hs.setPort ⟨status, and_and_not_self w _, severity⟩

theorem State.errorWordsNamed.setSeverityWord (p : PortId) (w : Word) : (s.setSeverityWord p w).errorWordsNamed := by
  obtain ⟨status, mask, -⟩ := hs p
  exact hs.setPort ⟨status, mask, and_and_not_self w _⟩

theorem State.errorWordsNamed.busWrite (p : PortId) (loc : Fin 8) (w : Word) (k : Taking) :
    (s.busWrite p loc w k).errorWordsNamed := by
  unfold State.busWrite
  split
  · exact hs
  split
  · exact hs.requestWrite p w k
  · exact hs.clearConditions p w
  · exact hs.setMaskWord p w
  · exact hs.setSeverityWord p w
  · split
    · exact hs.resetPort p
    · exact hs
  · exact hs

theorem State.errorWordsNamed.setTextBuffer (b : Option AssembledText) : (s.setTextBuffer b).errorWordsNamed :=
  fun q => (by cases q <;> rfl : (s.setTextBuffer b).port q = s.port q) ▸ hs q

theorem State.errorWordsNamed.finish (p : PortId) : (s.finish p).errorWordsNamed := by
  unfold State.finish
  split
  · exact hs
  split
  · unfold State.completeWith
    split
    · cases p with
      | feed => exact .of_ports _ _ rfl (hs.setPortState .feed .idle)
      | supervisor => exact (hs.setPortState .supervisor .idle).setTextBuffer none
      | terminal => exact hs.setPortState .terminal .idle
    · exact hs.setPortState p _
  all_goals exact hs

theorem State.errorWordsNamed.takeHanded (p : PortId) : (s.takeHanded p).errorWordsNamed := by
  unfold State.takeHanded
  split
  · exact hs.takeRequest p _ _ _
  all_goals exact hs

theorem errorWordsNamed_portRow {c : Instr} {t : State} (row : c.isPortRow) (ht : exec c s = .next t) :
    t.errorWordsNamed := by
  obtain ⟨p, loc, w, k, rfl⟩ | ⟨p, loc, rfl⟩ | ⟨p, w, rfl⟩ | ⟨p, w, rfl⟩ | ⟨p, w, rfl⟩ | ⟨p, w, rfl⟩ | ⟨p, rfl⟩ |
    ⟨p, w, rfl⟩ := row <;> cases ht
  · exact hs.busWrite p loc w k
  · exact hs.setPort (hs p)
  · split
    · exact hs
    · exact hs.clearConditions p w
  · split
    · exact hs
    · exact hs.setMaskWord p w
  · split
    · exact hs
    · exact hs.setSeverityWord p w
  · split
    · exact hs
    · exact hs.resetPort p
  · exact (hs.takeHanded p).finish p
  · split
    · exact hs
    split
    · exact hs.requestWrite p w _
    · exact hs.requestWrite p w _
    split
    · exact hs.refuseAt p _
    · exact hs.requestWrite p w _

omit hs in
theorem errorWordsNamed_reset : State.reset.errorWordsNamed := fun p => by
  cases p <;> exact ⟨by decide, by decide, by decide⟩

theorem errorWordsNamed_event {c : Instr} {t : State} (event : c.BlockEvent) (ht : exec c s = .next t) :
    t.errorWordsNamed := by
  have reset (low : Bool) : (s.atReset low).errorWordsNamed := .of_ports State.reset _ rfl errorWordsNamed_reset
  cases event with
  | board h =>
    obtain same | recorded := (exec_boardEvent h ht).ports
    · exact .of_ports _ _ same hs
    · exact .of_ports _ _ recorded (hs.record (by decide))
  | tape h =>
    obtain same | recorded := (exec_tapeEvent h ht).ports
    · exact .of_ports _ _ same hs
    · exact .of_ports _ _ recorded (hs.record (by decide))
  | rollRecord =>
    cases ht
    split
    · exact hs
    split
    · exact .of_ports _ _ rfl hs
    · exact .of_ports s _ rfl hs
  | pageHandoff =>
    cases ht
    split
    · exact hs
    · exact .of_ports s _ (by rw [State.takePageChange_frame]) hs
  | noticeRaise =>
    cases ht
    split
    · exact hs
    · exact .of_ports s _ rfl hs
  | tick =>
    cases ht
    split
    · exact hs
    · exact .of_ports s _ rfl hs
  | dayClockAdvance =>
    cases ht
    split
    · exact hs
    · exact .of_ports s _ rfl hs
  | deviceReset => cases ht; exact reset _
  | resetRelease =>
    cases ht
    split
    · exact reset _
    · exact hs

/-- Every command keeps the error words named. -/
theorem errorWordsNamed_exec {c : Instr} {t : State} (ht : exec c s = .next t) : t.errorWordsNamed := by
  obtain ⟨r, p, w, k, rfl⟩ | row | event := c.kinds
  · rw [Request.exec_row] at ht
    cases ht
    exact hs.requestRow r p w k
  · exact errorWordsNamed_portRow hs row ht
  · exact errorWordsNamed_event hs event ht

end Rows

end Sys2Proof.Machine
end

section
/-! Every command keeps the notice unit's lists in order (R153 to R157) and the timebase in its ranges (R180, R181). -/

namespace Sys2Proof.Machine

/-! ### The notice unit -/

section Notices

variable {n : Notices} (h : n.ordered)
include h

theorem Notices.ordered.raise (t : Nat) : (n.raise t).ordered := by
  obtain ⟨once, ascending, apart, masked⟩ := h
  unfold Notices.raise
  split_ifs with stands hidden
  · exact ⟨once, ascending, apart, masked⟩
  · have fresh : t ∉ n.queue := by simp_all
    refine ⟨once, setInsert_pairwise t ascending, fun u hu => ?_, fun u hu => ?_⟩
    · have other : u ≠ t := fun same => fresh (same ▸ hu)
      simpa [other] using apart u hu
    · obtain rfl | hu := (mem_setInsert _ _ _).mp hu
      · exact hidden
      · exact masked u hu
  · have fresh : t ∉ n.queue ∧ t ∉ n.waiting := by simpa using stands
    refine ⟨?_, ascending, fun u hu => ?_, masked⟩
    · exact List.nodup_append.mpr ⟨once, List.nodup_singleton t, fun a ha b hb => by
        obtain rfl := List.mem_singleton.mp hb
        exact fun same => fresh.1 (same ▸ ha)⟩
    · obtain hu | hu := List.mem_append.mp hu
      · exact apart u hu
      · exact List.mem_singleton.mp hu ▸ fresh.2

/-- Terminals that were waiting go to the queue, and those that go on waiting are masked. -/
theorem Notices.ordered.release {m : Notices} {stays : Nat → Bool}
    (waiting : m.waiting = n.waiting.filter stays) (queue : m.queue = n.queue ++ n.waiting.filter fun t => !stays t)
    (masked : ∀ t ∈ n.waiting, stays t = true → m.masked t = true) : m.ordered := by
  obtain ⟨once, ascending, apart, -⟩ := h
  unfold Notices.ordered
  rw [waiting, queue]
  refine ⟨?_, ascending.sublist List.filter_sublist, fun t ht => ?_, fun t ht => ?_⟩
  · refine List.nodup_append.mpr ⟨once, (ascending.imp Nat.ne_of_lt).filter _, fun a ha b hb same => ?_⟩
    exact apart a ha (same ▸ (List.mem_filter.mp hb).1)
  · intro still
    obtain ⟨waits, keeps⟩ := List.mem_filter.mp still
    obtain ht | ht := List.mem_append.mp ht
    · exact apart t ht waits
    · have leaves := (List.mem_filter.mp ht).2
      simp [keeps] at leaves
  · obtain ⟨waits, keeps⟩ := List.mem_filter.mp ht
    exact masked t waits keeps

omit h in
/-- A list in ascending order holds a number once. -/
theorem filter_eq_of_mem {t : Nat} {l : List Nat} (ascending : l.Pairwise (· < ·)) (ht : t ∈ l) :
    (l.filter fun u => !(u != t)) = [t] := by
  have counts := List.count_eq_one_of_mem (ascending.imp Nat.ne_of_lt) ht
  have same : (fun u => !(u != t)) = fun u => u == t := by funext u; simp [bne]
  rw [same, List.filter_beq, counts]
  rfl

theorem Notices.ordered.setEntry (t : Nat) (value : Bool) : (n.setEntry t value).ordered := by
  have ordered := h
  obtain ⟨once, ascending, apart, masked⟩ := h
  unfold Notices.setEntry
  dsimp only
  split_ifs with same released
  · exact ordered
  · have isReleased : (value = false ∧ n.globalMask = false) ∧ t ∈ n.waiting := by simpa using released
    obtain ⟨⟨rfl, open_⟩, waits⟩ := isReleased
    refine ordered.release (stays := fun u => u != t) rfl (by rw [filter_eq_of_mem ascending waits]) fun u hu other => ?_
    have before := masked u hu
    have ne : u ≠ t := by simpa using other
    simpa [Notices.masked, Notices.mask, open_, ne] using before
  · refine ⟨once, ascending, apart, fun u hu => ?_⟩
    have before := masked u hu
    by_cases ne : u = t
    · subst ne
      cases value <;> simp_all [Notices.masked, Notices.mask]
    · simpa [Notices.masked, Notices.mask, ne] using before

theorem Notices.ordered.setGlobal (value : Bool) : (n.setGlobal value).ordered := by
  unfold Notices.setGlobal
  split_ifs with same masks
  · exact h
  · exact ⟨h.1, h.2.1, h.2.2.1, fun _ _ => rfl⟩
  · exact h.release (stays := fun t => n.mask t) rfl rfl fun t _ stays => by
      simpa [Notices.masked, Notices.mask] using stays

theorem Notices.ordered.setMask (ops : List Word) : (n.setMask ops).ordered := by
  unfold Notices.setMask
  dsimp only
  split
  · exact h.setGlobal _
  · exact h.setEntry _ _

theorem Notices.ordered.takeFront {t : Nat} {rest : List Nat} (queue : n.queue = t :: rest) :
    Notices.ordered { n with queue := rest } := by
  obtain ⟨once, ascending, apart, masked⟩ := h
  rw [queue] at once apart
  exact ⟨once.of_cons, ascending, fun u hu => apart u (List.mem_cons_of_mem _ hu), masked⟩

end Notices

theorem noticesOrdered_takeNotice : Engine.Keeps (fun s => s.notices.ordered) takeNoticeEngine := by
  refine .liveOnly (.checked fun ops s _ hs => ?_)
  unfold State.takeHead
  split
  · exact hs
  next queue => exact Notices.ordered.takeFront hs queue

theorem portKept_noticesOrdered : PortKept fun s => s.notices.ordered where
  port _ _ _ hs := hs
  buffer _ _ hs := hs
  expectation _ _ hs := hs
  terminals _ _ := ⟨.nil, .nil, nofun, nofun⟩
  engine p r := by
    cases r
    case setNoticeMask => exact Engine.Keeps.liveOnly (.checked fun ops _ _ hs => hs.setMask ops)
    case takeNotice => exact noticesOrdered_takeNotice
    all_goals exact Engine.Keeps.of_eq (π := State.notices) (fun _ _ same hs => same ▸ hs) (by simp [engineOf])

theorem noticesOrdered_event {c : Instr} {s t : State} (event : c.BlockEvent) (hs : s.notices.ordered)
    (ht : exec c s = .next t) : t.notices.ordered := by
  have reset : Notices.reset.ordered := ⟨.nil, .nil, nofun, nofun⟩
  cases event with
  | board h => rwa [(exec_boardEvent h ht).notices]
  | tape h => rwa [(exec_tapeEvent h ht).notices]
  | rollRecord =>
    cases ht
    split
    · exact hs
    · split <;> exact hs
  | pageHandoff =>
    cases ht
    split
    · exact hs
    · rw [State.takePageChange_frame]; exact hs
  | noticeRaise =>
    cases ht
    split
    · exact hs
    next t _ _ => exact hs.raise t
  | tick => cases ht; split <;> exact hs
  | dayClockAdvance => cases ht; split <;> exact hs
  | deviceReset => cases ht; exact reset
  | resetRelease =>
    cases ht
    split
    · exact reset
    · exact hs

theorem noticesOrdered_exec {c : Instr} {s t : State} (hs : s.notices.ordered) (ht : exec c s = .next t) :
    t.notices.ordered :=
  portKept_noticesOrdered.exec (fun _ _ _ event hs ht => noticesOrdered_event event hs ht) hs ht

/-! ### The timebase -/

theorem nextSecond_lt (n : Nat) : nextSecond n < Config.secondsPerDay := by
  unfold nextSecond
  split
  · decide
  · omega

theorem State.timeInRange.setDayClock {s : State} (hs : s.timeInRange) {value : Nat} (h : value < Config.secondsPerDay) :
    (s.setDayClock value).timeInRange := ⟨hs.1, h⟩

theorem State.timeInRange.advance {s : State} (hs : s.timeInRange) (n : Nat) : (s.advance n).timeInRange := by
  induction n generalizing s with
  | zero => exact hs
  | succ n ih => exact ih (hs.setDayClock (nextSecond_lt _))

/-- The answer of an ordered list of checks that passes: none of them holds. -/
theorem firstRefusal_eq_none {checks : List (Bool × Answer)} :
    firstRefusal checks = none ↔ ∀ c ∈ checks, c.1 = false := by
  unfold firstRefusal
  simp

theorem timeInRange_setTime : Engine.Keeps State.timeInRange setTimeEngine :=
  .checked fun ops s passes hs => by
    have inDay : operandPair ops 0 < Config.secondsPerDay := by
      have := firstRefusal_eq_none.mp passes (_, .outOfRange) (by simp; rfl)
      simpa using this
    exact ⟨Nat.succ_pos _, inDay⟩

theorem portKept_timeInRange : PortKept State.timeInRange where
  port _ _ _ hs := hs
  buffer _ _ hs := hs
  expectation _ _ hs := hs
  terminals _ hs := hs
  engine p r := by
    cases r
    case setTime => exact timeInRange_setTime
    all_goals
      exact Engine.Keeps.of_eq (π := State.timebase)
        (fun _ _ same hs => by unfold State.timeInRange; rwa [same]) (by simp [engineOf])

theorem timeInRange_event {c : Instr} {s t : State} (event : c.BlockEvent) (hs : s.timeInRange)
    (ht : exec c s = .next t) : t.timeInRange := by
  have of_timebase {t : State} (same : t.timebase = s.timebase) : t.timeInRange := by
    unfold State.timeInRange; rwa [same]
  have reset (low : Bool) : (s.atReset low).timeInRange := ⟨Nat.succ_pos 999, Nat.succ_pos 86399⟩
  cases event with
  | board h => exact of_timebase (exec_boardEvent h ht).timebase
  | tape h => exact of_timebase (exec_tapeEvent h ht).timebase
  | rollRecord =>
    cases ht
    split
    · exact hs
    · split <;> exact hs
  | pageHandoff =>
    cases ht
    split
    · exact hs
    · exact of_timebase (by rw [State.takePageChange_frame])
  | noticeRaise => cases ht; split <;> exact hs
  | tick =>
    cases ht
    split
    · exact hs
    · refine ⟨?_, hs.2⟩
      simp only [decide_eq_true_eq]
      split <;> omega
  | dayClockAdvance =>
    cases ht
    split
    · exact hs
    · exact State.timeInRange.setDayClock (s := s.setSeconds _) hs (nextSecond_lt _)
  | deviceReset => cases ht; exact reset _
  | resetRelease =>
    cases ht
    split
    · exact reset _
    · exact hs

theorem timeInRange_exec {c : Instr} {s t : State} (hs : s.timeInRange) (ht : exec c s = .next t) : t.timeInRange :=
  portKept_timeInRange.exec (fun _ _ _ event hs ht => timeInRange_event event hs ht) hs ht

end Sys2Proof.Machine
end

section
/-! The symbol directory and the stored prices, as the statements read them: the order of the directory (R10), and what
each action makes of the prices that a record stores (R1, R14). -/

namespace Sys2Proof.Machine

/-! ### The order of the directory -/

theorem symbolBefore_iff (a b : Text) : symbolBefore a b = true ↔ a.map (·.toNat) < b.map (·.toNat) := by
  induction a generalizing b with
  | nil => cases b <;> simp [symbolBefore]
  | cons x a ih =>
    cases b with
    | nil => simp [symbolBefore]
    | cons y b => simp [symbolBefore, List.cons_lt_cons_iff, ih, BitVec.lt_def, BitVec.toNat_inj]

theorem classBefore_iff (a b : Option Byte) : classBefore a b = true ↔
    a = none ∧ b.isSome = true ∨ ∃ x y, a = some x ∧ b = some y ∧ x.toNat < y.toNat := by
  cases a <;> cases b <;> simp [classBefore, BitVec.lt_def]

theorem DirEntry.before_iff (a b : DirEntry) : a.before b = true ↔ a.symbol.map (·.toNat) < b.symbol.map (·.toNat) ∨
    a.symbol = b.symbol ∧ (a.cls = none ∧ b.cls.isSome = true ∨
      ∃ x y, a.cls = some x ∧ b.cls = some y ∧ x.toNat < y.toNat) := by
  unfold DirEntry.before
  rw [Bool.or_eq_true, Bool.and_eq_true, symbolBefore_iff, classBefore_iff, decide_eq_true_eq]

/-- The place of an entry in the order of the directory, as a pair of a list of letters and a class number. -/
def DirEntry.place (e : DirEntry) : Lex (List Nat × Nat) := toLex (e.symbol.map (·.toNat), e.cls.elim 0 (·.toNat + 1))

theorem map_toNat_inj {a b : Text} : a.map (·.toNat) = b.map (·.toNat) ↔ a = b :=
  (List.map_injective_iff.mpr fun _ _ => BitVec.eq_of_toNat_eq).eq_iff

theorem DirEntry.before_iff_place (a b : DirEntry) : a.before b = true ↔ a.place < b.place := by
  rw [DirEntry.before_iff, DirEntry.place, DirEntry.place, Prod.Lex.toLex_lt_toLex]
  refine or_congr Iff.rfl (and_congr map_toNat_inj.symm ?_)
  cases a.cls <;> cases b.cls <;> simp

theorem DirEntry.place_inj (a b : DirEntry) : a.place = b.place ↔ a.symbol = b.symbol ∧ a.cls = b.cls := by
  unfold DirEntry.place
  rw [toLex_inj, Prod.mk.injEq, map_toNat_inj]
  refine and_congr Iff.rfl ?_
  cases a.cls <;> cases b.cls <;> simp [BitVec.toNat_inj]

theorem mem_directoryInsert (e f : DirEntry) (l : List DirEntry) : f ∈ directoryInsert e l ↔ f = e ∨ f ∈ l := by
  induction l with
  | nil => simp [directoryInsert]
  | cons g l ih =>
    unfold directoryInsert
    split
    · simp
    · simp [ih, or_left_comm]

/-- An entry with a new symbol and class goes to its place in the order (R10). -/
theorem pairwise_directoryInsert {e : DirEntry} {l : List DirEntry} (order : l.Pairwise fun a b => a.before b = true)
    (fresh : ∀ f ∈ l, ¬ (f.symbol = e.symbol ∧ f.cls = e.cls)) :
    (directoryInsert e l).Pairwise fun a b => a.before b = true := by
  simp only [DirEntry.before_iff_place, ← DirEntry.place_inj] at *
  induction l with
  | nil => simp [directoryInsert]
  | cons g l ih =>
    obtain ⟨above, rest⟩ := List.pairwise_cons.mp order
    unfold directoryInsert
    split
    next below =>
      rw [DirEntry.before_iff_place] at below
      refine List.pairwise_cons.mpr ⟨fun f hf => ?_, order⟩
      obtain rfl | hf := List.mem_cons.mp hf
      · exact below
      · exact below.trans (above f hf)
    next notBelow =>
      rw [DirEntry.before_iff_place] at notBelow
      have after : g.place < e.place :=
        lt_of_le_of_ne (not_lt.mp notBelow) (fresh g List.mem_cons_self)
      refine List.pairwise_cons.mpr ⟨fun f hf => ?_, ih rest fun f hf => fresh f (List.mem_cons_of_mem _ hf)⟩
      obtain rfl | hf := (mem_directoryInsert _ _ _).mp hf
      · exact after
      · exact above f hf

theorem directoryIndex_eq_none {d : List DirEntry} {symbol : Text} {cls : Option Byte} :
    directoryIndex d symbol cls = none ↔ ∀ f ∈ d, ¬ (f.symbol = symbol ∧ f.cls = cls) := by
  unfold directoryIndex
  simp

/-! ### Price operands -/

theorem grid_dvd (d : Denominator) : d.grid * d.value = 256 := by cases d <;> rfl

/-- R22, R23: what a price operand converts to lies in the range of a stored price. -/
theorem priceOperand_le {ops : List Word} {i x : Nat} (h : priceOperand ops i = some x) : x ≤ 2559999 := by
  unfold priceOperand at h
  dsimp only at h
  split at h
  · cases h
  next d _ =>
  split at h
  next inRange =>
    obtain rfl := Option.some.inj h
    obtain ⟨whole, numerator⟩ := inRange
    have whole' : operand ops i ≤ 9999 := whole
    unfold priceUnits
    cases d <;> simp only [Denominator.value] at numerator ⊢ <;> omega
  · cases h

theorem salePrice_le {ops : List Word} {i x : Nat} (h : salePrice ops i = some x) : x ≤ 2559999 :=
  priceOperand_le (Option.filter_eq_some_iff.mp h).1

theorem optionalPrice_le {ops : List Word} {i x : Nat} (h : optionalPrice ops i = some (some x)) : x ≤ 2559999 := by
  unfold optionalPrice at h
  split at h
  · obtain ⟨y, found, same⟩ := Option.map_eq_some_iff.mp h
    exact Option.some.inj same ▸ priceOperand_le found
  · cases h

/-! ### The prices that a record stores -/

/-- Every price that a record stores satisfies `P`, field by field. -/
structure Instrument.PricesIn (P : Nat → Prop) (v : Instrument) : Prop where
  prevClose : ∀ x, v.prevClose = some x → P x
  opening : ∀ o, v.opening = some o → P o.price
  high : ∀ x, v.high = some x → P x
  low : ∀ x, v.low = some x → P x
  last : ∀ l, v.last = some l → P l.price
  anchorHigh : ∀ x, v.anchorHigh = some x → P x
  anchorLow : ∀ x, v.anchorLow = some x → P x
  anchorLast : ∀ l, v.anchorLast = some l → P l.price
  bid : ∀ x, v.bid = some x → P x
  ask : ∀ x, v.ask = some x → P x
  prints : ∀ p ∈ v.prints, P p.price

theorem mem_storedPrices (v : Instrument) (x : Nat) : x ∈ storedPrices v ↔
    v.prevClose = some x ∨ v.opening.map (·.price) = some x ∨ v.high = some x ∨ v.low = some x ∨
    v.last.map (·.price) = some x ∨ v.anchorHigh = some x ∨ v.anchorLow = some x ∨
    v.anchorLast.map (·.price) = some x ∨ v.bid = some x ∨ v.ask = some x ∨ ∃ q ∈ v.prints, q.price = x := by
  simp [storedPrices]

theorem Instrument.pricesIn_iff {P : Nat → Prop} {v : Instrument} : v.PricesIn P ↔ ∀ x ∈ storedPrices v, P x := by
  simp only [mem_storedPrices]
  constructor
  · rintro h x (hx | hx | hx | hx | hx | hx | hx | hx | hx | hx | ⟨p, hp, rfl⟩)
    · exact h.prevClose x hx
    · obtain ⟨o, ho, rfl⟩ := Option.map_eq_some_iff.mp hx; exact h.opening o ho
    · exact h.high x hx
    · exact h.low x hx
    · obtain ⟨l, hl, rfl⟩ := Option.map_eq_some_iff.mp hx; exact h.last l hl
    · exact h.anchorHigh x hx
    · exact h.anchorLow x hx
    · obtain ⟨l, hl, rfl⟩ := Option.map_eq_some_iff.mp hx; exact h.anchorLast l hl
    · exact h.bid x hx
    · exact h.ask x hx
    · exact h.prints p hp
  · intro h
    constructor
    case opening => intro o ho; exact h _ (by simp [ho])
    case last => intro l hl; exact h _ (by simp [hl])
    case anchorLast => intro l hl; exact h _ (by simp [hl])
    case prints =>
      intro p hp
      have stored : ∃ q ∈ v.prints, q.price = p.price := ⟨p, hp, rfl⟩
      exact h _ (by simp only [stored, or_true])
    all_goals intro x hx; exact h x (by simp [hx])

theorem eq_or_of_raiseTo {a : Option Nat} {p x : Nat} (h : raiseTo a p = some x) : x = p ∨ a = some x := by
  cases a with
  | none => exact .inl (Option.some.inj h).symm
  | some a =>
    obtain rfl := Option.some.inj h
    exact (max_choice a p).symm.imp id fun same => congrArg some same.symm

theorem eq_or_of_lowerTo {a : Option Nat} {p x : Nat} (h : lowerTo a p = some x) : x = p ∨ a = some x := by
  cases a with
  | none => exact .inl (Option.some.inj h).symm
  | some a =>
    obtain rfl := Option.some.inj h
    exact (min_choice a p).symm.imp id fun same => congrArg some same.symm

/-- A fold that takes one of its two arguments at each step ends with a member of the list or with its start. -/
theorem mem_or_of_foldl {f : Option Nat → Nat → Option Nat} (choice : ∀ a p x, f a p = some x → x = p ∨ a = some x)
    {l : List Nat} {a : Option Nat} {x : Nat} (h : l.foldl f a = some x) : x ∈ l ∨ a = some x := by
  induction l generalizing a with
  | nil => exact .inr h
  | cons p l ih =>
    obtain mem | start := ih h
    · exact .inl (List.mem_cons_of_mem _ mem)
    · obtain rfl | same := choice a p x start
      · exact .inl List.mem_cons_self
      · exact .inr same

theorem greatest_mem {l : List Nat} {x : Nat} (h : greatest l = some x) : x ∈ l :=
  (mem_or_of_foldl (fun _ _ _ => eq_or_of_raiseTo) h).resolve_right nofun

theorem least_mem {l : List Nat} {x : Nat} (h : least l = some x) : x ∈ l :=
  (mem_or_of_foldl (fun _ _ _ => eq_or_of_lowerTo) h).resolve_right nofun

section PricesIn

variable {P : Nat → Prop} {v : Instrument} (h : v.PricesIn P)
include h

theorem Instrument.PricesIn.collection {x : Nat} (hx : x ∈ priceCollection v) : P x := by
  have cases : v.anchorHigh = some x ∨ v.anchorLow = some x ∨ ∃ p ∈ v.prints, p.valid = true ∧ p.price = x := by
    simpa [priceCollection, or_assoc, and_assoc] using hx
  obtain hx | hx | ⟨p, hp, -, rfl⟩ := cases
  · exact h.anchorHigh x hx
  · exact h.anchorLow x hx
  · exact h.prints p hp

theorem Instrument.PricesIn.bringHighLow : (bringHighLow v).PricesIn P :=
  { h with high := fun _ hx => h.collection (greatest_mem hx), low := fun _ hx => h.collection (least_mem hx) }

theorem Instrument.PricesIn.foldAnchor {p : Print} (hp : P p.price) : (foldAnchor p v).PricesIn P := by
  unfold Machine.foldAnchor
  split
  · refine { h with
      anchorHigh := fun x hx => ?_, anchorLow := fun x hx => ?_, anchorLast := fun l hl => ?_ }
    · obtain rfl | hx := eq_or_of_raiseTo hx
      · exact hp
      · exact h.anchorHigh x hx
    · obtain rfl | hx := eq_or_of_lowerTo hx
      · exact hp
      · exact h.anchorLow x hx
    · dsimp only at hl
      split at hl
      · obtain rfl := Option.some.inj hl
        exact hp
      · exact h.anchorLast l hl
  · exact h

theorem Instrument.PricesIn.joinPrint {p : Print} (hp : P p.price) : (joinPrint p v).PricesIn P := by
  have joins {l : List Print} (hl : ∀ q ∈ l, P q.price) : ∀ q ∈ l ++ [p], P q.price := fun q hq => by
    obtain hq | hq := List.mem_append.mp hq
    · exact hl q hq
    · exact List.mem_singleton.mp hq ▸ hp
  unfold Machine.joinPrint
  split
  · exact { h with prints := joins (l := []) nofun }
  next first rest list =>
  have older : ∀ q ∈ first :: rest, P q.price := list ▸ h.prints
  split
  · exact { h.foldAnchor (older first List.mem_cons_self) with
      prints := joins fun q hq => older q (List.mem_cons_of_mem _ hq) }
  · exact { h with prints := joins h.prints }

theorem Instrument.PricesIn.showSale {p : Print} (hp : P p.price) : (showSale p v).PricesIn P := by
  unfold Machine.showSale
  split
  · exact h
  · refine { h with opening := fun o ho => ?opening, last := fun l hl => ?last }
    case last =>
      obtain rfl := Option.some.inj hl
      exact hp
    case opening =>
      dsimp only at ho
      split at ho
      next opened => exact h.opening o (opened.trans ho)
      · obtain rfl := Option.some.inj ho
        exact hp

theorem Instrument.PricesIn.acceptPrint {p : Print} (hp : P p.price) : (acceptPrint p v).PricesIn P :=
  Instrument.PricesIn.bringHighLow { (h.joinPrint hp).showSale hp with }

theorem Instrument.PricesIn.replacePrint {q : Print} (hq : P q.price) : ∀ p ∈ v.replacePrint q, P p.price := by
  intro p hp
  obtain ⟨x, hx, rfl⟩ := List.mem_map.mp hp
  split
  · exact hq
  · exact h.prints x hx

theorem Instrument.PricesIn.bringLast : (bringLast v).PricesIn P := by
  refine { h with last := fun l hl => ?_ }
  replace hl : derivedLast v = some l := hl
  unfold derivedLast at hl
  split at hl
  next p newest =>
    obtain rfl := Option.some.inj hl
    exact h.prints p (newestValidRegular_mem newest).1
  · obtain ⟨a, ha, rfl⟩ := Option.map_eq_some_iff.mp hl
    exact h.anchorLast a ha

omit h in
theorem following_subset (v : Instrument) (p : Print) {q : Print} (hq : q ∈ v.following p) : q ∈ v.prints :=
  List.dropWhile_subset _ (List.drop_subset _ _ hq)

theorem Instrument.PricesIn.cancel {p : Print} (hp : P p.price) : (v.cancel p).PricesIn P := by
  have opening : ∀ o, openingAfterCancel p v = some o → P o.price := fun o ho => by
    unfold openingAfterCancel at ho
    split at ho
    · obtain ⟨q, found, rfl⟩ := Option.map_eq_some_iff.mp ho
      exact h.prints q (following_subset v p (List.mem_of_find?_eq_some found))
    · exact h.opening o ho
  have brought := Instrument.PricesIn.bringHighLow
    (v := { v with
      prints := v.replacePrint { p with valid := false }
      volume := (volumeAfter v.volume v.saturated p.size 0).1
      saturated := (volumeAfter v.volume v.saturated p.size 0).2
      tradeCount := countDown v.tradeCount
      opening := openingAfterCancel p v })
    { h with prints := h.replacePrint hp, opening := opening }
  unfold Instrument.cancel
  dsimp only
  split
  · exact brought.bringLast
  · exact brought

theorem Instrument.PricesIn.correct {price : Nat} (hp : P price) (p : Print) (size : Nat) :
    (v.correct p price size).PricesIn P := by
  have opening : ∀ o, (if v.isOpening p then some ⟨price, p.number⟩ else v.opening) = some o → P o.price := fun o ho => by
    split at ho
    · obtain rfl := Option.some.inj ho
      exact hp
    · exact h.opening o ho
  have brought := Instrument.PricesIn.bringHighLow
    (v := { v with
      prints := v.replacePrint (correctedPrint p price size v)
      volume := (volumeAfter v.volume v.saturated p.size size).1
      saturated := (volumeAfter v.volume v.saturated p.size size).2
      opening := if v.isOpening p then some ⟨price, p.number⟩ else v.opening })
    { h with prints := h.replacePrint hp, opening := opening }
  unfold Instrument.correct
  dsimp only
  split
  · exact { brought with last := fun l hl => by obtain rfl := Option.some.inj hl; exact hp }
  · exact brought

theorem Instrument.PricesIn.rolled : v.rolled.PricesIn P := by
  refine ⟨fun x hx => ?_, nofun, nofun, nofun, nofun, nofun, nofun, nofun, h.bid, h.ask, nofun⟩
  replace hx : (match v.last with | some l => some l.price | none => v.prevClose) = some x := hx
  split at hx
  next l last =>
    obtain rfl := Option.some.inj hx
    exact h.last l last
  · exact h.prevClose x hx

end PricesIn

end Sys2Proof.Machine
end

section
/-! Every command keeps the symbol directory in agreement with the records, and the stored prices on their grids (R1,
R10). -/

namespace Sys2Proof.Machine

/-! ### What names a record, and its grid -/

/-- What the symbol directory and the grid read of a record beside its prices. -/
def Instrument.listing (v : Instrument) : TradingState × Option Text × Option Byte × Denominator :=
  (v.trading, v.symbol, v.cls, v.denominator)

@[simp] theorem listing_acceptPrint (price size : Nat) (late : Bool) (v : Instrument) :
    (acceptPrint (formPrint price size late v) v).listing = v.listing := by
  have joined : (joinPrint (formPrint price size late v) v).listing = v.listing := by
    rw [joinPrint_eq]
    rfl
  cases late <;> exact joined

@[simp] theorem listing_cancel (p : Print) (v : Instrument) : (v.cancel p).listing = v.listing := by
  unfold Instrument.cancel
  dsimp only
  split <;> rfl

@[simp] theorem listing_correct (p : Print) (price size : Nat) (v : Instrument) :
    (v.correct p price size).listing = v.listing := by
  unfold Instrument.correct
  dsimp only
  split <;> rfl

/-- A price in the range of a stored price and on the grid of the denominator (R1, R24). -/
def Denominator.admits (d : Denominator) (x : Nat) : Prop := x ≤ 2559999 ∧ x % d.grid = 0

theorem Instrument.pricesOnGrid_iff (v : Instrument) :
    v.pricesOnGrid ↔ (v.trading ≠ .vacant → v.PricesIn v.denominator.admits) := by
  unfold Instrument.pricesOnGrid
  rw [Instrument.pricesIn_iff]
  rfl

theorem isVacant_eq_false {v : Instrument} : v.isVacant = false ↔ v.trading ≠ .vacant := by
  unfold Instrument.isVacant
  simp

theorem isVacant_eq_true {v : Instrument} : v.isVacant = true ↔ v.trading = .vacant := by
  unfold Instrument.isVacant
  simp

/-- The symbol directory agrees with the records, and the stored prices stand on their grids. -/
structure State.recordsKept (s : State) : Prop where
  records : Table.wf Instrument.vacant s.quote.instruments = true
  directory : s.directoryKept
  grid : ∀ i, (s.instr i).pricesOnGrid

section Records

variable {s t : State}

theorem Instrument.pricesOnGrid_bare (v : Instrument) : v.bare.pricesOnGrid ↔ v.pricesOnGrid := Iff.rfl

/-- The records stay but for what the board, the pages and the ribbons hang on them. -/
theorem State.recordsKept.same (hs : s.recordsKept) (h : s.sameRecords Instrument.bare t)
    (directory : t.quote.directory = s.quote.directory) : t.recordsKept := by
  obtain ⟨wf, ⟨order, entries, named⟩, grid⟩ := hs
  have same i := h.same wf i
  have trading i : (t.instr i).trading = (s.instr i).trading := (congrArg Instrument.trading (same i) :)
  have symbol i : (t.instr i).symbol = (s.instr i).symbol := (congrArg Instrument.symbol (same i) :)
  have cls i : (t.instr i).cls = (s.instr i).cls := (congrArg Instrument.cls (same i) :)
  refine ⟨h.wf wf, ⟨directory ▸ order, fun e => ?_, fun i => ?_⟩, fun i => ?_⟩
  · rw [directory, trading, symbol, cls]; exact entries e
  · rw [trading, symbol]; exact named i
  · rw [← Instrument.pricesOnGrid_bare, same, Instrument.pricesOnGrid_bare]; exact grid i

theorem State.recordsKept.of_quote (s t : State) (h : t.quote = s.quote) (hs : s.recordsKept) : t.recordsKept :=
  hs.same (.of_instruments (congrArg Quote.instruments h)) (congrArg Quote.directory h)

/-- A record is written that the directory does not tell from the one before. -/
theorem State.recordsKept.setInstr (hs : s.recordsKept) (i : Nat) {v : Instrument}
    (vacant : v.trading = .vacant ↔ (s.instr i).trading = .vacant) (symbol : v.symbol = (s.instr i).symbol)
    (cls : v.cls = (s.instr i).cls) (grid : v.pricesOnGrid) : (s.setInstr i v).recordsKept := by
  obtain ⟨wf, ⟨order, entries, named⟩, grids⟩ := hs
  refine ⟨State.wf_setInstr i v wf, ⟨order, fun e => ?_, fun j => ?_⟩, fun j => ?_⟩
  · by_cases same : e.index = i
    · rw [same, State.instr_setInstr_self, ne_eq, vacant, symbol, cls, ← same]; exact entries e
    · rw [State.instr_setInstr_ne _ _ same]; exact entries e
  · by_cases same : j = i
    · rw [same, State.instr_setInstr_self, ne_eq, vacant, symbol]; exact named i
    · rw [State.instr_setInstr_ne _ _ same]; exact named j
  · by_cases same : j = i
    · rw [same, State.instr_setInstr_self]; exact grid
    · rw [State.instr_setInstr_ne _ _ same]; exact grids j

/-- An action on a record that keeps what names it and its denominator. -/
theorem State.recordsKept.change (hs : s.recordsKept) (i : Nat) {v : Instrument} (e : Bool)
    (listing : v.listing = (s.instr i).listing)
    (prices : (s.instr i).trading ≠ .vacant → (s.instr i).PricesIn (s.instr i).denominator.admits →
      v.PricesIn (s.instr i).denominator.admits) : (s.change i v e).recordsKept := by
  have trading : v.trading = (s.instr i).trading := congrArg Prod.fst listing
  have denominator : v.denominator = (s.instr i).denominator := congrArg (·.2.2.2) listing
  refine State.recordsKept.of_quote (s.setInstr i v) _ rfl (hs.setInstr i (by rw [trading]) (congrArg (·.2.1) listing) (congrArg (·.2.2.1) listing) ?_)
  rw [Instrument.pricesOnGrid_iff, trading, denominator]
  exact fun lives => prices lives ((Instrument.pricesOnGrid_iff _).mp (hs.grid i) lives)

/-- An action that touches neither what names the record nor its denominator and prices. -/
theorem State.recordsKept.changeOther (hs : s.recordsKept) (i : Nat) {v : Instrument} (e : Bool)
    (vacant : v.trading = .vacant ↔ (s.instr i).trading = .vacant) (symbol : v.symbol = (s.instr i).symbol)
    (cls : v.cls = (s.instr i).cls) (denominator : v.denominator = (s.instr i).denominator)
    (prices : storedPrices v = storedPrices (s.instr i)) : (s.change i v e).recordsKept := by
  refine State.recordsKept.of_quote (s.setInstr i v) _ rfl (hs.setInstr i vacant symbol cls ?_)
  unfold Instrument.pricesOnGrid
  rw [ne_eq, vacant, denominator, prices]
  exact hs.grid i

theorem State.recordsKept.tapeActs (hs : s.recordsKept) (h : s.tapeActs t) : t.recordsKept :=
  hs.same (h.records _ fun v r w => v.bare_setDigitRef r w) h.directory

/-- R13: a record is defined under a symbol and class that the directory does not hold. -/
theorem State.recordsKept.define (hs : s.recordsKept) {i : Nat} {v : Instrument} {symbol : Text} {cls : Option Byte}
    (inRange : i < 2048) (free : (s.instr i).trading = .vacant) (lives : v.trading ≠ .vacant)
    (hsymbol : v.symbol = some symbol) (hcls : v.cls = cls)
    (fresh : ∀ f ∈ s.quote.directory, ¬ (f.symbol = symbol ∧ f.cls = cls)) (grid : v.pricesOnGrid) :
    ((s.setInstr i v).setDirectory (directoryInsert ⟨symbol, cls, i⟩ s.quote.directory)).recordsKept := by
  obtain ⟨wf, ⟨order, entries, named⟩, grids⟩ := hs
  have self : ((s.setInstr i v).setDirectory (directoryInsert ⟨symbol, cls, i⟩ s.quote.directory)).instr i = v :=
    State.instr_setInstr_self s i v
  have other {j : Nat} (h : j ≠ i) :
      ((s.setInstr i v).setDirectory (directoryInsert ⟨symbol, cls, i⟩ s.quote.directory)).instr j = s.instr j :=
    State.instr_setInstr_ne s v h
  refine ⟨State.wf_setInstr i v wf, ⟨pairwise_directoryInsert order fresh, fun e => ?_, fun j => ?_⟩, fun j => ?_⟩
  · refine (mem_directoryInsert _ _ _).trans ?_
    by_cases same : e.index = i
    · have unlisted : e ∉ s.quote.directory := fun he => ((entries e).mp he).1 (same ▸ free)
      rw [same, self, hsymbol, hcls]
      obtain ⟨esymbol, ecls, eindex⟩ := e
      obtain rfl : eindex = i := same
      simp only [DirEntry.mk.injEq, and_true, unlisted, or_false, ne_eq, lives, not_false_eq_true, true_and,
        Option.some.injEq]
      exact ⟨fun h => ⟨h.1.symm, h.2.symm⟩, fun h => ⟨h.1.symm, h.2.symm⟩⟩
    · have ne : e ≠ ⟨symbol, cls, i⟩ := fun h => same (congrArg DirEntry.index h)
      rw [other same]
      simpa only [ne, false_or] using entries e
  · by_cases same : j = i
    · rw [same, self, hsymbol]; exact fun _ => ⟨inRange, rfl⟩
    · rw [other same]; exact named j
  · by_cases same : j = i
    · rw [same, self]; exact grid
    · rw [other same]; exact grids j

/-- R16: a record is vacated and its directory entry deleted. -/
theorem State.recordsKept.vacate (hs : s.recordsKept) (i : Nat) :
    ((s.setInstr i (s.instr i).vacated).setDirectory (directoryErase i s.quote.directory)).recordsKept := by
  obtain ⟨wf, ⟨order, entries, named⟩, grids⟩ := hs
  have self : ((s.setInstr i (s.instr i).vacated).setDirectory (directoryErase i s.quote.directory)).instr i =
      (s.instr i).vacated := State.instr_setInstr_self s i _
  have other {j : Nat} (h : j ≠ i) :
      ((s.setInstr i (s.instr i).vacated).setDirectory (directoryErase i s.quote.directory)).instr j = s.instr j :=
    State.instr_setInstr_ne s _ h
  refine ⟨State.wf_setInstr i _ wf, ⟨order.sublist List.filter_sublist, fun e => ?_, fun j => ?_⟩, fun j => ?_⟩
  · refine List.mem_filter.trans ?_
    by_cases same : e.index = i
    · rw [same, self]
      exact ⟨fun h => by simp at h, fun h => absurd rfl h.1⟩
    · rw [other same, entries e]
      exact ⟨fun h => h.1, fun h => ⟨h, decide_eq_true same⟩⟩
  · by_cases same : j = i
    · rw [same, self]; exact fun h => absurd rfl h
    · rw [other same]; exact named j
  · by_cases same : j = i
    · rw [same, self]; exact fun h => absurd rfl h
    · rw [other same]; exact grids j

end Records

end Sys2Proof.Machine
end

section
/-! Every command keeps the symbol directory in agreement with the records, and the stored prices on their grids: the
engines of the requests, and then every command (R1, R10). -/

namespace Sys2Proof.Machine

theorem onGrid_iff (d : Denominator) (x : Nat) : onGrid d x = true ↔ x % d.grid = 0 := by
  unfold onGrid
  simp

/-! ### What the checks of the requests that bring a price let through -/

section Checks

variable {ops : List Word} {s : State}

theorem admits_of_salePrice {d : Denominator} {i : Nat} (some : (salePrice ops i).isNone = false)
    (even : (!onGrid d ((salePrice ops i).getD 0)) = false) : d.admits ((salePrice ops i).getD 0) := by
  obtain ⟨x, hx⟩ := Option.isSome_iff_exists.mp (by simpa using some)
  rw [hx] at even ⊢
  exact ⟨salePrice_le hx, (onGrid_iff d x).mp (by simpa using even)⟩

theorem admits_of_optionalPrice {d : Denominator} {i x : Nat}
    (even : (((optionalPrice ops i).getD none).any fun p => !onGrid d p) = false)
    (hx : (optionalPrice ops i).getD none = some x) : d.admits x := by
  have found : optionalPrice ops i = some (some x) := by
    cases h : optionalPrice ops i with
    | none => simp [h] at hx
    | some y => simp_all
  rw [hx] at even
  exact ⟨optionalPrice_le found, (onGrid_iff d x).mp (by simpa using even)⟩

theorem admits_of_tradeCheck (passes : tradeCheck ops s = none) :
    (s.instr (operand ops 1)).denominator.admits ((salePrice ops 2).getD 0) := by
  have checks := firstRefusal_eq_none.mp passes
  simp only [List.mem_cons, forall_eq_or_imp, Bool.or_eq_false_iff] at checks
  obtain ⟨⟨⟨⟨⟨⟨-, -⟩, some⟩, -⟩, -⟩, -⟩, -, -, -, even, -⟩ := checks
  exact admits_of_salePrice some even

theorem admits_of_quoteCheck (passes : quoteCheck ops s = none) :
    (∀ x, (optionalPrice ops 2).getD none = some x → (s.instr (operand ops 1)).denominator.admits x) ∧
    ∀ x, (optionalPrice ops 4).getD none = some x → (s.instr (operand ops 1)).denominator.admits x := by
  have checks := firstRefusal_eq_none.mp passes
  simp only [List.mem_cons, forall_eq_or_imp, Bool.or_eq_false_iff] at checks
  obtain ⟨-, -, -, ⟨bid, ask⟩, -⟩ := checks
  exact ⟨fun x => admits_of_optionalPrice bid, fun x => admits_of_optionalPrice ask⟩

theorem admits_of_correctPrintCheck (passes : correctPrintCheck ops s = none) :
    (s.instr (operand ops 0)).denominator.admits ((salePrice ops 2).getD 0) := by
  unfold correctPrintCheck at passes
  dsimp only at passes
  split at passes
  · cases passes
  next floor =>
  split at passes
  · cases passes
  have formed := firstRefusal_eq_none.mp floor
  have checks := firstRefusal_eq_none.mp passes
  simp only [floorChecks, List.mem_cons, forall_eq_or_imp, Bool.or_eq_false_iff] at formed checks
  obtain ⟨⟨-, ⟨⟨-, some⟩, -⟩, -⟩, -⟩ := formed
  exact admits_of_salePrice some checks.1

end Checks

/-! ### The engines -/

theorem recordsKept_tradeReport : Engine.Keeps State.recordsKept tradeReportEngine :=
  .reportEngine (fun _ _ _ hs => ⟨hs.records, hs.directory, hs.grid⟩) (fun _ _ hs => ⟨hs.records, hs.directory, hs.grid⟩) <|
    .checked fun ops s passes hs => by
      have changed := hs.change (operand ops 1) true (listing_acceptPrint ((salePrice ops 2).getD 0) (operandPair ops 4)
        ((flagOperand ops 6).getD false) (s.instr (operand ops 1)))
        fun _ prices => prices.acceptPrint (admits_of_tradeCheck passes)
      refine State.recordsKept.tapeActs (s := State.depart ..) ?_ (.appendPrint _ _ _ _)
      exact .of_quote _ _ (by simp) changed

theorem recordsKept_quoteReport : Engine.Keeps State.recordsKept quoteReportEngine :=
  .reportEngine (fun _ _ _ hs => ⟨hs.records, hs.directory, hs.grid⟩) (fun _ _ hs => ⟨hs.records, hs.directory, hs.grid⟩) <|
    .checked fun ops s passes hs => by
      obtain ⟨bid, ask⟩ := admits_of_quoteCheck passes
      exact hs.change (operand ops 1) true rfl fun _ prices => { prices with bid := bid, ask := ask }

theorem State.recordsKept.changeSession {s : State} (hs : s.recordsKept) (x : Session) (text : Text) :
    (s.changeSession x text).recordsKept := by
  unfold State.changeSession
  refine State.recordsKept.tapeActs ?_ (.appendNotice _ text none _)
  exact ⟨hs.records, hs.directory, hs.grid⟩

theorem recordsKept_openSession : Engine.Keeps State.recordsKept openSessionEngine := by
  intro ops s hs
  unfold openSessionEngine
  split_ifs
  case neg => exact hs.changeSession _ _
  all_goals exact hs

theorem recordsKept_closeSession : Engine.Keeps State.recordsKept closeSessionEngine := by
  intro ops s hs
  unfold closeSessionEngine
  split_ifs
  case neg => exact hs.changeSession _ _
  all_goals exact hs

theorem recordsKept_rollSession : Engine.Keeps State.recordsKept rollSessionEngine := by
  intro ops s hs
  unfold rollSessionEngine
  split_ifs
  case neg => exact ⟨hs.records, hs.directory, hs.grid⟩
  all_goals exact hs

/-- HALT and RESUME act on a record that is not VACANT, and leave it so. -/
theorem State.recordsKept.changeTrading {s : State} (hs : s.recordsKept) (i : Nat) {x : TradingState}
    (lives : (s.instr i).trading ≠ .vacant) (stays : x ≠ .vacant) :
    (s.change i { s.instr i with trading := x } false).recordsKept :=
  hs.changeOther i false (by simp [lives, stays]) rfl rfl rfl rfl

theorem lives_of_floorChecks {ops : List Word} {s : State} {n : Nat} {bad : Bool} {more : List (Bool × Answer)}
    (passes : firstRefusal (floorChecks n bad ops s ++ more) = none) : (s.instr (operand ops 0)).trading ≠ .vacant := by
  have checks := firstRefusal_eq_none.mp passes
  simp only [floorChecks, List.cons_append, List.mem_cons, forall_eq_or_imp] at checks
  exact isVacant_eq_false.mp checks.2.1

theorem recordsKept_halt : Engine.Keeps State.recordsKept haltEngine :=
  .checked fun ops _ passes hs =>
    (hs.changeTrading (x := .halted (operand ops 1)) _ (lives_of_floorChecks passes) (by simp)).tapeActs (.appendNotice _ _ _ _)

theorem recordsKept_resume : Engine.Keeps State.recordsKept resumeEngine :=
  .checked fun ops s passes hs => by
    dsimp only
    split
    · exact (hs.changeTrading (x := .active) _ (lives_of_floorChecks passes) (by simp)).tapeActs (.appendNotice _ _ _ _)
    · exact hs

theorem recordsKept_fastMarket (fast : Bool) : Engine.Keeps State.recordsKept (fastMarketEngine fast) :=
  .checked fun ops s _ hs => by
    dsimp only
    split
    · exact hs
    · exact hs.changeOther _ false Iff.rfl rfl rfl rfl rfl

theorem recordsKept_cancelPrint : Engine.Keeps State.recordsKept cancelPrintEngine :=
  .checked fun ops s _ hs => by
    dsimp only
    split
    · exact hs
    next p found =>
      exact (hs.change _ true (listing_cancel p _) fun _ prices =>
        prices.cancel (prices.prints p (Instrument.print_mem found).1)).tapeActs (.tapeStep _ _ _ _ _ _)

theorem recordsKept_correctPrint : Engine.Keeps State.recordsKept correctPrintEngine :=
  .checked fun ops s passes hs => by
    dsimp only
    split
    · exact hs
    next p _ =>
      exact (hs.change _ true (listing_correct p _ _ _) fun _ prices =>
        prices.correct (admits_of_correctPrintCheck passes) p _).tapeActs (.tapeStep _ _ _ _ _ _)

theorem recordsKept_tapeText : Engine.Keeps State.recordsKept tapeTextEngine :=
  .checked fun ops s _ hs => by
    have kept : (s.setTextBuffer none).recordsKept := ⟨hs.records, hs.directory, hs.grid⟩
    dsimp only
    split
    · exact hs.tapeActs (.appendNotice _ _ _ _)
    · exact ⟨hs.records, hs.directory, hs.grid⟩
    split
    · exact hs
    · exact kept.tapeActs (.appendNotice _ _ _ _)

theorem State.recordsKept.setBindingHead {s : State} (hs : s.recordsKept) (f : CellField) (h : Option Nat) :
    (s.setBindingHead f h).recordsKept := by
  cases f with
  | instrument f i => exact hs.same (.setInstr s i _ rfl) rfl
  | clock => exact .of_quote s _ rfl hs
  | market => exact .of_quote s _ rfl hs
  | tapeState r => exact .of_quote s _ rfl hs

theorem recordsKept_defineCell : Engine.Keeps State.recordsKept defineCellEngine :=
  .checked fun _ _ _ hs => .of_quote _ _ (State.onBoard_quote _ _) (hs.setBindingHead _ _)

theorem recordsKept_removeCell : Engine.Keeps State.recordsKept removeCellEngine :=
  .checked fun ops s _ hs => by
    dsimp only
    split
    · exact .of_quote (s.setBindingHead _ _) _ rfl (hs.setBindingHead _ _)
    · exact .of_quote s _ rfl hs

/-! The pages -/

section PageQuote

variable {β : Type} {π : Quote → β} (hπ : ∀ q is, π { q with instruments := is } = π q)
include hπ

theorem State.changeViewers_keeps (f : List Nat → List Nat) (is : List Nat) (s : State) :
    π (s.changeViewers f is).quote = π s.quote := by
  induction is generalizing s with
  | nil => rfl
  | cons i is ih => exact (ih (s.setInstr i { s.instr i with viewers := f (s.instr i).viewers })).trans (hπ _ _)

theorem State.closePage_keeps (n : Nat) (s : State) : π (s.closePage n).quote = π s.quote := by
  unfold State.closePage
  split
  · rfl
  · exact State.changeViewers_keeps hπ _ _ s

theorem State.openPage_keeps (n : Nat) (x : Selector) (d : Descriptor) (s : State) :
    π (s.openPage n x d).quote = π s.quote := by
  have opened := State.changeViewers_keeps hπ (setInsert n) (namedIndices (s.pageLines d)) (s.closePage n)
  rw [State.closePage_keeps hπ] at opened
  unfold State.openPage
  dsimp only
  split <;> exact opened

end PageQuote

theorem State.recordsKept.closePage {s : State} (hs : s.recordsKept) (n : Nat) : (s.closePage n).recordsKept :=
  hs.same (State.closePage_records (fun _ _ => rfl) n s) (State.closePage_keeps (fun _ _ => rfl) n s)

theorem recordsKept_closePage (p : PortId) : Engine.Keeps State.recordsKept (closePageEngine p) := by
  have body : Engine.Keeps State.recordsKept closePageBody := .checked fun _ _ _ hs => hs.closePage _
  unfold closePageEngine
  split
  · exact .liveOnly body
  · exact body

theorem recordsKept_openPage : Engine.Keeps State.recordsKept openPageEngine := by
  refine .liveOnly fun ops s hs => ?_
  split
  · exact hs
  split
  · exact hs.same (State.openPage_records (fun _ _ => rfl) _ _ _ s) (State.openPage_keeps (fun _ _ => rfl) _ _ _ s)
  all_goals exact hs

/-! DEFINE INSTRUMENT and MODIFY INSTRUMENT -/

/-- What a DEFINE INSTRUMENT that passes its checks brings (R12). -/
structure DefinesInstrument (ops : List Word) (s : State) (symbol : Text) (cls : Option Byte) (d : Denominator)
    (rs : RibbonSet) (close : Option Nat) (threshold : Option Nat) : Prop where
  symbolIs : symbolOperand ops 1 = some (symbol, cls)
  denominatorIs : Denominator.ofCode (operand ops 4) = some d
  ribbonSetIs : RibbonSet.ofCode (operand ops 5) = some rs
  closeIs : optionalPrice ops 6 = some close
  thresholdIs : thresholdOperand ops 8 = some threshold
  words : ops.length = 10
  inRange : operand ops 0 < 2048
  free : (s.instr (operand ops 0)).trading = .vacant
  fresh : ∀ f ∈ s.quote.directory, ¬ (f.symbol = symbol ∧ f.cls = cls)
  even : ∀ x, close = some x → x % d.grid = 0

theorem defineInstrumentCheck_eq_none {ops : List Word} {s : State} (passes : defineInstrumentCheck ops s = none) :
    ∃ symbol cls d rs close threshold, DefinesInstrument ops s symbol cls d rs close threshold := by
  unfold defineInstrumentCheck at passes
  generalize hsymbol : symbolOperand ops 1 = a, hd : Denominator.ofCode (operand ops 4) = b,
    hrs : RibbonSet.ofCode (operand ops 5) = c, hclose : optionalPrice ops 6 = p, hth : thresholdOperand ops 8 = q at passes
  split at passes
  next symbol cls d rs close threshold =>
    have checks := firstRefusal_eq_none.mp passes
    simp only [List.mem_cons, forall_eq_or_imp, Bool.or_eq_false_iff] at checks
    obtain ⟨⟨words, index⟩, free, fresh, even, -⟩ := checks
    refine ⟨symbol, cls, d, rs, close, threshold, hsymbol, hd, hrs, hclose, hth, by simpa using words, ?_, ?_, ?_,
      fun x hx => ?_⟩
    · exact Nat.not_le.mp (of_decide_eq_false index)
    · exact isVacant_eq_true.mp (by simpa [State.named] using free)
    · exact directoryIndex_eq_none.mp (by simpa using fresh)
    · subst hx
      exact (onGrid_iff d x).mp (by simpa using even)
  · cases passes

theorem DefinesInstrument.definedInstrument {ops : List Word} {s : State} {symbol : Text} {cls : Option Byte}
    {d : Denominator} {rs : RibbonSet} {close threshold : Option Nat}
    (h : DefinesInstrument ops s symbol cls d rs close threshold) (v : Instrument) : definedInstrument ops v =
      { Instrument.vacant with
        symbol := some symbol, cls := cls, trading := .active, denominator := d, ribbonSet := rs, prevClose := close
        blockThreshold := threshold, bindHead := v.bindHead, viewers := v.viewers } := by
  simp [Machine.definedInstrument, h.symbolIs, h.denominatorIs, h.ribbonSetIs, h.closeIs, h.thresholdIs]

theorem recordsKept_defineInstrument : Engine.Keeps State.recordsKept defineInstrumentEngine :=
  .checked fun ops s passes hs => by
    obtain ⟨symbol, cls, d, rs, close, threshold, h⟩ := defineInstrumentCheck_eq_none passes
    have defined := h.definedInstrument (s.instr (operand ops 0))
    have symbolIs : (definedInstrument ops (s.instr (operand ops 0))).symbol = some symbol := by rw [defined]
    have classIs : (definedInstrument ops (s.instr (operand ops 0))).cls = cls := by rw [defined]
    have grid : (definedInstrument ops (s.instr (operand ops 0))).pricesOnGrid := by
      rw [defined]
      refine (Instrument.pricesOnGrid_iff _).mpr fun _ => ⟨fun x hx => ?_, nofun, nofun, nofun, nofun, nofun, nofun, nofun,
        nofun, nofun, nofun⟩
      exact ⟨optionalPrice_le (h.closeIs.trans (congrArg some hx)), h.even x hx⟩
    dsimp only
    rw [symbolIs, classIs]
    have lives : (definedInstrument ops (s.instr (operand ops 0))).trading ≠ .vacant := by simp [definedInstrument]
    have kept := hs.define h.inRange h.free lives symbolIs classIs h.fresh grid
    refine .of_quote _ _ ?_ kept
    rfl

/-- A finer denominator's grid takes every price of a coarser one's (R24). -/
theorem admits_of_finer {d e : Denominator} {x : Nat} (h : d.admits x) (finer : ¬ e.value < d.value) : e.admits x := by
  obtain ⟨range, even⟩ := h
  refine ⟨range, ?_⟩
  cases d <;> cases e <;> simp [Denominator.value, Denominator.grid] at * <;> omega

theorem recordsKept_modifyInstrument : Engine.Keeps State.recordsKept modifyInstrumentEngine :=
  .checked fun ops s passes hs => by
    have checks := firstRefusal_eq_none.mp passes
    simp only [List.mem_cons, forall_eq_or_imp, Bool.or_eq_false_iff, badItem, offNewGrid] at checks
    obtain ⟨⟨-, ⟨-, formed⟩⟩, -, -, -, ⟨closeEven, storedEven⟩, -⟩ := checks
    refine State.recordsKept.of_quote (s.setInstr _ _) _ rfl (hs.setInstr (operand ops 0) Iff.rfl rfl rfl ?_)
    rw [Instrument.pricesOnGrid_iff]
    intro lives
    have before := (Instrument.pricesOnGrid_iff _).mp (hs.grid (operand ops 0)) lives
    have stored : (s.instr (operand ops 0)).PricesIn
        (denominatorAfter ops (s.instr (operand ops 0))).admits := by
      by_cases coarser : (denominatorAfter ops (s.instr (operand ops 0))).value < (s.instr (operand ops 0)).denominator.value
      · refine Instrument.pricesIn_iff.mpr fun x hx => ⟨(Instrument.pricesIn_iff.mp before x hx).1, ?_⟩
        have := storedEven
        simp only [State.named, coarser, decide_true, Bool.true_and, List.any_eq_false] at this
        exact (onGrid_iff _ x).mp (by simpa using this x hx)
      · exact Instrument.pricesIn_iff.mpr fun x hx => admits_of_finer (Instrument.pricesIn_iff.mp before x hx) coarser
    refine { stored with prevClose := fun x hx => ?_ }
    replace hx : (if pricePresent ops 6 then (optionalPrice ops 6).getD (s.instr (operand ops 0)).prevClose
      else (s.instr (operand ops 0)).prevClose) = some x := hx
    split at hx
    · obtain ⟨close, brought⟩ := Option.isSome_iff_exists.mp (by simpa using formed : (optionalPrice ops 6).isSome = true)
      rw [brought] at hx
      exact admits_of_optionalPrice closeEven (by rw [brought]; exact hx)
    · exact stored.prevClose x hx

/-! ### Every command -/

theorem portKept_recordsKept : PortKept State.recordsKept where
  port s _ _ hs := .of_quote s _ rfl hs
  buffer s _ hs := .of_quote s _ rfl hs
  expectation _ _ hs := ⟨hs.records, hs.directory, hs.grid⟩
  terminals s hs := hs.same (State.closeTerminals_records (fun _ _ => rfl) s) rfl
  engine p r := by
    cases r
    case tradeReport => exact recordsKept_tradeReport
    case quoteReport => exact recordsKept_quoteReport
    case sequenceReset => exact Engine.Keeps.checked fun _ _ _ hs => ⟨hs.records, hs.directory, hs.grid⟩
    case defineInstrument => exact recordsKept_defineInstrument
    case modifyInstrument => exact recordsKept_modifyInstrument
    case removeInstrument => exact Engine.Keeps.checked fun ops _ _ hs => hs.vacate (operand ops 0)
    case openSession => exact recordsKept_openSession
    case closeSession => exact recordsKept_closeSession
    case rollSession => exact recordsKept_rollSession
    case halt => exact recordsKept_halt
    case resume => exact recordsKept_resume
    case setFastMarket => exact recordsKept_fastMarket true
    case clearFastMarket => exact recordsKept_fastMarket false
    case cancelPrint => exact recordsKept_cancelPrint
    case correctPrint => exact recordsKept_correctPrint
    case tapeText => exact recordsKept_tapeText
    case defineCell => exact recordsKept_defineCell
    case removeCell => exact recordsKept_removeCell
    case openPage => exact recordsKept_openPage
    case closePage => exact recordsKept_closePage p
    all_goals exact Engine.Keeps.of_eq (π := State.quote) .of_quote (by simp [engineOf])

theorem recordsKept_reset : State.reset.recordsKept :=
  ⟨rfl, ⟨.nil, fun _ => ⟨nofun, fun h => absurd rfl h.1⟩, fun _ h => absurd rfl h⟩, fun _ h => absurd rfl h⟩

theorem recordsKept_event {c : Instr} {s t : State} (event : c.BlockEvent) (hs : s.recordsKept)
    (ht : exec c s = .next t) : t.recordsKept := by
  have reset (low : Bool) : (s.atReset low).recordsKept := .of_quote State.reset _ rfl recordsKept_reset
  cases event with
  | board h => exact .of_quote _ _ (exec_boardEvent h ht).quote hs
  | tape h => exact hs.tapeActs (exec_tapeEvent h ht)
  | rollRecord =>
    cases ht
    split
    · exact hs
    next i rest _ =>
    have listed : (s.setRolling rest).recordsKept := ⟨hs.records, hs.directory, hs.grid⟩
    split
    · exact listed
    · exact listed.change i false rfl fun _ prices => prices.rolled
  | pageHandoff =>
    cases ht
    split
    · exact hs
    · exact .of_quote s _ (by rw [State.takePageChange_frame]) hs
  | noticeRaise =>
    cases ht
    split
    · exact hs
    · exact .of_quote s _ rfl hs
  | tick =>
    cases ht
    split
    · exact hs
    · exact .of_quote s _ rfl hs
  | dayClockAdvance =>
    cases ht
    split
    · exact hs
    · exact .of_quote s _ rfl hs
  | deviceReset => cases ht; exact reset _
  | resetRelease =>
    cases ht
    split
    · exact reset _
    · exact hs

theorem recordsKept_exec {c : Instr} {s t : State} (hs : s.recordsKept) (ht : exec c s = .next t) : t.recordsKept :=
  portKept_recordsKept.exec (fun _ _ _ event hs ht => recordsKept_event event hs ht) hs ht

end Sys2Proof.Machine
end

section
/-! The ribbons: what an entry start leaves, what an entry appended or withdrawn leaves, and that a ribbon acts without
regard to the other one (R71, R115 to R122). -/

namespace Sys2Proof.Machine

/-! ### Reading and writing a ribbon -/

@[simp] theorem State.ribbon_setRibbon_self (s : State) (r : Nat) (v : Ribbon) : (s.setRibbon r v).ribbon r = v := by
  unfold State.setRibbon State.ribbon
  by_cases h : r = 0 <;> simp [h]

theorem State.ribbon_setRibbon_ne (s : State) {r k : Nat} (v : Ribbon) (hr : r ≤ 1) (hk : k ≤ 1) (h : k ≠ r) :
    (s.setRibbon r v).ribbon k = s.ribbon k := by
  unfold State.setRibbon State.ribbon
  by_cases hr0 : r = 0
  · have hk0 : k ≠ 0 := by omega
    simp [hr0, hk0]
  · have hk0 : k = 0 := by omega
    simp [hr0, hk0]

@[simp] theorem State.setRibbon_ready (s : State) (r : Nat) (v : Ribbon) :
    (s.setRibbon r v).tape.ready0 = s.tape.ready0 ∧ (s.setRibbon r v).tape.ready1 = s.tape.ready1 := by
  unfold State.setRibbon
  by_cases h : r = 0 <;> simp [h]

/-! ### Entry starts -/

/-- The text of a block sent first, and of the blocks that wait behind it, are those of the outgoing list (R127). -/
theorem Ribbon.sendFirst_outgoing {v : Ribbon} (h : v.outgoing ≠ []) :
    ∃ b bs, v.outgoing = b :: bs ∧ v.sendFirst = { v with outgoing := bs, state := .sending ⟨b, none, false, false⟩ } := by
  cases ho : v.outgoing with
  | nil => exact absurd ho h
  | cons b bs => exact ⟨b, bs, rfl, by simp [Ribbon.sendFirst, Ribbon.sendBlock, ho]⟩

theorem Ribbon.sendFirst_queue (v : Ribbon) : v.sendFirst.queue = v.queue := by
  unfold Ribbon.sendFirst Ribbon.sendBlock
  split <;> rfl

/-- The record of a ribbon before its first block goes out, at an entry start (R119). -/
def State.startedRibbon (s : State) (r : Nat) (e : TapeEntry) (rest : List TapeEntry) : Ribbon :=
  let v := s.ribbon r
  let late := v.lateStep (s.items.late1 * 1000) (s.items.late2 * 1000) s.now (s.now - e.stamp)
  { v with
    lag := s.now - e.stamp, lateMode := late.mode, lateExpiry := late.expiry, lateOwed := late.owed, queue := rest
    outgoing := late.notices ++ [s.entryText r late.mode e] }

@[simp] theorem State.ribbon_entryStart_self (s : State) (r : Nat) (e : TapeEntry) (rest : List TapeEntry) :
    (s.entryStart r e rest).ribbon r = (s.startedRibbon r e rest).sendFirst := by
  exact (s.ribbon_setRibbon_self r (s.startedRibbon r e rest).sendFirst :)

theorem State.ribbon_entryStart_ne (s : State) {r k : Nat} (e : TapeEntry) (rest : List TapeEntry) (hr : r ≤ 1)
    (hk : k ≤ 1) (h : k ≠ r) : (s.entryStart r e rest).ribbon k = s.ribbon k := by
  exact (s.ribbon_setRibbon_ne (s.startedRibbon r e rest).sendFirst hr hk h :)

theorem State.entryStart_sends (s : State) (r : Nat) (e : TapeEntry) (rest : List TapeEntry) :
    ∃ b bs, (s.startedRibbon r e rest).outgoing = b :: bs ∧ (s.startedRibbon r e rest).sendFirst =
      { s.startedRibbon r e rest with outgoing := bs, state := .sending ⟨b, none, false, false⟩ } :=
  Ribbon.sendFirst_outgoing (by simp [State.startedRibbon])

/-- The notice of a change of late mode, as the spec's table has it (R121). -/
theorem modeNotice_toList (before after : LateMode) : (modeNotice before after).toList =
    if after = before then []
    else match after, before with
      | .digitsDeleted, .normal => [ascii "DIGITS DELETED"]
      | .digitsDeleted, _ => [ascii "VOLUME RESUMED"]
      | .digitsVolumeDeleted, _ => [ascii "DIGITS AND VOLUME DELETED"]
      | .normal, _ => [ascii "FULL TAPE RESUMED"] := by
  cases before <;> cases after <;> rfl

/-- Settles O42, row by row of the table. -/
theorem lateModeTable : Obligations.LateModeTable := by
  intro l1 l2 mode lag _ _
  unfold newLateMode
  refine ⟨fun h => if_pos h, fun under => ?_⟩
  have notOver : ¬ l2 ≤ lag := by omega
  simp only [if_neg notOver]
  refine ⟨fun h => ?_, fun h g => ?_, fun h => ?_, fun h => ?_, fun h => ?_, fun h => ?_, fun h => ?_⟩
  · exact if_pos (by omega)
  · rw [if_neg (by omega), if_pos (by omega)]
  · rw [if_neg (by omega), if_neg (by omega)]
  · exact if_pos (by omega)
  · exact if_neg (by omega)
  · exact if_pos h
  · exact if_neg (by omega)

/-! The late-notice timer (R122) -/

section LateExpiry

variable (now : Time) (expiry : Option Time) {before after : LateMode}

theorem lateExpiryAfter_starts (normal : before = .normal) (late : after ≠ .normal) :
    lateExpiryAfter now expiry before after = some (now + 60000) := by
  subst normal
  cases after
  case normal => exact absurd rfl late
  all_goals rfl

theorem lateExpiryAfter_stops (late : before ≠ .normal) (normal : after = .normal) :
    lateExpiryAfter now expiry before after = none := by
  subst normal
  cases before
  case normal => exact absurd rfl late
  all_goals rfl

theorem lateExpiryAfter_stays (same : before = .normal ∧ after = .normal ∨ before ≠ .normal ∧ after ≠ .normal) :
    lateExpiryAfter now expiry before after = expiry := by
  obtain ⟨rfl, rfl⟩ | ⟨late, still⟩ := same
  · rfl
  cases before
  case normal => exact absurd rfl late
  all_goals
    cases after
    case normal => exact absurd rfl still
    all_goals rfl

end LateExpiry

theorem tapeStateChanges_iff (before after : LateMode) (x y : Time) : tapeStateChanges before after x y = true ↔
    before ≠ after ∨ after ≠ .normal ∧ x.toNat / 60000 ≠ y.toNat / 60000 := by
  simp only [tapeStateChanges, Bool.or_eq_true, Bool.and_eq_true, decide_eq_true_eq]
  rfl

theorem State.entryStart_tapeChanges (s : State) (r : Nat) (e : TapeEntry) (rest : List TapeEntry) :
    (s.entryStart r e rest).transit.tapeChanges = s.transit.tapeChanges ++
      if tapeStateChanges (s.ribbon r).lateMode (s.startedRibbon r e rest).lateMode (s.ribbon r).lag (s.now - e.stamp)
      then [r] else [] := by
  unfold State.entryStart State.startedRibbon
  dsimp only
  split
  · rfl
  · simp

theorem State.entryStart_eq (s : State) (r : Nat) (e : TapeEntry) (rest : List TapeEntry) :
    s.entryStart r e rest = { s with
      tape := (s.setRibbon r ((s.entryStart r e rest).ribbon r)).tape, quote := (s.entryStart r e rest).quote
      transit := { s.transit with tapeChanges := (s.entryStart r e rest).transit.tapeChanges } } := by
  rw [State.ribbon_entryStart_self]
  unfold State.entryStart State.startedRibbon
  dsimp only
  split <;> rfl

/-- Settles O41: the fields of the started ribbon, the first block of its outgoing list sent. -/
theorem entryStart : Obligations.EntryStart := by
  intro s r e rest hr
  dsimp only
  obtain ⟨b, bs, outgoing, sent⟩ := s.entryStart_sends r e rest
  have self : (s.entryStart r e rest).ribbon r =
      { s.startedRibbon r e rest with outgoing := bs, state := .sending ⟨b, none, false, false⟩ } :=
    (s.ribbon_entryStart_self r e rest).trans sent
  rw [self]
  refine ⟨rfl, rfl, rfl, rfl, ⟨_, rfl, rfl, rfl, rfl, ?_⟩, fun normal late => ?_, fun late normal => ?_, fun same => ?_, ?_,
    rfl, fun q hq other => s.ribbon_entryStart_ne e rest hr hq other, ?_, rfl, rfl, rfl, rfl⟩
  · refine outgoing.symm.trans (congrArg (· ++ _) (congrArg₂ (· ++ ·) ?_ ?_))
    · exact modeNotice_toList _ _
    · simp only [lateNotice, lagMinutes, Bool.and_eq_true, decide_eq_true_eq, and_assoc]
  · exact lateExpiryAfter_starts _ _ normal late
  · exact lateExpiryAfter_stops _ _ late normal
  · exact lateExpiryAfter_stays _ _ same
  · refine (s.entryStart_tapeChanges r e rest).trans (congrArg (_ ++ ·) ?_)
    simp only [tapeStateChanges_iff]
    rfl
  · rw [← self]
    exact s.entryStart_eq r e rest

end Sys2Proof.Machine
end

section
/-! Tape queues: an entry appended, an entry withdrawn, and the ribbons of a list one after another (R71, R115, R118). -/

namespace Sys2Proof.Machine

/-! ### One ribbon -/

/-- An IDLE ribbon that starts or waits has taken the entry, as any other has (R118). -/
theorem State.appendEntry_of_ne_idle {s : State} {r : Nat} (e : TapeEntry) (h : (s.ribbon r).state ≠ .idle) :
    s.appendEntry r e = s.setRibbon r { s.ribbon r with queue := (s.ribbon r).queue ++ [e] } := by
  unfold State.appendEntry
  dsimp only
  split
  case h_1 idle => exact absurd idle h
  all_goals rfl

theorem State.appendEntry_of_low {s : State} {r : Nat} (e : TapeEntry) (idle : (s.ribbon r).state = .idle)
    (low : s.gate r = false) : s.appendEntry r e =
      s.setRibbon r { s.ribbon r with queue := (s.ribbon r).queue ++ [e], state := .waiting } := by
  unfold State.appendEntry
  simp [idle, low]

theorem State.appendEntry_of_high {s : State} {r : Nat} (e : TapeEntry) (idle : (s.ribbon r).state = .idle)
    (high : s.gate r = true) : s.appendEntry r e =
      (s.setRibbon r { s.ribbon r with queue := (s.ribbon r).queue ++ [e] }).freed r := by
  unfold State.appendEntry
  simp only [idle, high, if_true]

theorem State.freed_of_outgoing {s : State} {r : Nat} {b : Text} {bs : List Text}
    (h : (s.ribbon r).outgoing = b :: bs) : s.freed r = s.setRibbon r
      { s.ribbon r with outgoing := bs, state := .sending ⟨b, none, false, false⟩ } := by
  unfold State.freed
  simp [h, Ribbon.sendFirst, Ribbon.sendBlock]

theorem State.freed_of_queue {s : State} {r : Nat} {e : TapeEntry} {rest : List TapeEntry}
    (sent : (s.ribbon r).outgoing = []) (h : (s.ribbon r).queue = e :: rest) : s.freed r = s.entryStart r e rest := by
  unfold State.freed
  simp [sent, h]

theorem State.freed_of_nothing {s : State} {r : Nat} (sent : (s.ribbon r).outgoing = [])
    (h : (s.ribbon r).queue = []) : s.freed r = s.setRibbon r { s.ribbon r with state := .idle } := by
  unfold State.freed
  simp [sent, h]

/-! ### Another ribbon -/

/-- Another ribbon has acted: what the actions of ribbon `k` look at is as it was. -/
structure State.sameFor (k : Nat) (s t : State) : Prop where
  ribbon : t.ribbon k = s.ribbon k
  items : t.items = s.items
  timebase : t.timebase = s.timebase
  ready : t.tape.ready0 = s.tape.ready0 ∧ t.tape.ready1 = s.tape.ready1
  departures : t.transit.departures = s.transit.departures
  records : ∀ i, (t.instr i).setDigitRef (1 - k) none = (s.instr i).setDigitRef (1 - k) none

theorem State.sameFor.refl (k : Nat) (s : State) : s.sameFor k s := ⟨rfl, rfl, rfl, ⟨rfl, rfl⟩, rfl, fun _ => rfl⟩

theorem State.sameFor.trans {k : Nat} {s t u : State} (h : s.sameFor k t) (g : t.sameFor k u) : s.sameFor k u :=
  ⟨g.ribbon.trans h.ribbon, g.items.trans h.items, g.timebase.trans h.timebase,
    ⟨g.ready.1.trans h.ready.1, g.ready.2.trans h.ready.2⟩, g.departures.trans h.departures, fun i => (g.records i).trans (h.records i)⟩

section OtherRibbon

variable {r k : Nat} (hr : r ≤ 1) (hk : k ≤ 1) (other : k ≠ r)
include hr hk other

theorem State.sameFor.setRibbon (s : State) (v : Ribbon) : s.sameFor k (s.setRibbon r v) :=
  ⟨s.ribbon_setRibbon_ne v hr hk other, rfl, rfl, s.setRibbon_ready r v, rfl, fun _ => rfl⟩

theorem Instrument.setDigitRef_other (v : Instrument) (w : Option Nat) :
    (v.setDigitRef r w).setDigitRef (1 - k) none = v.setDigitRef (1 - k) none := by
  have : 1 - k = r := by omega
  subst this
  unfold Instrument.setDigitRef
  split <;> rfl

theorem State.entryQuote_other (s t : State) (mode : LateMode) (e : TapeEntry) (h : t.quote = s.entryQuote r mode e)
    (i : Nat) : (t.instr i).setDigitRef (1 - k) none = (s.instr i).setDigitRef (1 - k) none := by
  have stays (h : t.quote = s.quote) : (t.instr i).setDigitRef (1 - k) none = (s.instr i).setDigitRef (1 - k) none := by
    unfold State.instr
    rw [h]
  unfold State.entryQuote at h
  split at h
  · exact stays h
  next index number _ copy =>
  dsimp only at h
  split at h
  · exact stays h
  · have wrote : t.instr i = (s.setInstr index ((s.instr index).setDigitRef r
        (some ((s.faceOf index number copy).price / 256)))).instr i := by
      unfold State.instr
      rw [h]
      rfl
    rw [wrote]
    by_cases this : i = index
    · rw [this, State.instr_setInstr_self, Instrument.setDigitRef_other hr hk other]
    · rw [State.instr_setInstr_ne _ _ this]

theorem State.sameFor.entryStart (s : State) (e : TapeEntry) (rest : List TapeEntry) :
    s.sameFor k (s.entryStart r e rest) where
  ribbon := s.ribbon_entryStart_ne e rest hr hk other
  items := rfl
  timebase := rfl
  ready := s.setRibbon_ready r _
  departures := by
    unfold State.entryStart
    dsimp only
    split <;> rfl
  records := State.entryQuote_other hr hk other s _ _ e rfl

theorem State.sameFor.freed (s : State) : s.sameFor k (s.freed r) := by
  unfold State.freed
  dsimp only
  split
  · exact .setRibbon hr hk other s _
  · exact .entryStart hr hk other s _ _
  · exact .setRibbon hr hk other s _

theorem State.sameFor.appendEntry (s : State) (e : TapeEntry) : s.sameFor k (s.appendEntry r e) := by
  have wrote (v : Ribbon) := State.sameFor.setRibbon hr hk other s v
  by_cases idle : (s.ribbon r).state = .idle
  · cases gate : s.gate r with
    | false => exact State.appendEntry_of_low e idle gate ▸ wrote _
    | true => exact State.appendEntry_of_high e idle gate ▸ (wrote _).trans (.freed hr hk other _)
  · exact State.appendEntry_of_ne_idle e idle ▸ wrote _

end OtherRibbon

/-! What a ribbon does is the same where the other one has acted before -/

section SameFor

variable {k : Nat} {s t : State}

theorem State.sameFor.gate (h : s.sameFor k t) : t.gate k = s.gate k := by
  unfold State.gate
  rw [h.items, h.ready.1, h.ready.2]

/-- What an entry is rendered from, in a record: all but the digit reference of the other ribbon. -/
theorem State.sameFor.entryText (hk : k ≤ 1) (h : s.sameFor k t) (mode : LateMode) (e : TapeEntry) :
    t.entryText k mode e = s.entryText k mode e := by
  cases e with
  | notice => rfl
  | print i n stamp copy =>
    have face : t.faceOf i n copy = s.faceOf i n copy := by
      have prints : (t.instr i).prints = (s.instr i).prints := by
        have := congrArg Instrument.prints (h.records i)
        unfold Instrument.setDigitRef at this
        split at this <;> exact this
      simp only [State.faceOf, Instrument.print, prints, h.departures]
    have block (v : Instrument) (f : PrintFace) (mode : LateMode) (u : State) :
        printBlock v f (u.showsSize mode v f.size) (shortens mode (v.digitRef k) f.price) =
          (fun v : Instrument => printBlock v f
            (decide (mode ≠ .digitsVolumeDeleted) || decide (v.blockThreshold.getD u.items.blockThreshold ≤ f.size))
            (shortens mode (v.digitRef k) f.price)) (v.setDigitRef (1 - k) none) := by
      obtain rfl | rfl : k = 0 ∨ k = 1 := by omega
      all_goals rfl
    simp only [State.entryText, block, face, h.records i, h.items]

theorem State.sameFor.startedRibbon (hk : k ≤ 1) (h : s.sameFor k t) (e : TapeEntry) (rest : List TapeEntry) :
    t.startedRibbon k e rest = s.startedRibbon k e rest := by
  have now : t.now = s.now := congrArg Timebase.time h.timebase
  simp only [State.startedRibbon, h.entryText hk, h.ribbon, h.items, now]

theorem State.sameFor.ribbon_freed (hk : k ≤ 1) (h : s.sameFor k t) : (t.freed k).ribbon k = (s.freed k).ribbon k := by
  cases outgoing : (s.ribbon k).outgoing with
  | cons b bs =>
    rw [State.freed_of_outgoing outgoing, State.freed_of_outgoing (h.ribbon ▸ outgoing), h.ribbon]
    simp
  | nil =>
    cases queue : (s.ribbon k).queue with
    | nil =>
      rw [State.freed_of_nothing outgoing queue, State.freed_of_nothing (h.ribbon ▸ outgoing) (h.ribbon ▸ queue), h.ribbon]
      simp
    | cons e rest =>
      rw [State.freed_of_queue outgoing queue, State.freed_of_queue (h.ribbon ▸ outgoing) (h.ribbon ▸ queue)]
      simp [h.startedRibbon hk]

theorem State.sameFor.setRibbon_self (h : s.sameFor k t) (v : Ribbon) :
    (s.setRibbon k v).sameFor k (t.setRibbon k v) where
  ribbon := by simp
  items := h.items
  timebase := h.timebase
  ready := by simpa using h.ready
  departures := h.departures
  records := h.records

theorem State.sameFor.ribbon_appendEntry (hk : k ≤ 1) (h : s.sameFor k t) (e : TapeEntry) :
    (t.appendEntry k e).ribbon k = (s.appendEntry k e).ribbon k := by
  by_cases idle : (s.ribbon k).state = .idle
  · have idle' : (t.ribbon k).state = .idle := h.ribbon ▸ idle
    cases gate : s.gate k with
    | false =>
      rw [State.appendEntry_of_low e idle gate, State.appendEntry_of_low e idle' (h.gate.trans gate), h.ribbon]
      simp
    | true =>
      rw [State.appendEntry_of_high e idle gate, State.appendEntry_of_high e idle' (h.gate.trans gate), h.ribbon]
      exact (h.setRibbon_self _).ribbon_freed hk
  · rw [State.appendEntry_of_ne_idle e idle, State.appendEntry_of_ne_idle e (h.ribbon ▸ idle), h.ribbon]
    simp

end SameFor

/-! ### The ribbons of a list -/

/-- An action at ribbon `r` that looks at and moves nothing of the other ribbon's. -/
structure AtRibbon (f : State → Nat → State) : Prop where
  other : ∀ s r k, r ≤ 1 → k ≤ 1 → k ≠ r → State.sameFor k s (f s r)
  self : ∀ s t k, k ≤ 1 → State.sameFor k s t → (f t k).ribbon k = (f s k).ribbon k

theorem AtRibbon.foldl_of_not_mem {f : State → Nat → State} (hf : AtRibbon f) {rs : List Nat} (hrs : ∀ k ∈ rs, k ≤ 1)
    {k : Nat} (hk : k ≤ 1) (out : k ∉ rs) (s : State) : s.sameFor k (rs.foldl f s) := by
  induction rs generalizing s with
  | nil => exact .refl k s
  | cons r rs ih =>
    simp only [List.mem_cons, forall_eq_or_imp, not_or] at hrs out
    exact (hf.other s r k hrs.1 hk out.1).trans (ih hrs.2 out.2 _)

theorem AtRibbon.foldl_of_mem {f : State → Nat → State} (hf : AtRibbon f) {rs : List Nat} (hrs : ∀ k ∈ rs, k ≤ 1)
    (once : rs.Nodup) {k : Nat} (inside : k ∈ rs) (s : State) : (rs.foldl f s).ribbon k = (f s k).ribbon k := by
  induction rs generalizing s with
  | nil => cases inside
  | cons r rs ih =>
    have hk := hrs k inside
    simp only [List.mem_cons, forall_eq_or_imp, List.nodup_cons] at hrs inside once
    obtain rfl | inside := inside
    · exact (hf.foldl_of_not_mem hrs.2 hk once.1 _).ribbon
    · have other : k ≠ r := fun h => once.1 (h ▸ inside)
      exact (ih hrs.2 once.2 inside _).trans (hf.self _ _ k hk (hf.other s r k hrs.1 hk other))

theorem AtRibbon.append (entry : State → TapeEntry) (same : ∀ s t : State, t.timebase = s.timebase → entry t = entry s) :
    AtRibbon fun s r => s.appendEntry r (entry s) where
  other s _ _ hr hk other := .appendEntry hr hk other s _
  self s t k hk h := by
    simp only [same s t h.timebase]
    exact h.ribbon_appendEntry hk _

theorem AtRibbon.notice (text : Text) (index : Option Nat) :
    AtRibbon fun s r => s.appendEntry r (.notice text s.now index) :=
  .append (fun s => .notice text s.now index) fun _ _ h => by simp only [State.now, h]

theorem AtRibbon.print (i n : Nat) : AtRibbon fun s r => s.appendEntry r (.print i n s.now none) :=
  .append (fun s => .print i n s.now none) fun _ _ h => by simp only [State.now, h]

@[simp] theorem State.now_appendNotice (rs : List Nat) (text : Text) (index : Option Nat) (s : State) :
    (s.appendNotice rs text index).now = s.now := congrArg Timebase.time (State.tapeActs.appendNotice rs text index s).timebase

@[simp] theorem State.now_appendPrint (rs : List Nat) (i n : Nat) (s : State) :
    (s.appendPrint rs i n).now = s.now := congrArg Timebase.time (State.tapeActs.appendPrint rs i n s).timebase

/-! A withdrawal -/

theorem State.ribbon_withdraw_self (s : State) (r i n : Nat) : (s.withdraw r i n).ribbon r =
    { s.ribbon r with
      queue := (s.ribbon r).queue.filter fun e => !e.isPrint i n
      state := if ((s.ribbon r).queue.filter fun e => !e.isPrint i n) = [] ∧ (s.ribbon r).outgoing = [] ∧
        (s.ribbon r).state = .waiting then .idle else (s.ribbon r).state } := by
  unfold State.withdraw
  simp [and_assoc]

theorem State.withdraw_eq (s : State) (r i n : Nat) : s.withdraw r i n = s.setRibbon r
    { s.ribbon r with
      queue := ((s.withdraw r i n).ribbon r).queue, state := ((s.withdraw r i n).ribbon r).state } := by
  unfold State.withdraw
  simp

theorem TapeEntry.isPrint_iff (i n : Nat) (e : TapeEntry) :
    e.isPrint i n = true ↔ ∃ stamp copy, e = .print i n stamp copy := by
  cases e with
  | notice => simp [TapeEntry.isPrint]
  | print j m stamp copy =>
    simp only [TapeEntry.isPrint, decide_eq_true_eq, TapeEntry.print.injEq]
    constructor
    · rintro ⟨rfl, rfl⟩
      exact ⟨stamp, copy, rfl, rfl, rfl, rfl⟩
    · rintro ⟨_, _, rfl, rfl, -⟩
      exact ⟨rfl, rfl⟩

/-- What one ribbon of a list takes (O40): the entry once, as if it were alone. -/
theorem AtRibbon.taken {f : State → Nat → State} (hf : AtRibbon f) {e : TapeEntry} {s : State}
    (appends : ∀ k, f s k = s.appendEntry k e) {rs : List Nat} (hrs : ∀ k ∈ rs, k ≤ 1) (once : rs.Nodup) {k : Nat}
    (hk : k ≤ 1) :
    (k ∉ rs → (rs.foldl f s).ribbon k = s.ribbon k) ∧
    (k ∈ rs → (rs.foldl f s).ribbon k = (s.appendEntry k e).ribbon k) ∧
    (k ∈ rs → (s.ribbon k).state ≠ .idle →
      (rs.foldl f s).ribbon k = { s.ribbon k with queue := (s.ribbon k).queue ++ [e] }) := by
  have inside (h : k ∈ rs) : (rs.foldl f s).ribbon k = (s.appendEntry k e).ribbon k :=
    (hf.foldl_of_mem hrs once h s).trans (congrArg (State.ribbon · k) (appends k))
  refine ⟨fun out => (hf.foldl_of_not_mem hrs hk out s).ribbon, inside, fun h busy => ?_⟩
  rw [inside h, State.appendEntry_of_ne_idle e busy, State.ribbon_setRibbon_self]

/-- Settles O40. -/
theorem tapeQueueAppends : Obligations.TapeQueueAppends := by
  refine ⟨fun s r rs text index i n => ⟨rfl, rfl, rfl, rfl, fun hrs once e t taken => ?_⟩, fun s r e hr => ?_⟩
  · obtain ⟨rfl, rfl⟩ | ⟨rfl, rfl⟩ := taken
    · exact ⟨State.now_appendNotice _ _ _ _, fun k hk => (AtRibbon.notice text index).taken (fun _ => rfl) hrs once hk⟩
    · exact ⟨State.now_appendPrint _ _ _ _, fun k hk => (AtRibbon.print i n).taken (fun _ => rfl) hrs once hk⟩
  · refine ⟨State.appendEntry_of_ne_idle e, State.appendEntry_of_low e, fun idle high empty sent => ?_, fun i n => ?_⟩
    · rw [State.appendEntry_of_high e idle high, empty, List.nil_append]
      exact State.freed_of_queue (by simp [sent]) (by simp)
    · refine ⟨State.withdraw_eq s r i n, ?_, fun x hx named => ?_, fun stamp copy => ?_, fun empty sent waiting => ?_,
        fun busy => ?_⟩
      all_goals simp only [State.ribbon_withdraw_self] at *
      · exact List.filter_sublist
      · refine List.mem_filter.mpr ⟨hx, ?_⟩
        have := mt (TapeEntry.isPrint_iff i n x).mp (by simpa using named)
        simpa using this
      · simp [TapeEntry.isPrint]
      · exact if_pos ⟨empty, sent, waiting⟩
      · exact if_neg fun ⟨empty, sent, waiting⟩ => busy.elim (absurd empty) (·.elim (absurd sent) (absurd waiting))

end Sys2Proof.Machine
end

section
/-! A tape queue holds at most 256 entries, whatever command is taken; and a ribbon that is OFF stays OFF, but for
GO LIVE (R115, R135). -/

namespace Sys2Proof.Machine

/-- An action after which a tape queue that held at most 256 entries still does, and a ribbon that was OFF still is. -/
def State.tapeKept (s t : State) : Prop :=
  ∀ k ≤ 1, ((s.ribbon k).queue.length ≤ 256 → (t.ribbon k).queue.length ≤ 256) ∧
    ((s.ribbon k).state = .off → (t.ribbon k).state = .off)

theorem State.tapesFit_iff (s : State) : s.tapesFit ↔ ∀ k ≤ 1, (s.ribbon k).queue.length ≤ 256 := by
  refine ⟨fun ⟨h0, h1⟩ k hk => ?_, fun h => ⟨h 0 (by decide), h 1 (by decide)⟩⟩
  obtain rfl | rfl : k = 0 ∨ k = 1 := by omega
  · exact h0
  · exact h1

theorem State.tapeKept.tapesFit {s t : State} (h : s.tapeKept t) (hs : s.tapesFit) : t.tapesFit :=
  t.tapesFit_iff.mpr fun k hk => (h k hk).1 (s.tapesFit_iff.mp hs k hk)

theorem State.tapeKept.of_ribbons {s t : State} (h : ∀ k ≤ 1, t.ribbon k = s.ribbon k) : s.tapeKept t :=
  fun k hk => ⟨fun fits => by rw [h k hk]; exact fits, fun off => by rw [h k hk]; exact off⟩

theorem State.tapeKept.of_tape {s t : State} (h : t.tape = s.tape) : s.tapeKept t :=
  .of_ribbons fun k _ => by unfold State.ribbon; rw [h]

theorem State.tapeKept.refl (s : State) : s.tapeKept s := .of_tape rfl

theorem State.tapeKept.trans {s t u : State} (h : s.tapeKept t) (g : t.tapeKept u) : s.tapeKept u :=
  fun k hk => ⟨fun fits => (g k hk).1 ((h k hk).1 fits), fun off => (g k hk).2 ((h k hk).2 off)⟩

/-- The record of one ribbon is written. -/
theorem State.tapeKept.setRibbon {s : State} {r : Nat} {v : Ribbon} (hr : r ≤ 1)
    (fits : v.queue.length ≤ (s.ribbon r).queue.length) (off : (s.ribbon r).state = .off → v.state = .off) :
    s.tapeKept (s.setRibbon r v) := by
  intro k hk
  by_cases h : k = r
  · subst h
    rw [State.ribbon_setRibbon_self]
    exact ⟨fits.trans, off⟩
  · rw [s.ribbon_setRibbon_ne v hr hk h]
    exact ⟨id, id⟩

/-! ### Entries -/

theorem State.freed_queue (s : State) (r : Nat) : ((s.freed r).ribbon r).queue.length ≤ (s.ribbon r).queue.length := by
  unfold State.freed
  dsimp only
  split
  · simp [Ribbon.sendFirst_queue]
  next e rest _ queue =>
    rw [State.ribbon_entryStart_self, Ribbon.sendFirst_queue, queue]
    simp [State.startedRibbon]
  · simp

theorem State.tapeKept.freed {s : State} {r : Nat} (hr : r ≤ 1) (on : (s.ribbon r).state ≠ .off) : s.tapeKept (s.freed r) := by
  intro k hk
  by_cases h : k = r
  · subst h
    exact ⟨(s.freed_queue k).trans, fun off => absurd off on⟩
  · rw [(State.sameFor.freed hr hk h s).ribbon]
    exact ⟨id, id⟩

/-- An entry makes its queue longer by one at most, and leaves an OFF ribbon OFF. -/
theorem State.appendEntry_kept (s : State) (k : Nat) (e : TapeEntry) :
    ((s.appendEntry k e).ribbon k).queue.length ≤ (s.ribbon k).queue.length + 1 ∧
    ((s.ribbon k).state = .off → ((s.appendEntry k e).ribbon k).state = .off) := by
  by_cases idle : (s.ribbon k).state = .idle
  · refine ⟨?_, fun off => by rw [idle] at off; cases off⟩
    cases gate : s.gate k with
    | false => rw [State.appendEntry_of_low e idle gate]; simp
    | true =>
      rw [State.appendEntry_of_high e idle gate]
      exact (State.freed_queue _ k).trans (by simp)
  · rw [State.appendEntry_of_ne_idle e idle]
    simp

/-- Each ribbon of a list takes its step where there is room for an entry, or where the step needs none. -/
theorem AtRibbon.tapeKept {f : State → Nat → State} (hf : AtRibbon f) {rs : List Nat} (hrs : ∀ k ∈ rs, k ≤ 1)
    (once : rs.Nodup) {s : State} (fits : ∀ k ∈ rs, (s.ribbon k).queue.length ≤ 256 → ((f s k).ribbon k).queue.length ≤ 256)
    (off : ∀ k ∈ rs, (s.ribbon k).state = .off → ((f s k).ribbon k).state = .off) : s.tapeKept (rs.foldl f s) := by
  intro k hk
  by_cases inside : k ∈ rs
  · rw [hf.foldl_of_mem hrs once inside s]
    exact ⟨fits k inside, off k inside⟩
  · rw [(hf.foldl_of_not_mem hrs hk inside s).ribbon]
    exact ⟨id, id⟩

/-- A list of ribbons whose queues have room. -/
theorem State.lt_of_anyFull {s : State} {rs : List Nat} {n : Nat} (room : s.anyFull rs n = false) {k : Nat} (inside : k ∈ rs) :
    (s.ribbon k).queue.length < n := by
  unfold State.anyFull at room
  simp only [List.any_eq_false, decide_eq_true_eq, not_le] at room
  exact room k inside

theorem State.tapeKept.appendNotice {s : State} {rs : List Nat} (text : Text) (index : Option Nat) (hrs : ∀ k ∈ rs, k ≤ 1)
    (once : rs.Nodup) (room : s.anyFull rs 256 = false) : s.tapeKept (s.appendNotice rs text index) :=
  (AtRibbon.notice text index).tapeKept hrs once
    (fun k inside _ => (s.appendEntry_kept k _).1.trans (State.lt_of_anyFull room inside))
    fun k _ => (s.appendEntry_kept k _).2

theorem State.tapeKept.appendPrint {s : State} {rs : List Nat} (i n : Nat) (hrs : ∀ k ∈ rs, k ≤ 1)
    (once : rs.Nodup) (room : s.anyFull rs 256 = false) : s.tapeKept (s.appendPrint rs i n) :=
  (AtRibbon.print i n).tapeKept hrs once
    (fun k inside _ => (s.appendEntry_kept k _).1.trans (State.lt_of_anyFull room inside))
    fun k _ => (s.appendEntry_kept k _).2

/-- One ribbon's tape step (R71). -/
theorem AtRibbon.tapeStep (i n : Nat) (withdraws : Bool) (text : Text) : AtRibbon fun s r =>
    if s.isQueued r i n then (if withdraws then s.withdraw r i n else s)
    else s.appendEntry r (.notice text s.now (some i)) where
  other s r k hr hk other := by
    split
    · split
      · exact .setRibbon hr hk other s _
      · exact .refl k s
    · exact (AtRibbon.notice text (some i)).other s r k hr hk other
  self s t k hk h := by
    have queued : t.isQueued k i n = s.isQueued k i n := by unfold State.isQueued; rw [h.ribbon]
    rw [queued]
    split
    · split
      · simp [State.withdraw, h.ribbon]
      · exact h.ribbon
    · exact (AtRibbon.notice text (some i)).self s t k hk h

/-- The tape step of a cancel or a correction, with room at each carrying ribbon whose queue does not hold the print's
entry (R73). -/
theorem State.tapeKept.tapeStep {s : State} {rs : List Nat} (i n : Nat) (withdraws : Bool) (text : Text)
    (hrs : ∀ k ∈ rs, k ≤ 1) (once : rs.Nodup)
    (room : ∀ k ∈ rs, s.isQueued k i n = false → (s.ribbon k).queue.length < 256) :
    s.tapeKept (s.tapeStep rs i n withdraws text) := by
  refine (AtRibbon.tapeStep i n withdraws text).tapeKept hrs once (fun k inside fits => ?_) fun k _ off => ?_
  · split
    · split
      · rw [State.ribbon_withdraw_self]
        exact (List.length_filter_le _ _).trans fits
      · exact fits
    next free => exact (s.appendEntry_kept k _).1.trans (room k inside (by simpa using free))
  · split
    · split
      · rw [State.ribbon_withdraw_self]
        simp [off]
      · exact off
    · exact (s.appendEntry_kept k _).2 off

/-! ### The ribbons that carry an instrument, and those in service -/

theorem RibbonSet.named_cases (joined : Bool) (x : RibbonSet) :
    x.named joined = [] ∨ x.named joined = [0] ∨ x.named joined = [1] ∨ x.named joined = [0, 1] := by
  cases x <;> cases joined <;> decide

theorem RibbonSet.named_le {joined : Bool} {x : RibbonSet} {k : Nat} (h : k ∈ x.named joined) : k ≤ 1 := by
  obtain e | e | e | e := x.named_cases joined <;> rw [e] at h <;> simp at h <;> omega

theorem RibbonSet.named_nodup (joined : Bool) (x : RibbonSet) : (x.named joined).Nodup := by
  obtain e | e | e | e := x.named_cases joined <;> rw [e] <;> decide

theorem State.carrying_le (s : State) (v : Instrument) : ∀ k ∈ s.carrying v, k ≤ 1 :=
  fun _ h => RibbonSet.named_le (List.mem_filter.mp h).1

theorem State.carrying_nodup (s : State) (v : Instrument) : (s.carrying v).Nodup := (RibbonSet.named_nodup _ _).filter _

theorem State.ribbonsInService_le (s : State) : ∀ k ∈ s.ribbonsInService, k ≤ 1 := by
  intro k h
  have := (List.mem_filter.mp h).1
  simp at this
  omega

theorem State.ribbonsInService_nodup (s : State) : s.ribbonsInService.Nodup := List.Nodup.filter _ (by decide)

end Sys2Proof.Machine
end

section
/-! A board link that is OFF stays OFF, but for GO LIVE (R99, R105, R107). -/

namespace Sys2Proof.Machine

/-- A link that was OFF still is. -/
structure Display.offStays (d d' : Display) : Prop where
  off : ∀ l, (d.link l).state = .off → (d'.link l).state = .off

section OffStays

variable {d e f : Display}

theorem Display.offStays.of_links (h : e.links = d.links) : d.offStays e where
  off l off := by
    unfold Display.link
    rw [h]
    exact off

theorem Display.offStays.refl (d : Display) : d.offStays d := .of_links rfl

theorem Display.offStays.trans (h : d.offStays e) (g : e.offStays f) : d.offStays f :=
  ⟨fun l off => g.off l (h.off l off)⟩

theorem Display.offStays.foldl {α : Type} {step : Display → α → Display} (h : ∀ d a, Display.offStays d (step d a))
    (l : List α) (d : Display) : d.offStays (l.foldl step d) := by
  induction l generalizing d with
  | nil => exact .refl d
  | cons a l ih => exact (h d a).trans (ih _)

theorem Display.offStays.setLink (d : Display) {l : Nat} {v : Link} (h : (d.link l).state = .off → v.state = .off) :
    d.offStays (d.setLink l v) := by
  refine ⟨fun k off => ?_⟩
  by_cases same : k = l
  · subst same
    simpa using h off
  · simpa [same] using off

theorem Display.offStays.setModule (d : Display) (l m : Nat) (e : Module) :
    d.offStays (d.setLink l ((d.link l).setModule m e)) := .setLink d id

/-! The board engine's own operations -/

theorem Display.offStays.enqueue (d : Display) (c : Nat) : d.offStays (d.enqueue c) := .of_links (d.enqueue_links c)

theorem Display.offStays.enqueueAll (d : Display) (cs : List Nat) : d.offStays (d.enqueueAll cs) := .foldl .enqueue cs d

theorem Display.offStays.showChange (fields : List Field) (expiry : Option Time) (d : Display) (c : Nat) :
    d.offStays (d.showChange fields expiry c) := by
  unfold Display.showChange
  split
  · exact .refl d
  split
  · split
    · split
      · exact (Display.offStays.enqueue d c).trans (.of_links rfl)
      · exact .enqueue d c
    · exact .enqueue d c
  · exact .refl d

theorem Display.offStays.handoff (head : Option Nat) (fields : List Field) (expiry : Option Time) (d : Display) :
    d.offStays (d.handoff head fields expiry) := .foldl (.showChange fields expiry) _ d

theorem Display.offStays.expire (now : Time) (d : Display) : d.offStays (d.expire now) := by
  unfold Display.expire
  split
  · exact .refl d
  next c _ => exact .trans (e := d.unhighlight c) (.of_links rfl) (.enqueue _ _)

theorem Display.offStays.setDark (n : Nat) (dark : Bool) (d : Display) : d.offStays (d.setDark n dark) := by
  unfold Display.setDark
  dsimp only
  refine .trans ?_ (.enqueueAll _ _)
  split
  · refine .trans (e := d.setPanel n { d.panel n with dark := dark }) (.of_links rfl) ?_
    exact .foldl (step := fun d c => d.unhighlight c) (fun _ _ => .of_links rfl) _ _
  · exact .of_links rfl

theorem Display.offStays.moduleDrop (l m : Nat) (d : Display) : d.offStays (d.moduleDrop l m) :=
  .of_links (by rw [Display.moduleDrop_rest])

/-! The link controllers -/

theorem Display.offStays.send (l m : Nat) (x : Message) (purpose : Purpose) (d : Display) :
    d.offStays (d.send l m x purpose) := .setLink d id

theorem Display.offStays.takeHead {l c : Nat} (h : d.takeHead l = some (c, e)) : d.offStays e := by
  unfold Display.takeHead at h
  split at h
  · cases h
  · cases h
    exact .of_links rfl

theorem Display.offStays.sendCell (render : Renderer) (l : Nat) (d : Display) : d.offStays (d.sendCell render l) := by
  unfold Display.sendCell
  split
  · split
    · exact .refl d
    next taken => exact (Display.offStays.takeHead taken).trans (.send ..)
  · exact .refl d

theorem Display.offStays.arbitrate (render : Renderer) (now : Time) (probe l : Nat) (d : Display) :
    d.offStays (d.arbitrate render now probe l) := by
  unfold Display.arbitrate
  dsimp only
  split
  · split
    · exact .send ..
    split
    · exact .send ..
    split
    · exact .send ..
    · exact .sendCell ..
  · exact .refl d

theorem Display.offStays.wake (render : Renderer) (now : Time) (probe : Nat) (was d : Display) :
    d.offStays (Display.wake render now probe was d) :=
  .foldl (step := fun d' l => if (was.queue l).isEmpty && !(d.queue l).isEmpty then d'.arbitrate render now probe l else d')
    (fun d' l => by
      split
      · exact .arbitrate ..
      · exact .refl d') _ d

theorem State.offStays_handoffsFirst (ls : List Nat) (s : State) : s.display.offStays (s.handoffsFirst ls).display := by
  unfold State.handoffsFirst
  dsimp only
  split
  · exact .foldl (fun d b => .handoff _ _ _ d) _ _
  · exact .refl _

theorem State.offStays_onBoard {s : State} {f : Display → Display} (h : s.display.offStays (f s.display)) :
    s.display.offStays (s.onBoard f).display :=
  h.trans ((State.offStays_handoffsFirst _ { s with display := f s.display }).trans (.wake ..))

theorem State.offStays_onLink {s : State} {f : Display → Display} (l : Nat) (h : s.display.offStays (f s.display)) :
    s.display.offStays (s.onLink l f).display :=
  h.trans ((State.offStays_handoffsFirst _ { s with display := f s.display }).trans
    ((Display.offStays.wake ..).trans (.arbitrate ..)))

theorem Display.offStays.release (l : Nat) (d : Display) : d.offStays (d.release l) := .setLink d id

theorem Display.offStays.endSettling (l : Nat) (d : Display) : d.offStays (d.endSettling l) := by
  unfold Display.endSettling
  split
  next settled =>
    refine (Display.offStays.setLink d fun off => ?_).trans (.enqueueAll _ _)
    simp [Link.settled, off] at settled
  · exact .refl d

theorem Display.offStays.takeDown (l m : Nat) (d : Display) : d.offStays (d.takeDown l m) :=
  (Display.offStays.setModule d l m _).trans (.moduleDrop l m _)

theorem Display.offStays.acknowledged (l : Nat) (x : Sent) (d : Display) : d.offStays (d.acknowledged l x) := by
  have released := Display.offStays.release l d
  unfold Display.acknowledged
  generalize d.release l = e at *
  dsimp only
  split
  case h_5 => exact released.trans ((Display.offStays.setModule e l _ _).trans (.endSettling ..))
  case h_6 => exact released.trans ((Display.offStays.setModule e l _ _).trans (.enqueueAll _ _))
  all_goals exact released

theorem Display.offStays.timedOut (l : Nat) (x : Sent) (d : Display) : d.offStays (d.timedOut l x) := by
  have released := Display.offStays.release l d
  unfold Display.timedOut
  generalize d.release l = e at *
  dsimp only
  split
  · exact released.trans (.endSettling ..)
  · split
    · exact released.trans (.takeDown ..)
    · exact released
  all_goals exact released.trans (.takeDown ..)

theorem Display.offStays.settleEnd {l : Nat} (on : (d.link l).state ≠ .off) : d.offStays (d.settleEnd l) :=
  (Display.offStays.setLink d fun off => absurd off on).trans (.endSettling ..)

theorem Display.offStays.stopTest {l : Nat} (on : (d.link l).state ≠ .off) : d.offStays (d.stopTest l) :=
  (Display.offStays.setLink d fun off => absurd off on).trans (.enqueueAll _ _)

end OffStays

end Sys2Proof.Machine
end

section
/-! Every command keeps the tape queues and what the device mode fixes (R18, R107, R115, R135); with what the earlier parts
say of the error words, the notices, the timebase and the records, every command keeps all of `State.wellKept`. -/

namespace Sys2Proof.Machine

/-- An action that changes neither the mode nor, in CONFIG, the session, takes no ribbon and no link out of OFF, and
leaves no tape queue too long. -/
structure State.outletActs (s t : State) : Prop where
  mode : t.mode = s.mode
  session : s.mode = .config → s.quote.session = .closed → t.quote.session = .closed
  tape : s.tapeKept t
  links : s.display.offStays t.display

theorem State.outletActs.refl (s : State) : s.outletActs s := ⟨rfl, fun _ => id, .refl s, .refl s.display⟩

theorem State.outletActs.trans {s t u : State} (h : s.outletActs t) (g : t.outletActs u) : s.outletActs u :=
  ⟨g.mode.trans h.mode, fun config closed => g.session (h.mode.trans config) (h.session config closed), h.tape.trans g.tape,
    h.links.trans g.links⟩

theorem State.outletActs.keeps {s t : State} (h : s.outletActs t) (hs : s.tapesFit ∧ s.modeKept) :
    t.tapesFit ∧ t.modeKept := by
  refine ⟨h.tape.tapesFit hs.1, fun config => ?_⟩
  have before : s.mode = .config := h.mode.symm.trans config
  obtain ⟨closed, off0, off1, links⟩ := hs.2 before
  exact ⟨h.session before closed, (h.tape 0 (by decide)).2 off0, (h.tape 1 (by decide)).2 off1,
    fun l hl => h.links.off l (links l hl)⟩

/-- An action that leaves mode, tape and links alone. -/
theorem State.outletActs.of_eq {s t : State} (mode : t.mode = s.mode) (session : t.quote.session = s.quote.session)
    (tape : t.tape = s.tape) (display : t.display = s.display) : s.outletActs t :=
  ⟨mode, fun _ => session.trans, .of_tape tape, display ▸ .refl s.display⟩

/-- An action of the ribbon engine. -/
theorem State.outletActs.of_tapeActs {s t : State} (acts : s.tapeActs t) (tape : s.tapeKept t) : s.outletActs t :=
  ⟨acts.mode, fun _ => acts.session.trans, tape, acts.display ▸ .refl s.display⟩

/-- An action of the board engine or of a link controller. -/
theorem State.outletActs.of_links {s t : State} (mode : t.mode = s.mode) (session : t.quote.session = s.quote.session)
    (tape : t.tape = s.tape) (links : s.display.offStays t.display) : s.outletActs t :=
  ⟨mode, fun _ => session.trans, .of_tape tape, links⟩

theorem State.outletActs.onBoard {s : State} {f : Display → Display} (h : s.display.offStays (f s.display)) :
    s.outletActs (s.onBoard f) := .of_links rfl (by simp) rfl (State.offStays_onBoard h)

theorem State.outletActs.onLink {s : State} (l : Nat) {f : Display → Display} (h : s.display.offStays (f s.display)) :
    s.outletActs (s.onLink l f) := .of_links rfl (by simp) rfl (State.offStays_onLink l h)

/-! ### The engines -/

section Engines

variable {s₀ : State}

/-- Every request but GO LIVE and GO CONFIG is such an action: shown as what its engine keeps. -/
theorem Engine.Keeps.acts {check : List Word → State → Option Answer} {act : Engine}
    (h : ∀ ops s, check ops s = none → s.outletActs (act ops s).state) :
    Engine.Keeps s₀.outletActs (Machine.checked check act) :=
  .checked fun ops s passes hs => hs.trans (h ops s passes)

theorem Engine.Keeps.still {e : Engine} (mode : ∀ ops s, (e ops s).state.mode = s.mode)
    (session : ∀ ops s, (e ops s).state.quote.session = s.quote.session) (tape : ∀ ops s, (e ops s).state.tape = s.tape)
    (display : ∀ ops s, (e ops s).state.display = s.display) : Engine.Keeps s₀.outletActs e :=
  fun ops s hs => hs.trans (.of_eq (mode ops s) (session ops s) (tape ops s) (display ops s))

/-- A list of ribbons has room for an entry, and still has after an action that left the tape. -/
theorem State.anyFull_congr {s t : State} (h : t.tape = s.tape) (rs : List Nat) (n : Nat) :
    t.anyFull rs n = s.anyFull rs n := by
  unfold State.anyFull State.ribbon
  rw [h]

theorem State.anyFull_mono {s : State} {rs : List Nat} {m n : Nat} (hmn : m ≤ n) (room : s.anyFull rs m = false) :
    s.anyFull rs n = false := by
  simp only [State.anyFull, List.any_eq_false, decide_eq_true_eq, not_le] at *
  exact fun k hk => (room k hk).trans_le hmn

theorem outletActs_tradeReport : Engine.Keeps s₀.outletActs tradeReportEngine :=
  .reportEngine (fun _ _ _ hs => hs.trans (.of_eq rfl rfl rfl rfl)) (fun _ _ hs => hs.trans (.of_eq rfl rfl rfl rfl)) <|
    .acts fun ops s passes => by
      have checks := firstRefusal_eq_none.mp passes
      simp only [List.mem_cons, forall_eq_or_imp] at checks
      obtain ⟨-, -, -, -, -, room, -⟩ := checks
      have before (v : Instrument) : s.outletActs ((s.change (operand ops 1) v true).depart (operand ops 1)
          (leavingPrint (s.instr (operand ops 1)))) := .of_eq (by simp) (by simp; rfl) (by simp) (by simp)
      refine (before _).trans (.of_tapeActs (.appendPrint _ _ _ _)
        (.appendPrint _ _ (s.carrying_le _) (s.carrying_nodup _) ?_))
      rw [State.anyFull_congr (s := s) (by simp)]
      exact State.anyFull_mono (by decide) room

theorem outletActs_quoteReport : Engine.Keeps s₀.outletActs quoteReportEngine :=
  .reportEngine (fun _ _ _ hs => hs.trans (.of_eq rfl rfl rfl rfl)) (fun _ _ hs => hs.trans (.of_eq rfl rfl rfl rfl)) <|
    .acts fun _ _ _ => .of_eq rfl rfl rfl rfl

/-- A session change in LIVE, with room on each ribbon in service. -/
theorem State.outletActs.changeSession {s : State} (x : Session) (text : Text)
    (session : s.mode = .config → x = .closed) (room : s.anyFull s.ribbonsInService 256 = false) :
    s.outletActs (s.changeSession x text) := by
  unfold State.changeSession
  dsimp only
  have before : s.outletActs { s with
      quote := { s.quote with session := x }
      transit := { s.transit with sessionChanges := s.transit.sessionChanges + 1 } } :=
    ⟨rfl, fun config _ => session config, .of_tape rfl, .refl s.display⟩
  exact before.trans (.of_tapeActs (.appendNotice _ _ _ _)
    (.appendNotice _ _ s.ribbonsInService_le s.ribbonsInService_nodup room))

theorem outletActs_openSession : Engine.Keeps s₀.outletActs openSessionEngine := by
  intro ops s hs
  unfold openSessionEngine
  split_ifs with _ config _ full
  case neg => exact hs.trans (.changeSession _ _ (fun h => absurd h config) (Bool.eq_false_iff.mpr full))
  all_goals exact hs

theorem outletActs_closeSession : Engine.Keeps s₀.outletActs closeSessionEngine := by
  intro ops s hs
  unfold closeSessionEngine
  split_ifs with _ _ full
  case neg => exact hs.trans (.changeSession _ _ (fun _ => rfl) (Bool.eq_false_iff.mpr full))
  all_goals exact hs

theorem outletActs_rollSession : Engine.Keeps s₀.outletActs rollSessionEngine := by
  intro ops s hs
  unfold rollSessionEngine
  split_ifs
  case neg => exact hs.trans (.of_eq rfl rfl rfl rfl)
  all_goals exact hs

theorem outletActs_halt : Engine.Keeps s₀.outletActs haltEngine :=
  .acts fun ops s passes => by
    have checks := firstRefusal_eq_none.mp passes
    simp only [floorChecks, List.cons_append, List.nil_append, List.mem_cons, forall_eq_or_imp] at checks
    obtain ⟨-, -, -, room, -⟩ := checks
    refine .trans (t := s.change (operand ops 0) _ false) (.of_eq rfl rfl rfl rfl) (.of_tapeActs (.appendNotice _ _ _ _)
      (.appendNotice _ _ (s.carrying_le _) (s.carrying_nodup _) ?_))
    rwa [State.anyFull_congr (s := s) (by simp)]

theorem outletActs_resume : Engine.Keeps s₀.outletActs resumeEngine :=
  .acts fun ops s passes => by
    have checks := firstRefusal_eq_none.mp passes
    simp only [floorChecks, List.cons_append, List.nil_append, List.mem_cons, forall_eq_or_imp] at checks
    obtain ⟨-, -, room, -⟩ := checks
    dsimp only
    split
    next halted =>
      refine .trans (t := s.change (operand ops 0) _ false) (.of_eq rfl rfl rfl rfl) (.of_tapeActs (.appendNotice _ _ _ _)
        (.appendNotice _ _ (s.carrying_le _) (s.carrying_nodup _) ?_))
      rw [State.anyFull_congr (s := s) (by simp)]
      rw [show (s.named ops 0).isHalted = true from halted, Bool.true_and] at room
      exact room
    · exact .refl s

theorem outletActs_fastMarket (fast : Bool) : Engine.Keeps s₀.outletActs (fastMarketEngine fast) :=
  .acts fun ops s _ => by
    dsimp only
    split
    · exact .refl s
    · exact .of_eq rfl rfl rfl rfl

/-- The tape step of a cancel or a correction, where no carrying ribbon is full that does not hold the print's entry. -/
theorem State.outletActs.changeAndStep {s : State} {i n : Nat} {v : Instrument} (w : Instrument) (withdraws : Bool)
    (text : Text) (room : s.noRoom v i n = false) :
    s.outletActs ((s.change i w true).tapeStep (s.carrying v) i n withdraws text) := by
  refine .trans (t := s.change i w true) (.of_eq rfl rfl rfl rfl) (.of_tapeActs (.tapeStep _ _ _ _ _ _)
    (.tapeStep _ _ _ _ (s.carrying_le _) (s.carrying_nodup _) fun k inside free => ?_))
  simp only [State.noRoom, List.any_eq_false, Bool.and_eq_true, decide_eq_true_eq, not_and, Bool.not_eq_true'] at room
  exact Nat.lt_of_not_le fun full => room k inside full free

theorem noRoom_of_cancelPrintCheck {ops : List Word} {s : State} (passes : cancelPrintCheck ops s = none) :
    s.noRoom (s.instr (operand ops 0)) (operand ops 0) (operand ops 1) = false := by
  unfold cancelPrintCheck at passes
  dsimp only at passes
  split at passes
  · cases passes
  split at passes
  · cases passes
  have checks := firstRefusal_eq_none.mp passes
  exact checks _ (List.mem_singleton_self _)

theorem noRoom_of_correctPrintCheck {ops : List Word} {s : State} (passes : correctPrintCheck ops s = none) :
    s.noRoom (s.instr (operand ops 0)) (operand ops 0) (operand ops 1) = false := by
  unfold correctPrintCheck at passes
  dsimp only at passes
  split at passes
  · cases passes
  split at passes
  · cases passes
  have checks := firstRefusal_eq_none.mp passes
  simp only [List.mem_cons, forall_eq_or_imp] at checks
  exact checks.2.1

theorem outletActs_cancelPrint : Engine.Keeps s₀.outletActs cancelPrintEngine :=
  .acts fun ops s passes => by
    dsimp only
    split
    · exact .refl s
    next p found =>
      have numbered : p.number = operand ops 1 := (Instrument.print_mem found).2
      exact .changeAndStep _ _ _ (numbered ▸ noRoom_of_cancelPrintCheck passes)

theorem outletActs_correctPrint : Engine.Keeps s₀.outletActs correctPrintEngine :=
  .acts fun ops s passes => by
    dsimp only
    split
    · exact .refl s
    next p found =>
      have numbered : p.number = operand ops 1 := (Instrument.print_mem found).2
      exact .changeAndStep _ _ _ (numbered ▸ noRoom_of_correctPrintCheck passes)

/-- TAPE TEXT appends where the ribbon, 0 or 1, has room (R74). -/
theorem room_of_tapeTextCheck {ops : List Word} {s : State} (passes : tapeTextCheck ops s = none) :
    textRibbon ops ≤ 1 ∧ ((textPart ops).getD .single ≠ .first → s.ports.textBuffer.isSome ∨ (textPart ops).getD .single = .single →
      s.anyFull [textRibbon ops] 256 = false) := by
  unfold tapeTextCheck at passes
  split at passes
  · cases passes
  next formed =>
  have checks := firstRefusal_eq_none.mp formed
  simp only [List.mem_cons, forall_eq_or_imp, badText, Bool.or_eq_false_iff, decide_eq_false_iff_not] at checks
  obtain ⟨-, ⟨⟨⟨⟨⟨-, ribbon⟩, -⟩, -⟩, -⟩, -⟩, -, -⟩ := checks
  refine ⟨by omega, fun notFirst part => ?_⟩
  unfold textPartCheck at passes
  dsimp only at passes
  split at passes
  · exact firstRefusal_eq_none.mp passes _ (List.mem_singleton_self _)
  next first => exact absurd first notFirst
  next final =>
    split at passes
    · cases passes
    · have checks := firstRefusal_eq_none.mp passes
      simp only [List.mem_cons, forall_eq_or_imp] at checks
      exact checks.2.1

theorem outletActs_tapeText : Engine.Keeps s₀.outletActs tapeTextEngine :=
  .acts fun ops s passes => by
    obtain ⟨ribbon, room⟩ := room_of_tapeTextCheck passes
    have one : ∀ k ∈ [textRibbon ops], k ≤ 1 := fun k hk => by rw [List.mem_singleton.mp hk]; exact ribbon
    dsimp only
    split
    next single =>
      exact .of_tapeActs (.appendNotice _ _ _ _)
        (.appendNotice _ _ one (List.nodup_singleton _) (room (by simp [single]) (.inr single)))
    · exact .of_eq rfl rfl rfl rfl
    next final =>
    split
    · exact .refl s
    next b buffer =>
      refine .trans (t := s.setTextBuffer none) (.of_eq rfl rfl rfl rfl) (.of_tapeActs (.appendNotice _ _ _ _)
        (.appendNotice _ _ one (List.nodup_singleton _) ?_))
      exact room (by simp [final]) (.inl (by simp [buffer]))

theorem State.outletActs.setBindingHead (s : State) (f : CellField) (h : Option Nat) : s.outletActs (s.setBindingHead f h) := by
  cases f <;> exact .of_links rfl rfl rfl (.of_links rfl)

theorem State.outletActs.closePage (n : Nat) (s : State) : s.outletActs (s.closePage n) :=
  .of_eq (by simp) (State.closePage_keeps (fun _ _ => rfl) n s) (by simp) (by simp)

theorem outletActs_closePage (p : PortId) : Engine.Keeps s₀.outletActs (closePageEngine p) := by
  have body : Engine.Keeps s₀.outletActs closePageBody := .acts fun ops s _ => .closePage _ s
  unfold closePageEngine
  split
  · exact .liveOnly body
  · exact body

theorem outletActs_openPage : Engine.Keeps s₀.outletActs openPageEngine := by
  refine .liveOnly fun ops s hs => ?_
  split
  · exact hs
  split
  · exact hs.trans (.of_eq (by simp [done]) (State.openPage_keeps (fun _ _ => rfl) _ _ _ s) (by simp [done]) (by simp [done]))
  all_goals exact hs

theorem outletActs_defineCell : Engine.Keeps s₀.outletActs defineCellEngine :=
  .acts fun ops s _ => by
    refine (State.outletActs.setBindingHead s _ _).trans (.onBoard ?_)
    unfold Display.bind
    dsimp only
    split
    · exact .of_links rfl
    · refine .trans (e := Display.setCell _ _ _) (.of_links rfl) (.enqueue _ _)

theorem outletActs_removeCell : Engine.Keeps s₀.outletActs removeCellEngine :=
  .acts fun ops s _ => by
    have unbind (t : State) (head : Option Nat) (c : Nat) : t.outletActs { t with display := t.display.unbind head c } :=
      .of_links rfl rfl rfl (.of_links (by rw [Display.unbind_frame]))
    dsimp only
    split
    · exact (State.outletActs.setBindingHead s _ _).trans (unbind ..)
    · exact unbind ..

theorem outletActs_dark (dark : Bool) : Engine.Keeps s₀.outletActs (darkEngine dark) :=
  .acts fun ops s _ => by
    split
    · exact .refl s
    · exact .onBoard (.setDark _ _ _)

theorem outletActs_moduleRestart : Engine.Keeps s₀.outletActs moduleRestartEngine :=
  .acts fun _ _ _ => .onLink _ (.setModule ..)

/-- The checks of MODULE RESTART and of the lamp tests refuse a link that is OFF (R108). -/
theorem on_of_linkChecks {ops : List Word} {s : State} {n : Nat} {bad : Bool} {more : List (Bool × Answer)}
    (passes : firstRefusal (linkChecks n bad ops s ++ more) = none) : (s.display.link (operand ops 0)).state ≠ .off := by
  have checks := firstRefusal_eq_none.mp passes
  simp only [linkChecks, List.cons_append, List.mem_cons, forall_eq_or_imp] at checks
  exact of_decide_eq_false checks.2.2.1

theorem outletActs_lampTestStart : Engine.Keeps s₀.outletActs lampTestStartEngine :=
  .acts fun _ _ passes => .onLink _ (.setLink _ fun off => absurd off (on_of_linkChecks passes))

theorem outletActs_lampTestStop : Engine.Keeps s₀.outletActs lampTestStopEngine :=
  .acts fun _ s passes => by
    dsimp only
    split
    · exact .onLink _ (.stopTest (on_of_linkChecks passes))
    all_goals exact .refl s

theorem outletActs_ribbonRestart : Engine.Keeps s₀.outletActs ribbonRestartEngine :=
  .acts fun ops s passes => by
    have checks := firstRefusal_eq_none.mp passes
    simp only [List.mem_cons, forall_eq_or_imp, Bool.or_eq_false_iff, decide_eq_false_iff_not] at checks
    obtain ⟨⟨-, ribbon⟩, -⟩ := checks
    dsimp only
    split
    · exact .refl s
    next b pending =>
      have on : (s.ribbon (operand ops 0)).state ≠ .off := fun off => by simp [Ribbon.pendingBlock, off] at pending
      refine .of_tapeActs (.setTape s _ s.transit) (.setRibbon (by omega) ?_ fun off => absurd off on)
      unfold Ribbon.restart
      split <;> exact le_rfl

theorem outletActs_ribbonRate : Engine.Keeps s₀.outletActs ribbonRateEngine :=
  .acts fun ops s passes => by
    have checks := firstRefusal_eq_none.mp passes
    simp only [List.mem_cons, forall_eq_or_imp, Bool.or_eq_false_iff, decide_eq_false_iff_not] at checks
    obtain ⟨⟨⟨-, ribbon⟩, -⟩, -⟩ := checks
    exact .of_tapeActs (.setTape s _ s.transit) (.setRibbon (by omega) le_rfl id)

theorem outletActs_configure : Engine.Keeps s₀.outletActs configureEngine :=
  .acts fun ops s passes => by
    unfold configureCheck at passes
    split
    · exact .refl s
    next item found =>
    rw [found] at passes
    have checks := firstRefusal_eq_none.mp passes
    simp only [List.mem_cons, forall_eq_or_imp, Bool.or_eq_false_iff] at checks
    obtain ⟨⟨-, formed⟩, -⟩ := checks
    have tape : s.tapeKept (s.configure item ops) := by
      cases item
      case ribbon =>
        simp only [Item.malformed, Bool.or_eq_false_iff, decide_eq_false_iff_not] at formed
        exact .trans (.setRibbon (r := operandHi ops 1) (v := { s.ribbon (operandHi ops 1) with
          enabled := operandLo ops 1 != 0, period := operand ops 2, ackTimeout := operand ops 3 }) (by omega) le_rfl id)
          (.of_tape rfl)
      all_goals exact .of_tape rfl
    refine ⟨rfl, fun _ => id, tape, ?_⟩
    cases item
    case link => exact .setLink _ id
    case module => exact .setModule ..
    all_goals exact .refl _

/-- Every request but GO LIVE and GO CONFIG. -/
theorem outletActs_engineOf (p : PortId) {r : Request} (live : r ≠ .goLive) (config : r ≠ .goConfig) :
    Engine.Keeps s₀.outletActs (engineOf p r) := by
  cases r
  case goLive => exact absurd rfl live
  case goConfig => exact absurd rfl config
  case tradeReport => exact outletActs_tradeReport
  case quoteReport => exact outletActs_quoteReport
  case sequenceReset => exact .acts fun _ _ _ => .of_eq rfl rfl rfl rfl
  case defineInstrument => exact .acts fun _ _ _ => .of_eq rfl rfl rfl rfl
  case modifyInstrument => exact .acts fun _ _ _ => .of_eq rfl rfl rfl rfl
  case removeInstrument => exact .acts fun _ _ _ => .of_eq rfl rfl rfl rfl
  case openSession => exact outletActs_openSession
  case closeSession => exact outletActs_closeSession
  case rollSession => exact outletActs_rollSession
  case halt => exact outletActs_halt
  case resume => exact outletActs_resume
  case setFastMarket => exact outletActs_fastMarket true
  case clearFastMarket => exact outletActs_fastMarket false
  case cancelPrint => exact outletActs_cancelPrint
  case correctPrint => exact outletActs_correctPrint
  case tapeText => exact outletActs_tapeText
  case definePanel => exact .acts fun _ _ _ => .of_links rfl rfl rfl (.of_links rfl)
  case removePanel => exact .acts fun _ _ _ => .of_links rfl rfl rfl (.of_links rfl)
  case panelDark => exact outletActs_dark true
  case panelLight => exact outletActs_dark false
  case defineCell => exact outletActs_defineCell
  case removeCell => exact outletActs_removeCell
  case moduleRestart => exact outletActs_moduleRestart
  case lampTestStart => exact outletActs_lampTestStart
  case lampTestStop => exact outletActs_lampTestStop
  case ribbonRestart => exact outletActs_ribbonRestart
  case ribbonRate => exact outletActs_ribbonRate
  case configure => exact outletActs_configure
  case openPage => exact outletActs_openPage
  case closePage => exact outletActs_closePage p
  case setTime => exact .acts fun _ _ _ => .of_eq (by simp [done]) (by simp [done]) (by simp [done]) (by simp [done])
  all_goals exact .still (by simp [engineOf]) (by simp [engineOf]) (by simp [engineOf]) (by simp [engineOf])

end Engines

end Sys2Proof.Machine
end

section
/-! O58: every command keeps the error words, the notices, the tape queues, what the mode fixes, the timebase, the symbol
directory and the stored prices. -/

namespace Sys2Proof.Machine

/-! ### The events of the ribbons and of the board -/

theorem State.tapeKept.tapeEvent {c : Instr} {s t : State} (h : c.isTapeEvent = true) (ht : exec c s = .next t) :
    s.tapeKept t := by
  cases c <;> cases h <;> cases ht
  case departedCopyHandoff =>
    split
    · exact .refl s
    · intro k hk
      obtain rfl | rfl : k = 0 ∨ k = 1 := by omega
      all_goals exact ⟨fun fits => (List.length_map _).trans_le fits, id⟩
  case blockFrameSent r =>
    split
    · exact .refl s
    next b flies =>
    split
    · exact .refl s
    · refine .setRibbon (by omega) le_rfl fun off => ?_
      simp [Ribbon.inFlight, off] at flies
  case ribbonAcknowledgement u ack check =>
    split
    · exact .refl s
    next b flies =>
    split
    · exact .refl s
    split
    · refine .setRibbon ?_ ?_ fun off => ?_
      · unfold State.servedBy
        split <;> omega
      · unfold Ribbon.acknowledged
        dsimp only
        split <;> exact le_rfl
      · simp [Ribbon.inFlight, off] at flies
    · exact .refl s
  case pacingCountEnd r =>
    split
    next ended => exact .freed (by omega) (by rw [ended.1]; simp)
    · exact .refl s
  case ribbonAckTimeout r =>
    split
    · exact .refl s
    next b flies =>
    split
    · exact .refl s
    split
    · refine .trans (t := s.setRibbon r { s.ribbon r with state := .fault b.text }) (.setRibbon (by omega) le_rfl fun off => ?_) (.of_tape (State.record_tape ..))
      simp [Ribbon.inFlight, off] at flies
    · exact .refl s
  case readyRise u =>
    have level : s.tapeKept { s with tape := s.tape.setReady u true } := by
      refine .of_ribbons fun k _ => ?_
      unfold State.ribbon Tape.setReady
      split <;> split <;> rfl
    split
    next rises =>
      simp only [Bool.and_eq_true, decide_eq_true_eq] at rises
      have on : ({ s with tape := s.tape.setReady u true } : State).ribbon (s.servedBy u) = s.ribbon (s.servedBy u) := by
        unfold State.ribbon Tape.setReady
        split <;> split <;> rfl
      refine level.trans (.freed ?_ (by rw [on, rises.2]; simp))
      unfold State.servedBy
      split <;> omega
    · exact level
  case readyFall u =>
    refine .of_ribbons fun k _ => ?_
    unfold State.ribbon Tape.setReady
    split <;> split <;> rfl
  case lateNoticeExpiry r =>
    split
    · exact .refl s
    split
    · exact .setRibbon (by omega) le_rfl id
    · exact .refl s

theorem Display.offStays.boardEvent {c : Instr} {s t : State} (h : c.isBoardEvent = true) (ht : exec c s = .next t) :
    s.display.offStays t.display := by
  cases c <;> cases h <;> cases ht
  case boardHandoff =>
    split
    · exact .refl _
    next b rest _ =>
      exact State.offStays_onBoard (s := { s with transit := { s.transit with boardChanges := rest } }) (.handoff _ _ _ _)
  case minuteChange =>
    split
    · exact .refl _
    next n _ =>
      exact State.offStays_onBoard (s := { s with transit := { s.transit with minuteChanges := n } }) (.enqueueAll _ _)
  case sessionChange =>
    split
    · exact .refl _
    next n _ =>
      exact State.offStays_onBoard (s := { s with transit := { s.transit with sessionChanges := n } }) (.enqueueAll _ _)
  case tapeStateChange =>
    split
    · exact .refl _
    next r rest _ =>
      exact State.offStays_onBoard (s := { s with transit := { s.transit with tapeChanges := rest } }) (.enqueueAll _ _)
  case highlightExpiry => exact State.offStays_onBoard (.expire _ _)
  case frameSent l =>
    split
    · exact .refl _
    · exact .refl _
    · exact .setLink _ id
  case moduleAcknowledgement l ack check =>
    split
    · exact .refl _
    split
    · exact State.offStays_onLink l (.acknowledged _ _ _)
    · exact .refl _
  case moduleAckTimeout l =>
    split
    · exact .refl _
    next m deadline _ =>
    have out := State.offStays_onLink (f := fun d => d.timedOut l m) l (.timedOut _ _ s.display)
    split
    · split
      · exact out
      · exact out
    · exact .refl _
  case keepAliveDue l m =>
    split
    · exact State.offStays_onLink l (.refl _)
    · exact .refl _
  case probeDue l m =>
    split
    · exact State.offStays_onLink l (.refl _)
    · exact .refl _
  case settleExpiry l =>
    split
    · exact .refl _
    next expiry settling =>
    split
    · refine State.offStays_onLink l (.settleEnd fun off => ?_)
      simp [Link.settleExpiry, off] at settling
    · exact .refl _

theorem State.outletActs.boardEvent {c : Instr} {s t : State} (h : c.isBoardEvent = true) (ht : exec c s = .next t) :
    s.outletActs t :=
  have acts := exec_boardEvent h ht
  .of_links acts.mode (congrArg Quote.session acts.quote) acts.tape (.boardEvent h ht)

/-! ### GO LIVE, GO CONFIG, device reset -/

theorem State.goLive_outlets {s : State} (hs : s.tapesFit ∧ s.modeKept) : s.goLive.tapesFit ∧ s.goLive.modeKept :=
  ⟨hs.1, nofun⟩

theorem Display.link_mapLinks (f : Link → Link) (d : Display) {l : Nat} (hl : l < 4) :
    (d.mapLinks f).link l = f (d.link l) := by
  unfold Display.mapLinks
  obtain rfl | rfl | rfl | rfl : l = 0 ∨ l = 1 ∨ l = 2 ∨ l = 3 := by omega
  all_goals simp [List.foldl]

theorem State.goConfig_outlets {s : State} (closed : s.quote.session = .closed) :
    s.goConfig.tapesFit ∧ s.goConfig.modeKept := by
  refine ⟨⟨Nat.zero_le _, Nat.zero_le _⟩, fun _ => ⟨closed, rfl, rfl, fun l hl => ?_⟩⟩
  have := Display.link_mapLinks (fun v => if v.isOff then v else v.goConfig) s.display hl
  refine (congrArg Link.state this).trans ?_
  split
  next off => simpa [Link.isOff] using off
  · rfl

theorem State.atReset_outlets (low : Bool) (s : State) : (s.atReset low).tapesFit ∧ (s.atReset low).modeKept :=
  ⟨⟨Nat.zero_le _, Nat.zero_le _⟩, fun _ => ⟨rfl, rfl, rfl, fun _ _ => rfl⟩⟩

/-! ### Every command -/

theorem portKept_outlets : PortKept fun s => s.tapesFit ∧ s.modeKept where
  port _ _ _ hs := State.outletActs.keeps (.of_eq rfl rfl rfl rfl) hs
  buffer _ _ hs := State.outletActs.keeps (.of_eq rfl rfl rfl rfl) hs
  expectation _ _ hs := State.outletActs.keeps (.of_eq rfl rfl rfl rfl) hs
  terminals s hs := State.outletActs.keeps (.of_eq (by simp) (by simp [State.closeTerminals]) (by simp) (by simp)) hs
  engine p r ops s hs := by
    by_cases live : r = .goLive
    · subst live
      show (goLiveEngine ops s).state.tapesFit ∧ (goLiveEngine ops s).state.modeKept
      unfold goLiveEngine
      split_ifs
      · exact hs
      · exact hs
      · exact State.goLive_outlets hs
      · exact hs
    by_cases config : r = .goConfig
    · subst config
      show (goConfigEngine ops s).state.tapesFit ∧ (goConfigEngine ops s).state.modeKept
      unfold goConfigEngine
      split_ifs with _ _ opened
      case neg => exact State.goConfig_outlets (by cases h : s.quote.session with | closed => rfl | opened => exact absurd h opened)
      all_goals exact hs
    · exact (outletActs_engineOf p live config ops s (.refl s)).keeps hs

theorem outlets_event {c : Instr} {s t : State} (event : c.BlockEvent) (hs : s.tapesFit ∧ s.modeKept)
    (ht : exec c s = .next t) : t.tapesFit ∧ t.modeKept := by
  cases event with
  | board h => exact (State.outletActs.boardEvent h ht).keeps hs
  | tape h => exact (State.outletActs.of_tapeActs (exec_tapeEvent h ht) (.tapeEvent h ht)).keeps hs
  | rollRecord =>
    cases ht
    split
    · exact hs
    split
    · exact State.outletActs.keeps (.of_eq rfl rfl rfl rfl) hs
    · exact State.outletActs.keeps (.of_eq rfl rfl rfl rfl) hs
  | pageHandoff =>
    cases ht
    split
    · exact hs
    · refine State.outletActs.keeps ?_ hs
      rw [State.takePageChange_frame]
      exact .of_eq rfl rfl rfl rfl
  | noticeRaise =>
    cases ht
    split
    · exact hs
    · exact State.outletActs.keeps (.of_eq rfl rfl rfl rfl) hs
  | tick =>
    cases ht
    split
    · exact hs
    · have count (gate : Bool) (v : Ribbon) : (v.count gate).queue = v.queue ∧ (v.count gate).state = v.state := by
        unfold Ribbon.count
        split <;> exact ⟨rfl, rfl⟩
      refine State.outletActs.keeps (s := s) ⟨rfl, fun _ => id, fun k hk => ?_, .refl _⟩ hs
      obtain rfl | rfl : k = 0 ∨ k = 1 := by omega
      · exact ⟨fun fits => (congrArg List.length (count (s.gate 0) s.tape.ribbon0).1).trans_le fits,
          (count (s.gate 0) s.tape.ribbon0).2.trans⟩
      · exact ⟨fun fits => (congrArg List.length (count (s.gate 1) s.tape.ribbon1).1).trans_le fits,
          (count (s.gate 1) s.tape.ribbon1).2.trans⟩
  | dayClockAdvance =>
    cases ht
    split
    · exact hs
    · exact State.outletActs.keeps (.of_eq rfl rfl rfl rfl) hs
  | deviceReset => cases ht; exact s.atReset_outlets _
  | resetRelease =>
    cases ht
    split
    · exact s.atReset_outlets _
    · exact hs

theorem outlets_exec {c : Instr} {s t : State} (hs : s.tapesFit ∧ s.modeKept) (ht : exec c s = .next t) :
    t.tapesFit ∧ t.modeKept :=
  portKept_outlets.exec (fun _ _ _ event hs ht => outlets_event event hs ht) hs ht

/-- Settles O58: each part of the invariant is kept by a part of its own. -/
theorem everyStepKeepsTheInvariants : Obligations.EveryStepKeepsTheInvariants := fun _ _ hs ht =>
  step_keeps (Q := State.wellKept)
    (fun _ _ hs => ⟨hs.errors, hs.notices, hs.tapes, hs.mode, hs.time, hs.records, hs.directory, hs.grid⟩)
    (fun _ _ _ hs ht => by
      obtain ⟨records, directory, grid⟩ := recordsKept_exec ⟨hs.records, hs.directory, hs.grid⟩ ht
      obtain ⟨tapes, mode⟩ := outlets_exec ⟨hs.tapes, hs.mode⟩ ht
      exact ⟨errorWordsNamed_exec hs.errors ht, noticesOrdered_exec hs.notices ht, tapes, mode,
        timeInRange_exec hs.time ht, records, directory, grid⟩)
    hs ht

end Sys2Proof.Machine
end

section
/-! O59: every command keeps the panels, cells, binding lists, repaint queues and the highlight list in order. -/

namespace Sys2Proof.Machine

/-! ### The owners of the binding lists -/

/-- The instrument that owns the binding list of a field; none for the device's own list (R84). -/
def CellField.owner : CellField → Option Nat
  | .instrument _ i => some i
  | .clock => none
  | .market => none
  | .tapeState _ => none

/-- The field belongs to the binding list of an owner (R84). -/
def CellField.ownedBy : Option Nat → CellField → Bool
  | some i => CellField.ofInstrument i
  | none => fun f => !f.isInstrument

theorem CellField.ownedBy_iff (o : Option Nat) (f : CellField) : f.ownedBy o = true ↔ f.owner = o := by
  cases o <;> cases f <;> simp [ownedBy, owner, ofInstrument, isInstrument]

/-- The head of an owner's binding list. -/
def State.headOf (s : State) : Option Nat → Option Nat
  | some i => (s.instr i).bindHead
  | none => s.display.deviceHead

theorem State.bindingHead_eq (s : State) (f : CellField) : s.bindingHead f = s.headOf f.owner := by cases f <;> rfl

theorem State.headOf_setBindingHead (s : State) (f : CellField) (h o : Option Nat) :
    (s.setBindingHead f h).headOf o = if o = f.owner then h else s.headOf o := by
  cases f with
  | instrument g i =>
    cases o with
    | none => rfl
    | some j =>
      by_cases same : j = i
      · subst same
        simp [headOf, setBindingHead, CellField.owner]
      · simp [headOf, setBindingHead, CellField.owner, same]
  | clock => cases o <;> rfl
  | market => cases o <;> rfl
  | tapeState r => cases o <;> rfl

/-- The binding list of every owner is in order. -/
def State.listsKept (s : State) (d : Display) : Prop := ∀ o, d.lists (s.headOf o) (CellField.ownedBy o)

theorem State.boardKept_iff (s : State) : s.boardKept ↔
    Table.wf Instrument.vacant s.quote.instruments = true ∧ s.display.kept ∧ s.listsKept s.display := by
  constructor
  · intro h
    refine ⟨h.records, ⟨h.tables, h.panels, h.cells, h.queues, h.highlights⟩, fun o => ?_⟩
    cases o with
    | none => exact h.device
    | some i => exact h.instruments i
  · rintro ⟨records, ⟨tables, panels, cells, queues, highlights⟩, lists⟩
    exact ⟨records, tables, panels, cells, queues, highlights, fun i => lists (some i), lists none⟩

theorem Display.kept.below {d : Display} (h : d.kept) (c : Nat) (bound : (d.cell c).bound = true) : c < 4096 :=
  (h.cells.placed c bound).1

/-! ### Actions that leave the binding lists -/

section Same

variable {s t : State}

theorem State.headOf_same (wf : Table.wf Instrument.vacant s.quote.instruments = true)
    (heads : s.sameRecords Instrument.bindHead t) (device : t.display.deviceHead = s.display.deviceHead) (o : Option Nat) :
    t.headOf o = s.headOf o := by
  cases o with
  | none => exact device
  | some i => exact heads.same wf i

/-- A binding list hangs on the cells alone. -/
theorem Display.lists.of_cells {d d' : Display} {head : Option Nat} {owns : CellField → Bool} (h : d.lists head owns)
    (below : ∀ c, (d.cell c).bound = true → c < 4096) (cells : d'.cells = d.cells) : d'.lists head owns := by
  have cell (c : Nat) : d'.cell c = d.cell c := by unfold Display.cell; rw [cells]
  obtain ⟨strung, once, members⟩ := h
  refine Display.lists_of ((Display.strung_congr fun c _ => by rw [cell]).mpr strung) once (fun c => ?_) fun c => ?_
  · rw [cell]; exact members c
  · rw [cell]; exact below c

/-- An action that leaves the cells, but for queued flags and expiries: `mid` holds the panels and modules after it. -/
theorem State.boardKept.through (hs : s.boardKept) (heads : s.sameRecords Instrument.bindHead t) {mid : Display}
    (cells : mid.cells = s.display.cells) (device : mid.deviceHead = s.display.deviceHead)
    (layout : mid.sameLayout t.display) (kept : t.display.kept) : t.boardKept := by
  obtain ⟨wf, before, lists⟩ := s.boardKept_iff.mp hs
  refine t.boardKept_iff.mpr ⟨heads.wf wf, kept, fun o => ?_⟩
  rw [State.headOf_same wf heads (layout.head.trans device) o]
  refine ((lists o).of_cells before.below cells).same (fun c => ?_) layout
  unfold Display.cell
  rw [cells]
  exact before.below c

/-- An action on queues, highlights, links and modules. -/
theorem State.boardKept.act (hs : s.boardKept) (heads : s.sameRecords Instrument.bindHead t)
    (layout : s.display.sameLayout t.display) (kept : t.display.kept) : t.boardKept :=
  hs.through heads rfl rfl layout kept

/-- An action on panels or on the module tables. -/
theorem State.boardKept.ofCells (hs : s.boardKept) (quote : t.quote = s.quote)
    (cells : t.display.cells = s.display.cells) (device : t.display.deviceHead = s.display.deviceHead)
    (kept : t.display.kept) : t.boardKept :=
  hs.through (.of_instruments (congrArg Quote.instruments quote)) cells device (.refl _) kept

/-- An action that leaves the board. -/
theorem State.boardKept.same (hs : s.boardKept) (heads : s.sameRecords Instrument.bindHead t)
    (display : t.display = s.display) : t.boardKept :=
  hs.act heads (display ▸ .refl _) (display ▸ (s.boardKept_iff.mp hs).2.1)

theorem State.boardKept.of_quote (s t : State) (quote : t.quote = s.quote) (display : t.display = s.display) (hs : s.boardKept) :
    t.boardKept := hs.same (.of_instruments (congrArg Quote.instruments quote)) display

theorem State.boardKept.onBoard (hs : s.boardKept) {f : Display → Display} (layout : s.display.sameLayout (f s.display))
    (kept : (f s.display).kept) : (s.onBoard f).boardKept :=
  hs.act (.of_instruments rfl) (layout.trans (State.onBoard_layout f s)) (State.onBoard_kept kept)

theorem State.boardKept.onLink (hs : s.boardKept) (l : Nat) {f : Display → Display} (layout : s.display.sameLayout (f s.display))
    (kept : (f s.display).kept) : (s.onLink l f).boardKept :=
  hs.act (.of_instruments rfl) (layout.trans (State.onLink_layout l f s)) (State.onLink_kept kept l)

theorem State.boardKept.display (hs : s.boardKept) : s.display.kept := (s.boardKept_iff.mp hs).2.1

end Same

/-! ### DEFINE CELL and REMOVE CELL -/

/-- The device binding list's head is no matter of the cells, panels, queues and highlights. -/
theorem Display.kept.withHead {d : Display} (h : d.kept) (head : Option Nat) : ({ d with deviceHead := head } : Display).kept where
  tables := ⟨h.tables.cells, h.tables.panels, h.tables.modules⟩
  panels := ⟨h.panels.range, h.panels.apart⟩
  cells := ⟨h.cells.vacant, h.cells.placed, h.cells.apart⟩
  queues := ⟨h.queues.once, h.queues.queued, h.queues.paintable⟩
  highlights := h.highlights

theorem Display.unbind_withHead (d : Display) (head x : Option Nat) (c : Nat) :
    ({ d with deviceHead := x } : Display).unbind head c = { d.unbind head c with deviceHead := x } := by
  have before : ({ d with deviceHead := x } : Display).before head c = d.before head c := by
    have walk (n : Nat) (h : Option Nat) : ({ d with deviceHead := x } : Display).walk n h = d.walk n h := by
      induction n generalizing h with
      | zero => rfl
      | succ n ih => cases h with
        | none => rfl
        | some b => exact congrArg (b :: ·) (ih _)
    unfold Display.before Display.bindingList
    rw [walk]
    rfl
  have link (e : Display) (y : Option Nat) : ({ e with deviceHead := y } : Display).dequeue c =
      { e.dequeue c with deviceHead := y } := by
    unfold Display.dequeue
    have : ({ e with deviceHead := y } : Display).linkOf c = e.linkOf c := rfl
    rw [this]
    cases e.linkOf c <;> rfl
  have unlink : ({ d with deviceHead := x } : Display).unlink head c = { d.unlink head c with deviceHead := x } := by
    unfold Display.unlink
    rw [before]
    cases d.before head c <;> rfl
  unfold Display.unbind
  rw [unlink, link]
  rfl

theorem State.setBindingHead_display (s : State) (f : CellField) (h : Option Nat) :
    ∃ head, (s.setBindingHead f h).display = { s.display with deviceHead := head } := by
  cases f <;> exact ⟨_, rfl⟩

theorem State.setBindingHead_wf {s : State} (f : CellField) (h : Option Nat)
    (wf : Table.wf Instrument.vacant s.quote.instruments = true) :
    Table.wf Instrument.vacant (s.setBindingHead f h).quote.instruments = true := by
  cases f with
  | instrument g i => exact State.wf_setInstr i _ wf
  | clock => exact wf
  | market => exact wf
  | tapeState r => exact wf

/-- A cell is bound at the head of its owner's list, where the board stays in order with it (R82). -/
theorem State.boardKept.bind {s : State} (hs : s.boardKept) {c : Nat} {v : Cell} (below : c < 4096)
    (free : (s.display.cell c).bound = false) (bound : v.bound = true) (next : v.next = s.bindingHead v.field)
    (kept : (s.display.setCell c v).kept) :
    ((s.setBindingHead v.field (some c)).onBoard fun d => d.bind c v).boardKept := by
  obtain ⟨wf, before, lists⟩ := s.boardKept_iff.mp hs
  obtain ⟨head, display⟩ := s.setBindingHead_display v.field (some c)
  have bindLayout (d : Display) : (d.setCell c v).sameLayout (d.bind c v) := by
    unfold Display.bind
    dsimp only
    split
    · exact .refl _
    · exact Display.enqueue_layout _ _
  set t := s.setBindingHead v.field (some c) with ht
  have keptHere : (t.display.setCell c v).kept := by
    rw [display]
    exact kept.withHead head
  have layout : (t.display.setCell c v).sameLayout (t.onBoard fun d => d.bind c v).display :=
    (bindLayout _).trans (State.onBoard_layout (fun d => d.bind c v) t)
  refine (State.boardKept_iff _).mpr ⟨State.setBindingHead_wf _ _ wf, State.onBoard_kept keptHere.bind, fun o => ?_⟩
  have headAfter : (t.onBoard fun d => d.bind c v).headOf o = t.headOf o := by
    cases o with
    | none => exact layout.head
    | some i => rfl
  rw [headAfter, ht, State.headOf_setBindingHead]
  have here : (t.display.setCell c v).cells = (s.display.setCell c v).cells := by rw [display]; rfl
  have pushed : (s.display.setCell c v).lists (if o = v.field.owner then some c else s.headOf o) (CellField.ownedBy o) := by
    split
    next owner =>
      subst owner
      exact (lists _).push before.below below free bound ((CellField.ownedBy_iff _ _).mpr rfl)
        (next.trans (s.bindingHead_eq _))
    next other =>
      refine (lists o).pushOther before.below below free (Bool.eq_false_iff.mpr fun owns => other ?_)
      exact ((CellField.ownedBy_iff _ _).mp owns).symm
  exact (pushed.of_cells kept.below here).same keptHere.below layout

/-- The head of a field's list is written where `p` says so (R83 step 1). -/
theorem State.relinked (s : State) (p : Prop) [Decidable p] (f : CellField) (h : Option Nat)
    (wf : Table.wf Instrument.vacant s.quote.instruments = true) :
    let t := if p then s.setBindingHead f h else s
    (∃ x, t.display = { s.display with deviceHead := x }) ∧ Table.wf Instrument.vacant t.quote.instruments = true ∧
      ∀ o, t.headOf o = if o = f.owner ∧ p then h else s.headOf o := by
  by_cases hp : p
  · simp only [hp, if_true, and_true]
    exact ⟨s.setBindingHead_display f h, State.setBindingHead_wf f h wf, s.headOf_setBindingHead f h⟩
  · simp only [hp, if_false, and_false]
    exact ⟨⟨s.display.deviceHead, rfl⟩, wf, fun _ => trivial⟩

/-- A cell is taken out of its owner's list (R83). -/
theorem State.boardKept.unbind {s : State} (hs : s.boardKept) {c : Nat} (bound : (s.display.cell c).bound = true) :
    let head := s.bindingHead (s.display.cell c).field
    let t := if head = some c then s.setBindingHead (s.display.cell c).field (s.display.cell c).next else s
    ({ t with display := t.display.unbind head c } : State).boardKept := by
  obtain ⟨wf, before, lists⟩ := s.boardKept_iff.mp hs
  intro head t
  have owned : (s.display.cell c).field.ownedBy (s.display.cell c).field.owner = true := (CellField.ownedBy_iff _ _).mpr rfl
  have headIs : head = s.headOf (s.display.cell c).field.owner := s.bindingHead_eq _
  have unbound (o : Option Nat) : (s.display.unbind head c).lists
      (if o = (s.display.cell c).field.owner then (if head = some c then (s.display.cell c).next else head) else s.headOf o)
      (CellField.ownedBy o) := by
    split
    next owner =>
      subst owner
      rw [headIs]
      exact (lists _).remove before.below bound owned
    next other =>
      rw [headIs]
      refine (lists _).removeOther (lists o) before.below bound (Bool.eq_false_iff.mpr fun owns => other ?_) fun f owns =>
        Bool.eq_false_iff.mpr fun also => other ?_
      · exact ((CellField.ownedBy_iff _ _).mp owns).symm
      · exact ((CellField.ownedBy_iff _ _).mp also).symm.trans ((CellField.ownedBy_iff _ _).mp owns)
  have kept : (s.display.unbind head c).kept := before.unbind head c fun b h => by
    rw [headIs] at h
    exact (((lists _).2.2 b).mp (Display.before_some h).1).1
  obtain ⟨⟨device, display⟩, records, headsOf⟩ := s.relinked (head = some c) (s.display.cell c).field
    (s.display.cell c).next wf
  change t.display = _ at display
  have heads (o : Option Nat) : ({ t with display := t.display.unbind head c } : State).headOf o =
      if o = (s.display.cell c).field.owner then (if head = some c then (s.display.cell c).next else head)
      else s.headOf o := by
    have unchanged : ({ t with display := t.display.unbind head c } : State).headOf o = t.headOf o := by
      cases o with
      | none => exact (congrArg Display.deviceHead (Display.unbind_frame head c t.display) :)
      | some i => rfl
    rw [unchanged, headsOf]
    by_cases owner : o = (s.display.cell c).field.owner
    · subst owner
      simp [headIs]
    · simp [owner]
  have after : t.display.unbind head c = { s.display.unbind head c with deviceHead := device } := by
    rw [display, Display.unbind_withHead]
  refine (State.boardKept_iff _).mpr ⟨records, ?_, fun o => ?_⟩
  · dsimp only
    rw [after]
    exact kept.withHead device
  · rw [heads]
    dsimp only
    rw [after]
    exact (unbound o).of_cells kept.below rfl

end Sys2Proof.Machine
end

section
/-! O59, engine by engine and event by event. -/

namespace Sys2Proof.Machine

/-! ### What a DEFINE CELL that passes its checks binds -/

theorem cellContent_of_isSome {ops : List Word} (h : (cellContent ops).isNone = false) :
    ∃ f j onChange, cellContent ops = some (f, j, onChange) := by
  cases content : cellContent ops with
  | none => simp [content] at h
  | some x => exact ⟨x.1, x.2.1, x.2.2, rfl⟩

theorem defineCellCheck_eq_none {ops : List Word} {s : State} (passes : defineCellCheck ops s = none) :
    operand ops 0 < 4096 ∧ (∃ f j onChange, cellContent ops = some (f, j, onChange)) ∧
    ∃ p, s.display.panelOf (operand ops 0) = some p ∧ (s.display.cell (operand ops 0)).bound = false ∧
      ((s.display.link p.link).module (operand ops 1)).state ≠ .unconfigured ∧
      operand ops 2 ≤ ((s.display.link p.link).module (operand ops 1)).rows ∧
      operand ops 3 + operand ops 4 - 1 ≤ ((s.display.link p.link).module (operand ops 1)).columns ∧
      s.display.cellOverlap p.link (operand ops 1) (operand ops 2) (operand ops 3) (operand ops 4) = false := by
  unfold defineCellCheck at passes
  split at passes
  · cases passes
  next formed =>
  simp only [Bool.or_eq_true, not_or, Bool.not_eq_true, badCellPlace] at formed
  obtain ⟨⟨-, place⟩, content⟩ := formed
  split at passes
  · cases passes
  next p panel =>
  have checks := firstRefusal_eq_none.mp passes
  simp only [List.mem_cons, forall_eq_or_imp, Bool.or_eq_false_iff] at checks
  obtain ⟨free, configured, ⟨rows, columns⟩, overlap, -⟩ := checks
  refine ⟨Nat.lt_of_not_le (of_decide_eq_false place.1.1.1.1.1.1.1), cellContent_of_isSome content, p, panel, free, ?_,
    Nat.le_of_not_lt (of_decide_eq_false rows), Nat.le_of_not_lt (of_decide_eq_false columns), overlap⟩
  simpa [Module.configured] using configured

theorem definedCell_eq {ops : List Word} {f : CellField} {j : Justification} {onChange : Bool}
    (content : cellContent ops = some (f, j, onChange)) (next : Option Nat) : definedCell ops next =
      { bound := true, address := operand ops 1, row := operand ops 2, column := operand ops 3, width := operand ops 4
        field := f, justification := j, onChange := onChange, next := next, queued := false, expiry := none } := by
  unfold definedCell
  rw [content]

theorem boardKept_defineCell : Engine.Keeps State.boardKept defineCellEngine :=
  .checked fun ops s passes hs => by
    obtain ⟨below, ⟨f, j, onChange, content⟩, p, panel, free, module, rows, columns, overlap⟩ := defineCellCheck_eq_none passes
    have defined := definedCell_eq content
    have kept : (s.display.setCell (operand ops 0) (definedCell ops (s.bindingHead f))).kept := by
      rw [defined]
      exact hs.display.setBound below free panel rfl rfl rfl module rows columns overlap
    have bound := hs.bind (v := definedCell ops (s.bindingHead f)) below free (by rw [defined]) (by rw [defined]) kept
    have fields (h : Option Nat) : (definedCell ops h).field = f := by rw [defined]
    rw [fields] at bound
    dsimp only
    rw [fields]
    exact bound

theorem boardKept_removeCell : Engine.Keeps State.boardKept removeCellEngine :=
  .checked fun ops s passes hs => by
    have checks := firstRefusal_eq_none.mp passes
    simp only [List.mem_cons, forall_eq_or_imp] at checks
    exact hs.unbind (c := operand ops 0) (by simpa using checks.2.1)

/-! ### Panels -/

theorem boardKept_definePanel : Engine.Keeps State.boardKept definePanelEngine :=
  .checked fun ops s passes hs => by
    have checks := firstRefusal_eq_none.mp passes
    simp only [List.mem_cons, forall_eq_or_imp, Bool.or_eq_false_iff, decide_eq_false_iff_not] at checks
    obtain ⟨⟨⟨⟨⟨⟨-, number⟩, link⟩, base⟩, nonzero⟩, limit⟩, free, range, overlap, -⟩ := checks
    have size : Config.cellCount = 4096 := rfl
    refine hs.ofCells rfl rfl rfl (hs.display.definePanel _ _ _ _ ?_ ?_ ?_ ?_ free overlap)
    all_goals omega

theorem boardKept_removePanel : Engine.Keeps State.boardKept removePanelEngine :=
  .checked fun ops s passes hs => by
    have checks := firstRefusal_eq_none.mp passes
    simp only [panelChecks, List.cons_append, List.nil_append, List.mem_cons, forall_eq_or_imp] at checks
    obtain ⟨-, -, empty, -⟩ := checks
    exact hs.ofCells rfl rfl rfl (hs.display.removePanel _ (by simpa using empty))

theorem Display.setDark_layout (n : Nat) (dark : Bool) (d : Display) :
    (d.setPanel n { d.panel n with dark := dark }).sameLayout (d.setDark n dark) := by
  unfold Display.setDark
  dsimp only
  refine .trans ?_ (Display.enqueueAll_layout _ _)
  split
  · exact .foldl (fun d c => d.unhighlight c) Display.unhighlight_layout _ _
  · exact .refl _

/-- A panel's dark flag changes, and its cells are visited (R86). -/
theorem boardKept_dark (dark : Bool) : Engine.Keeps State.boardKept (darkEngine dark) :=
  .checked fun ops s _ hs => by
    split
    · exact hs
    · exact hs.through (mid := s.display.setPanel (operand ops 0) { s.display.panel (operand ops 0) with dark := dark })
        (.of_instruments rfl) rfl rfl ((Display.setDark_layout (operand ops 0) dark s.display).trans
          (State.onBoard_layout (fun d => d.setDark (operand ops 0) dark) s))
        (State.onBoard_kept (hs.display.setDark _ _))

/-! ### Links -/

theorem boardKept_moduleRestart : Engine.Keeps State.boardKept moduleRestartEngine :=
  .checked fun _ _ _ hs => hs.onLink _ (.setModule _ _ _ _ _ rfl rfl rfl id) (hs.display.askRestart _ _)

theorem boardKept_lampTestStart : Engine.Keeps State.boardKept lampTestStartEngine :=
  .checked fun _ _ _ hs => hs.onLink _ (Link.owe_layout _ _ _ _ _ rfl) (hs.display.startTest _ _)

theorem boardKept_lampTestStop : Engine.Keeps State.boardKept lampTestStopEngine :=
  .checked fun _ s _ hs => by
    dsimp only
    split
    · exact hs.onLink _ (Display.stopTest_layout _ _) (hs.display.stopTest _)
    all_goals exact hs

/-- CONFIGURE acts in CONFIG alone, where no link holds a queue (R107, R176). -/
theorem boardKept_configure {ops : List Word} {s : State} (mode : s.modeKept) (hs : s.boardKept) :
    (configureEngine ops s).state.boardKept := by
  unfold configureEngine checked
  split
  · exact hs
  next passes =>
  unfold configureCheck at passes
  dsimp only
  split
  · exact hs
  next item found =>
  rw [found] at passes
  have checks := firstRefusal_eq_none.mp passes
  simp only [List.mem_cons, forall_eq_or_imp, decide_eq_false_iff_not] at checks
  obtain ⟨-, notLive, -, free, -⟩ := checks
  have config : s.mode = .config := by
    cases h : s.mode with
    | config => rfl
    | live => exact absurd h notLive
  refine hs.ofCells rfl ?_ ?_ ?_
  · cases item <;> rfl
  · cases item <;> rfl
  · cases item
    case link => exact hs.display.sameModules _ _ rfl id
    case module => exact hs.display.configureModule (mode config).2.2.2 _ _ _ _ _ free
    all_goals exact hs.display

/-! ### Pages and modes -/

theorem boardKept_closePage (p : PortId) : Engine.Keeps State.boardKept (closePageEngine p) := by
  have body : Engine.Keeps State.boardKept closePageBody :=
    .checked fun _ _ _ hs => hs.same (State.closePage_records (fun _ _ => rfl) _ _) (by simp [done])
  unfold closePageEngine
  split
  · exact .liveOnly body
  · exact body

theorem boardKept_openPage : Engine.Keeps State.boardKept openPageEngine := by
  refine .liveOnly fun ops s hs => ?_
  split
  · exact hs
  split
  · exact hs.same (State.openPage_records (fun _ _ => rfl) _ _ _ s) (by simp [done])
  all_goals exact hs

theorem boardKept_goLive : Engine.Keeps State.boardKept goLiveEngine := by
  intro ops s hs
  have layout (d : Display) (l : Nat) : d.sameLayout (d.setLink l (Link.goLive s.now (d.link l))) := by
    refine .sameModules d l _ ?_
    unfold Link.goLive
    split <;> rfl
  unfold goLiveEngine
  split_ifs
  · exact hs
  · exact hs
  · exact hs.act (.of_instruments rfl) (Display.mapLinks_layout _ layout _) (hs.display.goLive _)
  · exact hs

theorem boardKept_goConfig : Engine.Keeps State.boardKept goConfigEngine := by
  intro ops s hs
  have layout (d : Display) (l : Nat) :
      d.sameLayout (d.setLink l (if (d.link l).isOff then d.link l else (d.link l).goConfig)) := by
    split
    · exact .sameModules d l _ rfl
    · refine .mapModules d l _ Module.rest rfl rfl fun e => ⟨rfl, rfl, fun configured => ?_⟩
      simp [Module.rest, Module.configured, configured]
  have off := Display.mapLinks_layout (fun v => if v.isOff then v else v.goConfig) layout s.display
  unfold goConfigEngine
  split_ifs
  case neg =>
    exact hs.act (.of_instruments rfl) (off.trans (Display.quiet_layout _ (off.canonical hs.tables))) hs.display.goConfig
  all_goals exact hs

/-! ### Every command -/

theorem boardKept_engineOf (p : PortId) (r : Request) {ops : List Word} {s : State} (mode : s.modeKept) (hs : s.boardKept) :
    (engineOf p r ops s).state.boardKept := by
  have rest (plain : Request.movesHooks r = false) (display : (engineOf p r ops s).state.display = s.display) :
      (engineOf p r ops s).state.boardKept :=
    hs.same ((hooks_engineOf s p r plain ops s (.refl s)).map Prod.fst) display
  cases r
  case defineCell => exact boardKept_defineCell ops s hs
  case removeCell => exact boardKept_removeCell ops s hs
  case definePanel => exact boardKept_definePanel ops s hs
  case removePanel => exact boardKept_removePanel ops s hs
  case panelDark => exact boardKept_dark true ops s hs
  case panelLight => exact boardKept_dark false ops s hs
  case moduleRestart => exact boardKept_moduleRestart ops s hs
  case lampTestStart => exact boardKept_lampTestStart ops s hs
  case lampTestStop => exact boardKept_lampTestStop ops s hs
  case configure => exact boardKept_configure mode hs
  case openPage => exact boardKept_openPage ops s hs
  case closePage => exact boardKept_closePage p ops s hs
  case goLive => exact boardKept_goLive ops s hs
  case goConfig => exact boardKept_goConfig ops s hs
  all_goals exact rest rfl (by simp [engineOf])

theorem portKept_board : PortKept fun s => (s.tapesFit ∧ s.modeKept) ∧ s.boardKept where
  port s p v hs := ⟨portKept_outlets.port s p v hs.1, .of_quote s _ rfl rfl hs.2⟩
  buffer s b hs := ⟨portKept_outlets.buffer s b hs.1, .of_quote s _ rfl rfl hs.2⟩
  expectation s e hs := ⟨portKept_outlets.expectation s e hs.1, hs.2.same (.of_instruments rfl) rfl⟩
  terminals s hs := ⟨portKept_outlets.terminals s hs.1, hs.2.same (State.closeTerminals_records (fun _ _ => rfl) s) (by simp)⟩
  engine p r ops s hs := ⟨portKept_outlets.engine p r ops s hs.1, boardKept_engineOf p r hs.1.2 hs.2⟩

/-- A link event moves one link and what hangs on it. -/
theorem boardKept_boardEvent {c : Instr} {s t : State} (h : c.isBoardEvent = true) (hs : s.boardKept)
    (ht : exec c s = .next t) : t.boardKept := by
  have moved (x : Transit) : ({ s with transit := x } : State).boardKept := .of_quote s _ rfl rfl hs
  cases c <;> cases h <;> cases ht
  case boardHandoff =>
    split
    · exact hs
    next b rest _ => exact (moved _).onBoard (Display.handoff_layout _ _ _ _) (hs.display.handoff _ _ _)
  case minuteChange =>
    split
    · exact hs
    · exact (moved _).onBoard (Display.enqueueAll_layout _ _) (hs.display.deviceChange _)
  case sessionChange =>
    split
    · exact hs
    · exact (moved _).onBoard (Display.enqueueAll_layout _ _) (hs.display.deviceChange _)
  case tapeStateChange =>
    split
    · exact hs
    · exact (moved _).onBoard (Display.enqueueAll_layout _ _) (hs.display.deviceChange _)
  case highlightExpiry => exact hs.onBoard (Display.expire_layout _ _) (hs.display.expire _)
  case frameSent l =>
    split
    · exact hs
    · exact hs
    next m _ =>
      exact hs.act (.of_instruments rfl)
        (.setModule s.display l m.address { (s.display.link l).module m.address with lastSent := some s.now } _ rfl rfl rfl id)
        (hs.display.frameSent _ _ _ _)
  case moduleAcknowledgement l ack check =>
    split
    · exact hs
    next m _ _ =>
    split
    · exact hs.onLink l (Display.acknowledged_layout l m _) (hs.display.acknowledged _ _)
    · exact hs
  case moduleAckTimeout l =>
    split
    · exact hs
    next m _ _ =>
    have out := hs.onLink l (Display.timedOut_layout l m _) (hs.display.timedOut _ _)
    split
    · split
      · exact .of_quote (s.onLink l fun d => d.timedOut l m) _ rfl rfl out
      · exact out
    · exact hs
  case keepAliveDue l m =>
    split
    · exact hs.onLink l (.refl _) hs.display
    · exact hs
  case probeDue l m =>
    split
    · exact hs.onLink l (.refl _) hs.display
    · exact hs
  case settleExpiry l =>
    split
    · exact hs
    split
    · exact hs.onLink l (Display.settleEnd_layout l _) (hs.display.settleEnd _)
    · exact hs

@[simp] theorem Display.bindingList_none (d : Display) : d.bindingList none = [] := by
  unfold Display.bindingList
  cases Config.cellCount <;> rfl

/-- A board without BOUND cells: every binding list is empty. -/
theorem Display.lists_none {d : Display} (free : ∀ c, (d.cell c).bound = false) (owns : CellField → Bool) :
    d.lists none owns := by
  unfold Display.lists
  rw [Display.bindingList_none]
  exact ⟨trivial, .nil, fun c => by simp [free c]⟩

theorem boardKept_reset : State.reset.boardKept := by
  have cell (c : Nat) : State.reset.display.cell c = Cell.vacant := rfl
  have panel (n : Nat) : State.reset.display.panel n = Panel.absent := rfl
  have queue (l : Nat) : State.reset.display.queue l = [] := rfl
  have link (c : Nat) : State.reset.display.linkOf c = none := rfl
  have free (c : Nat) : (State.reset.display.cell c).bound = false := rfl
  refine ⟨rfl, ⟨rfl, rfl, fun _ h => absurd h List.not_mem_nil⟩, ⟨fun n => ?_, fun n m c => ?_⟩, ⟨fun c _ => cell c, fun c => ?_, fun b c _ => ?_⟩,
    ⟨fun l => ?_, fun c l => ?_, fun c => ?_⟩, ⟨.nil, fun c => ?_⟩, fun _ => Display.lists_none free _,
    Display.lists_none free _⟩
  · simp [panel, Panel.absent]
  · simp [panel, Panel.absent, Panel.covers]
  · simp [free]
  · simp [free]
  · simp [queue]
  · simp [queue, link]
  · simp [cell, Cell.vacant]
  · rw [cell]
    exact ⟨fun h => absurd h List.not_mem_nil, fun h => absurd h Bool.false_ne_true⟩

theorem boardKept_event {c : Instr} {s t : State} (event : c.BlockEvent) (hs : s.boardKept)
    (ht : exec c s = .next t) : t.boardKept := by
  have reset (low : Bool) : (s.atReset low).boardKept := .of_quote State.reset _ rfl rfl boardKept_reset
  cases event with
  | board h => exact boardKept_boardEvent h hs ht
  | tape h =>
    have acts := exec_tapeEvent h ht
    exact hs.same ((acts.records _ fun v r w => hooks_setDigitRef r w v).map Prod.fst) acts.display
  | rollRecord =>
    cases ht
    split
    · exact hs
    next i rest _ =>
    have listed : s.sameRecords Instrument.bindHead (s.setRolling rest) := .of_instruments rfl
    split
    · exact hs.same listed rfl
    · exact hs.same (listed.then_change i (s.instr i).rolled false rfl) rfl
  | pageHandoff =>
    cases ht
    split
    · exact hs
    · exact .of_quote s _ (by rw [State.takePageChange_frame]) (by rw [State.takePageChange_frame]) hs
  | noticeRaise =>
    cases ht
    split
    · exact hs
    · exact .of_quote s _ rfl rfl hs
  | tick =>
    cases ht
    split
    · exact hs
    · exact .of_quote s _ rfl rfl hs
  | dayClockAdvance =>
    cases ht
    split
    · exact hs
    · exact .of_quote s _ rfl rfl hs
  | deviceReset => cases ht; exact reset _
  | resetRelease =>
    cases ht
    split
    · exact reset _
    · exact hs

/-- Settles O59: operation by operation, the part of the board that it moves stays in order; CONFIGURE moves a module's
geometry in CONFIG alone, when no queue holds a cell. -/
theorem boardStaysInOrder : Obligations.BoardStaysInOrder := fun _ _ hw hs ht =>
  (step_keeps (Q := fun s => (s.tapesFit ∧ s.modeKept) ∧ s.boardKept)
    (fun s _ hs => ⟨hs.1, .of_quote s _ rfl rfl hs.2⟩)
    (fun _ _ _ hs ht => portKept_board.exec
      (fun _ _ _ event hs ht => ⟨outlets_event event hs.1 ht, boardKept_event event hs.2 ht⟩) hs ht)
    ⟨⟨hw.tapes, hw.mode⟩, hs⟩ ht).2

/-- Settles O60: after reset every table is empty, the lists are empty and everything is OFF. -/
theorem resetMeetsTheInvariants : Obligations.ResetMeetsTheInvariants := by
  refine ⟨recordsDerived_atReset State.reset.inReset State.reset,
    viewersFollowPages_atReset State.reset.inReset State.reset, ?_, boardKept_reset⟩
  obtain ⟨records, directory, grid⟩ := recordsKept_reset
  exact ⟨errorWordsNamed_reset, ⟨.nil, .nil, nofun, nofun⟩, (State.reset.atReset_outlets false).1,
    (State.reset.atReset_outlets false).2, ⟨by decide, by decide⟩, records, directory, grid⟩

end Sys2Proof.Machine
end

section
/-! The master ports: write cycles and the request that they complete (R161, R162, R163). -/

namespace Sys2Proof.Machine

/-! ### Write cycles -/

section WriteCycles

variable {s : State} {p : PortId} {w : Word} {k : Taking}

theorem exec_registerWrite_low (low : s.inReset = true) (loc : Fin 8) : exec (.registerWrite p loc w k) s = .next s := by
  show Host.Outcome.next (s.busWrite p loc w k) = _
  unfold State.busWrite
  rw [if_pos low]

theorem exec_registerWrite_high (high : s.inReset = false) (loc : Fin 8) :
    exec (.registerWrite p loc w k) s = .next (match loc with
      | 0 => s.requestWrite p w k
      | 3 => s.clearConditions p w
      | 4 => s.setMaskWord p w
      | 5 => s.setSeverityWord p w
      | 6 => if w.getLsbD 0 then s.resetPort p else s
      | _ => s) := by
  show Host.Outcome.next (s.busWrite p loc w k) = _
  unfold State.busWrite
  rw [high]
  rfl

theorem exec_requestWrite (high : s.inReset = false) :
    exec (.registerWrite p 0 w k) s = .next (s.requestWrite p w k) := exec_registerWrite_high high 0

theorem exec_portReset (high : s.inReset = false) (bit : w.getLsbD 0 = true) :
    exec (.portReset p w) s = .next (s.resetPort p) := by
  show Host.Outcome.next (if s.inReset || !w.getLsbD 0 then s else s.resetPort p) = _
  rw [high, bit]
  rfl

theorem exec_portReset_ignored (h : s.inReset = true ∨ w.getLsbD 0 = false) :
    exec (.portReset p w) s = .next s := by
  show Host.Outcome.next (if s.inReset || !w.getLsbD 0 then s else s.resetPort p) = _
  obtain h | h := h <;> rw [h]
  · rfl
  · rw [Bool.not_false, Bool.or_true]
    rfl

/-! What a word at REQUEST does, by what it makes of the words before it -/

theorem State.requestWrite_overrun (h : (s.port p).framed w = .overrun) : s.requestWrite p w k = s.record p .overrun := by
  unfold State.requestWrite
  rw [h]

theorem State.requestWrite_collecting {head : Word} {stored : List Word} {left : Nat}
    (h : (s.port p).framed w = .collecting head stored left) :
    s.requestWrite p w k = s.setPortState p (.collecting head stored left) := by
  unfold State.requestWrite
  rw [h]

theorem State.requestWrite_refused {head : Word} {ops : List Word} {a : Answer}
    (h : (s.port p).framed w = .complete head ops) (check : s.portCheck p head = .error a) :
    s.requestWrite p w k = s.refuseAt p a := by
  unfold State.requestWrite
  rw [h]
  dsimp only
  rw [check]

theorem State.requestWrite_handed {head : Word} {ops : List Word} {r : Request}
    (h : (s.port p).framed w = .complete head ops) (check : s.portCheck p head = .ok r) :
    s.requestWrite p w k = s.hand p r (engineOf p r) ops k := by
  unfold State.requestWrite
  rw [h]
  dsimp only
  rw [check]

/-! What a word at REQUEST makes of the words before it (R162) -/

theorem Port.framed_of_free {v : Port} (free : v.state = .idle ∨ ∃ ws, v.state = .reply ws) :
    v.framed w = Framing.start w := by
  unfold Port.framed
  obtain h | ⟨ws, h⟩ := free <;> rw [h]

theorem Port.framed_of_collecting {v : Port} {head : Word} {stored : List Word} {left : Nat}
    (h : v.state = .collecting head stored left) : v.framed w = Framing.take head stored left w := by
  unfold Port.framed
  rw [h]

theorem Port.framed_of_working {v : Port} {stage : Stage} {discard : Bool} (h : v.state = .working stage discard) :
    v.framed w = .overrun := by
  unfold Port.framed
  rw [h]

end WriteCycles

/-- Settles O3, location by location and, at REQUEST, by the state of the port. -/
theorem registerWriteByLocation : Obligations.RegisterWriteByLocation := by
  intro s p w k
  have plain (loc : Fin 8) (quiet : s.inReset = false → exec (.registerWrite p loc w k) s = .next s) :
      exec (.registerWrite p loc w k) s = .next s := by
    cases level : s.inReset with
    | false => exact quiet level
    | true => exact exec_registerWrite_low level loc
  refine ⟨plain 1 fun high => exec_registerWrite_high high 1, plain 2 fun high => exec_registerWrite_high high 2,
    plain 7 fun high => exec_registerWrite_high high 7, fun clear => plain 6 fun high => ?_,
    fun low loc => exec_registerWrite_low low loc, rfl, rfl, rfl, ?_, fun high => ⟨fun free operands => ?_,
      fun head stored left h more => ?_, fun stage discard h => ?_⟩⟩
  · rw [exec_registerWrite_high high 6]
    exact congrArg _ (if_neg (Bool.eq_false_iff.mp clear))
  · cases level : s.inReset with
    | true => rw [exec_registerWrite_low level, exec_portReset_ignored (.inl level)]
    | false =>
      rw [exec_registerWrite_high level 6]
      cases bit : w.getLsbD 0 with
      | true => rw [exec_portReset level bit]; rfl
      | false => rw [exec_portReset_ignored (.inr bit)]; rfl
  · rw [exec_requestWrite high, State.requestWrite_collecting (s := s)]
    rw [Port.framed_of_free free]
    exact if_neg operands
  · rw [exec_requestWrite high, State.requestWrite_collecting (s := s)]
    rw [Port.framed_of_collecting h]
    exact if_neg (by omega)
  · rw [exec_requestWrite high, State.requestWrite_overrun (Port.framed_of_working h)]
    rfl

/-! ### Requests -/

theorem Request.ofCode_code (r : Request) : Request.ofCode r.code = some r := by cases r <;> rfl

theorem Request.ofCode_iff {n : Nat} {r : Request} : Request.ofCode n = some r ↔ n = r.code := by
  refine ⟨fun h => ?_, fun h => h ▸ Request.ofCode_code r⟩
  have found := List.find?_some h
  exact (beq_iff_eq.mp found).symm

theorem requestOf_iff {head : Word} {r : Request} : requestOf head = some r ↔ (head.extractLsb' 8 8).toNat = r.code :=
  Request.ofCode_iff

section Requests

variable {s : State} {p : PortId} {w head last : Word} {r : Request} {ops : List Word}

theorem State.portCheck_of_held (held : (s.port p).held = true) : s.portCheck p head = .error .held := if_pos held

theorem State.portCheck_of_malformed (free : (s.port p).held = false)
    (bad : requestOf head = none ∨ 11 < (loByte head).toNat) : s.portCheck p head = .error .malformed := by
  unfold State.portCheck
  rw [free, if_neg Bool.false_ne_true]
  split
  · rfl
  next r found =>
    obtain bad | bad := bad
    · rw [found] at bad
      cases bad
    · exact if_pos bad

theorem State.portCheck_of_permits (free : (s.port p).held = false) (found : requestOf head = some r)
    (count : (loByte head).toNat ≤ 11) :
    s.portCheck p head = if r.permits p then .ok r else .error .notPermitted := by
  unfold State.portCheck
  rw [free, if_neg Bool.false_ne_true, found]
  exact if_neg (Nat.not_lt.mpr count)

theorem State.portCheck_ok (free : (s.port p).held = false) (found : requestOf head = some r)
    (count : (loByte head).toNat ≤ 11) (permits : r.permits p = true) : s.portCheck p head = .ok r :=
  (State.portCheck_of_permits free found count).trans (if_pos permits)

/-- The checks look at the error words of the port alone. -/
@[simp] theorem State.portCheck_setPortState (x : PortState) : (s.setPortState p x).portCheck p head = s.portCheck p head := by
  unfold State.portCheck State.setPortState Port.held
  rw [State.port_setPort_self]

@[simp] theorem State.state_setPortState (s : State) (p : PortId) (x : PortState) : ((s.setPortState p x).port p).state = x := by
  unfold State.setPortState
  rw [State.port_setPort_self]

@[simp] theorem State.setPortState_setPortState (s : State) (p : PortId) (x y : PortState) :
    (s.setPortState p x).setPortState p y = s.setPortState p y := by
  unfold State.setPortState
  rw [State.port_setPort_self, State.setPort_setPort]

@[simp] theorem State.inReset_setPortState (s : State) (p : PortId) (x : PortState) :
    (s.setPortState p x).inReset = s.inReset := rfl

theorem State.busWrite_request (high : s.inReset = false) (k : Taking) : s.busWrite p 0 w k = s.requestWrite p w k := by
  unfold State.busWrite
  rw [high]
  rfl

/-- The operands but the last are collected one after another (R162). -/
theorem State.writes_collecting (high : s.inReset = false) (ws stored : List Word) (left : Nat) (more : 1 ≤ left)
    (fits : stored.length + ws.length ≤ 11) :
    State.writes p ws (s.setPortState p (.collecting head stored (ws.length + left))) =
      s.setPortState p (.collecting head (stored ++ ws) left) := by
  induction ws generalizing stored with
  | nil => simp [State.writes]
  | cons v ws ih =>
    have fits' : stored.length + (ws.length + 1) ≤ 11 := fits
    have written : (s.setPortState p (.collecting head stored ((v :: ws).length + left))).requestWrite p v .now =
        s.setPortState p (.collecting head (stored ++ [v]) (ws.length + left)) := by
      rw [State.requestWrite_collecting (head := head) (stored := stored ++ [v]) (left := ws.length + left)]
      · simp
      · rw [Port.framed_of_collecting (State.state_setPortState _ _ _)]
        unfold Framing.take
        rw [if_neg (by simp; omega), if_pos (show stored.length < Config.storedOperands by
          show stored.length < 11; omega)]
        congr 1
        simp
    unfold State.writes
    rw [State.busWrite_request (by simpa using high), written, ih (stored ++ [v]) (by simp; omega)]
    simp

/-- The word that completes a request and passes the checks, at a port that holds the words before it. -/
theorem State.receives_of (high : s.inReset = false) (framed : (s.port p).framed w = .complete head ops)
    (check : s.portCheck p head = .ok r) : s.receives p w r ops := ⟨high, head, framed, check⟩

theorem State.receives_head (high : s.inReset = false) (idle : (s.port p).state = .idle)
    (check : s.portCheck p head = .ok r) (zero : loByte head = 0) : s.receives p head r [] := by
  refine State.receives_of high ?_ check
  rw [Port.framed_of_free (.inl idle)]
  exact if_pos zero

theorem State.receives_last (high : s.inReset = false) (check : s.portCheck p head = .ok r) (fits : ops.length < 11) :
    (s.setPortState p (.collecting head ops 1)).receives p last r (ops ++ [last]) := by
  refine State.receives_of high ?_ (by simpa using check)
  rw [Port.framed_of_collecting (State.state_setPortState _ _ _)]
  unfold Framing.take
  rw [if_pos (show ops.length < Config.storedOperands from fits)]
  rfl

theorem exec_row_of_receives (h : s.receives p w r ops) (k : Taking) :
    exec (r.row p w k) s = .next (s.hand p r (engineOf p r) ops k) := by
  rw [Request.exec_row]
  cases k with
  | now => rw [State.requestRow_now h]; rfl
  | later => rw [State.requestRow_later h]; rfl

theorem exec_registerWrite_of_receives (h : s.receives p w r ops) (k : Taking) :
    exec (.registerWrite p 0 w k) s = exec (r.row p w k) s := by
  obtain ⟨high, head, framed, check⟩ := h
  rw [exec_row_of_receives ⟨high, head, framed, check⟩, exec_requestWrite high, State.requestWrite_handed framed check]

theorem State.takeHanded_of_handed {discard : Bool} (h : (s.port p).state = .working (.handed r ops) discard) :
    s.takeHanded p = s.takeRequest p (engineOf p r) ops discard := by
  unfold State.takeHanded
  rw [h]

theorem State.takeHanded_of_taken {words : List Word} {discard : Bool}
    (h : (s.port p).state = .working (.taken words) discard) : s.takeHanded p = s := by
  unfold State.takeHanded
  rw [h]

theorem State.state_takeRequest (s : State) (p : PortId) (e : Engine) (ops : List Word) (discard : Bool) :
    ((s.takeRequest p e ops discard).port p).state =
      .working (.taken (replyWords (e ops s).answer (e ops s).words)) discard := State.state_setPortState _ _ _

end Requests

/-- Settles O4: the words before the last are collected one by one, the last one completes the request, and the engine
takes it at once or when it completes it. -/
theorem requestsReachTheirEngines : Obligations.RequestsReachTheirEngines := by
  refine ⟨fun _ _ => requestOf_iff, rfl, fun s p r head high idle free found permits => ⟨fun zero => ?_,
    fun ops last fits count => ⟨?_, ?_⟩⟩, fun s p w r ops h => ⟨exec_row_of_receives h .later,
    exec_registerWrite_of_receives h, exec_row_of_receives h .now, fun u discard handed => ?_⟩⟩
  · exact State.receives_head high idle (State.portCheck_ok free found (by rw [zero]; decide) permits) zero
  · unfold State.writes
    rw [State.busWrite_request high, State.requestWrite_collecting (head := head) (stored := []) (left := ops.length + 1)]
    · exact State.writes_collecting high ops [] 1 le_rfl (by simp; omega)
    · rw [Port.framed_of_free (.inl idle)]
      unfold Framing.start
      rw [if_neg (fun zero => by rw [zero] at count; simp at count), count]
  · exact State.receives_last high (State.portCheck_ok free found (by omega) permits) fits
  · show Host.Outcome.next ((u.takeHanded p).finish p) = .next _
    rw [State.takeHanded_of_handed handed]
    show _ = Host.Outcome.next _
    rw [State.takeHanded_of_taken (State.state_takeRequest ..)]

end Sys2Proof.Machine
end

section
/-! The port unit's refusals, read cycles, the settings of the error words, port resets and the completion of a request
(R161 to R171, R182). -/

namespace Sys2Proof.Machine

/-! ### Refusals of the port unit -/

/-- The ports of each request, row by row of the code table (R172). -/
theorem Request.permits_table (r : Request) :
    (r.permits .feed = true ↔ r ∈ [Request.tradeReport, .quoteReport, .sequenceReset] ∨
      r ∈ [Request.readInstrument, .findSymbol]) ∧
    (r.permits .terminal = true ↔ r ∈ [Request.setLocalTable, .openPage, .writePageLine, .readChangedLine, .readLine,
      .setNoticeMask, .takeNotice] ∨ r ∈ [Request.readInstrument, .findSymbol] ∨ r = .closePage) ∧
    (r.permits .supervisor = true ↔ r ∉ [Request.tradeReport, .quoteReport, .sequenceReset] ∧
      r ∉ [Request.setLocalTable, .openPage, .writePageLine, .readChangedLine, .readLine, .setNoticeMask, .takeNotice]) := by
  cases r <;> decide

theorem exec_registerWrite_refused {s : State} {p : PortId} {w head : Word} {k : Taking} {ops : List Word} {a : Answer}
    (high : s.inReset = false) (framed : (s.port p).framed w = .complete head ops) (check : s.portCheck p head = .error a) :
    exec (.registerWrite p 0 w k) s = .next (s.refuseAt p a) := by
  rw [exec_requestWrite high, State.requestWrite_refused framed check]

/-- Settles O5: the first check that fails gives the answer. -/
theorem portUnitRefusals : Obligations.PortUnitRefusals := by
  refine ⟨Request.permits_table, fun s p w head k ops high framed => ⟨fun held => ?_, fun free bad => ?_,
    fun r free found count forbids => ?_, fun unlisted => ?_⟩⟩
  · exact exec_registerWrite_refused high framed (State.portCheck_of_held held)
  · exact exec_registerWrite_refused high framed (State.portCheck_of_malformed free bad)
  · refine exec_registerWrite_refused (a := .notPermitted) high framed ((State.portCheck_of_permits free found count).trans ?_)
    rw [forbids]
    rfl
  · show Host.Outcome.next _ = _
    rw [high, framed]
    dsimp only
    rw [unlisted]
    cases held : (s.port p).held with
    | true => exact (exec_registerWrite_refused high framed (State.portCheck_of_held held)).symm
    | false => exact (exec_registerWrite_refused high framed (State.portCheck_of_malformed held (.inl unlisted))).symm

/-! ### Read cycles -/

section ReadCycles

variable {s : State} {p : PortId}

theorem exec_replyRead (loc : Fin 8) : exec (.replyRead p loc) s = .next (s.setPort p { s.port p with
    dataOut := s.readWord p loc
    state := if loc = 1 && !s.inReset then (s.port p).state.afterReply else (s.port p).state }) := rfl

theorem State.readWord_low (low : s.inReset = true) (loc : Fin 8) : s.readWord p loc = 0xFFFF := if_pos low

/-! The STATUS word (R171) -/

theorem PortState.code_le (x : PortState) : x.code ≤ 3 := by cases x <;> simp [PortState.code]

theorem bit_le (n : Nat) (b : Bool) : bit n b ≤ n := by cases b <;> simp [bit]

theorem getLsbD_word (n k : Nat) : (word n).getLsbD k = (decide (k < 16) && decide (n / 2 ^ k % 2 = 1)) := by
  unfold word
  rw [BitVec.getLsbD_ofNat, Nat.testBit_eq_decide_div_mod_eq]

theorem extractLsb'_word (n i w : Nat) : ((word n).extractLsb' i w).toNat = n % 65536 / 2 ^ i % 2 ^ w := by
  unfold word
  rw [BitVec.extractLsb'_toNat, BitVec.toNat_ofNat, Nat.shiftRight_eq_div_pow]

variable (s p)

theorem State.statusWord_held : (s.statusWord p).getLsbD 2 = (s.port p).held := by
  have code := (s.port p).state.code_le
  unfold State.statusWord
  rw [getLsbD_word]
  cases (s.port p).held <;> cases s.attention p <;> simp [bit] <;> omega

theorem State.statusWord_attention : (s.statusWord p).getLsbD 3 = s.attention p := by
  have code := (s.port p).state.code_le
  unfold State.statusWord
  rw [getLsbD_word]
  cases (s.port p).held <;> cases s.attention p <;> simp [bit] <;> omega

theorem State.statusWord_state : ((s.statusWord p).extractLsb' 0 2).toNat = (s.port p).state.code := by
  have code := (s.port p).state.code_le
  unfold State.statusWord
  rw [extractLsb'_word]
  cases (s.port p).held <;> cases s.attention p <;> simp [bit] <;> omega

variable {s p}

theorem State.statusWord_remaining (short : (s.port p).state.remaining ≤ 24) :
    ((s.statusWord p).extractLsb' 8 5).toNat = (s.port p).state.remaining := by
  have code := (s.port p).state.code_le
  have held := bit_le 4 (s.port p).held
  have calls := bit_le 8 (s.attention p)
  unfold State.statusWord
  rw [extractLsb'_word]
  omega

theorem State.statusWord_unnamed (short : (s.port p).state.remaining ≤ 24) {k : Nat} (hk : 4 ≤ k)
    (unnamed : k < 8 ∨ 13 ≤ k) : (s.statusWord p).getLsbD k = false := by
  have code := (s.port p).state.code_le
  have held := bit_le 4 (s.port p).held
  have calls := bit_le 8 (s.attention p)
  unfold State.statusWord
  rw [getLsbD_word]
  obtain small | large := unnamed
  · have : k = 4 ∨ k = 5 ∨ k = 6 ∨ k = 7 := by omega
    obtain rfl | rfl | rfl | rfl := this <;> simp <;> omega
  · have below : 2 ^ 13 ≤ 2 ^ k := Nat.pow_le_pow_right (by decide) large
    rw [Nat.div_eq_of_lt (by omega)]
    simp

theorem PortState.remaining_le {x : PortState} (h : ∀ ws, x = .reply ws → ws.length ≤ 24) : x.remaining ≤ 24 := by
  cases x with
  | reply ws => exact h ws rfl
  | _ => exact Nat.zero_le _

theorem PortState.remaining_eq_zero {x : PortState} (h : ∀ ws, x ≠ .reply ws) : x.remaining = 0 := by
  cases x with
  | reply ws => exact absurd rfl (h ws)
  | _ => rfl

theorem State.readWord_reply {w : Word} {ws : List Word} (high : s.inReset = false)
    (reply : (s.port p).state = .reply (w :: ws)) : s.readWord p 1 = w := by
  unfold State.readWord
  simp [high, reply]

theorem State.readWord_reply_none (h : ∀ ws, (s.port p).state ≠ .reply ws) : s.readWord p 1 = 0xFFFF := by
  unfold State.readWord
  cases state : (s.port p).state with
  | reply ws => exact absurd state (h ws)
  | _ => cases s.inReset <;> simp

theorem PortState.afterReply_of_ne {x : PortState} (h : ∀ ws, x ≠ .reply ws) : x.afterReply = x := by
  cases x with
  | reply ws => exact absurd rfl (h ws)
  | _ => rfl

end ReadCycles

/-- Settles O6, location by location. -/
theorem readCycles : Obligations.ReadCycles := by
  refine ⟨fun s p high => ⟨fun w v ws reply => ?_, fun w reply => ?_, fun other => ?_⟩, fun s p loc => ⟨fun quiet => ?_,
    fun low => State.readWord_low low loc, fun high => ?_⟩⟩
  · rw [exec_replyRead, State.readWord_reply high reply, high, reply]
    rfl
  · rw [exec_replyRead, State.readWord_reply high reply, high, reply]
    rfl
  · rw [exec_replyRead, State.readWord_reply_none other, PortState.afterReply_of_ne other, ite_self]
  · rw [exec_replyRead, if_neg]
    obtain elsewhere | low := quiet
    · simp [elsewhere]
    · simp [low]
  · refine ⟨if_neg (by simp [high]), if_neg (by simp [high]), if_neg (by simp [high]), if_neg (by simp [high]),
      if_neg (by simp [high]), if_neg (by simp [high]), ?_⟩
    have status : s.readWord p 2 = s.statusWord p := if_neg (by simp [high])
    rw [status]
    refine ⟨s.statusWord_held p, s.statusWord_attention p, ?_, fun short k hk unnamed => ?_, fun ws reply short => ?_,
      fun other => ?_⟩
    · rw [s.statusWord_state p]
      cases (s.port p).state <;> rfl
    · exact State.statusWord_unnamed (PortState.remaining_le short) hk unnamed
    · rw [State.statusWord_remaining] <;> rw [reply]
      · rfl
      · exact short
    · rw [State.statusWord_remaining] <;> rw [PortState.remaining_eq_zero other]
      exact Nat.zero_le _

/-! ### Mask, severity, HELD and the attention line -/

theorem Condition.getLsbD_word (c : Condition) (k : Nat) : c.word.getLsbD k = decide (k = c.position) := by
  have small : c.position < 16 := by cases c <;> decide
  unfold Condition.word
  rw [BitVec.getLsbD_shiftLeft, show (1 : Word) = 1#16 from rfl, BitVec.getLsbD_one, Bool.eq_iff_iff]
  simp
  omega

theorem PortId.getLsbD_feed (k : Nat) : PortId.feed.conditions.getLsbD k = true ↔ k < 7 := by
  show (BitVec.ofNat 16 (2 ^ 7 - 1)).getLsbD k = true ↔ _
  rw [BitVec.getLsbD_ofNat, Nat.testBit_two_pow_sub_one]
  simp
  omega

theorem PortId.getLsbD_supervisor (k : Nat) : PortId.supervisor.conditions.getLsbD k = true ↔ k < 4 := by
  show (BitVec.ofNat 16 (2 ^ 4 - 1)).getLsbD k = true ↔ _
  rw [BitVec.getLsbD_ofNat, Nat.testBit_two_pow_sub_one]
  simp
  omega

theorem PortId.getLsbD_terminal (k : Nat) : PortId.terminal.conditions.getLsbD k = true ↔ k < 3 := by
  show (BitVec.ofNat 16 (2 ^ 3 - 1)).getLsbD k = true ↔ _
  rw [BitVec.getLsbD_ofNat, Nat.testBit_two_pow_sub_one]
  simp
  omega

theorem Port.calls_iff {v : Port} : v.calls = true ↔ ∃ k, v.status.getLsbD k = true ∧ v.mask.getLsbD k = false := by
  rw [← Bool.not_eq_false, Port.calls_eq_false_iff]
  simp

theorem Port.held_iff {v : Port} : v.held = true ↔
    ∃ k, v.status.getLsbD k = true ∧ v.mask.getLsbD k = false ∧ v.severity.getLsbD k = true := by
  rw [← Bool.not_eq_false, Port.held_eq_false_iff]
  simp [and_comm]

/-- Settles O8. -/
theorem maskAndSeverityWrites : Obligations.MaskAndSeverityWrites := by
  refine ⟨⟨rfl, rfl, rfl, PortId.getLsbD_feed, PortId.getLsbD_supervisor, PortId.getLsbD_terminal⟩,
    fun s p c => ⟨(s.port p).status ||| c.word, rfl, fun k => ?_⟩, fun s p high => ?_, fun s p w high => ⟨?_, ?_,
    Port.held_iff⟩⟩
  · rw [BitVec.getLsbD_or, Condition.getLsbD_word]
  · unfold State.attention
    rw [← Port.calls_iff]
    simp [high]
  · show Host.Outcome.next (if s.inReset then s else s.setMaskWord p w) = _
    rw [high]
    rfl
  · show Host.Outcome.next (if s.inReset then s else s.setSeverityWord p w) = _
    rw [high]
    rfl

/-! ### Port resets -/

theorem PortState.reset_of_not_working {x : PortState} (h : ∀ stage discard, x ≠ .working stage discard) :
    x.reset = .idle ∧ x.isWorking = false := by
  cases x with
  | working stage discard => exact absurd rfl (h stage discard)
  | _ => exact ⟨rfl, rfl⟩

section PortReset

variable {s : State}

theorem State.resetPort_feed_working {stage : Stage} {discard : Bool} (h : (s.port .feed).state = .working stage discard) :
    s.resetPort .feed = s.setPort .feed { s.port .feed with state := .working stage true, status := 0 } := by
  unfold State.resetPort
  dsimp only
  rw [h]
  rfl

theorem State.resetPort_feed_other (h : ∀ stage discard, (s.port .feed).state ≠ .working stage discard) :
    s.resetPort .feed = (s.setPort .feed { s.port .feed with state := .idle, status := 0 }).setExpectation none := by
  obtain ⟨idle, free⟩ := PortState.reset_of_not_working h
  unfold State.resetPort
  dsimp only
  rw [idle, free]
  rfl

theorem State.resetPort_supervisor_working {stage : Stage} {discard : Bool}
    (h : (s.port .supervisor).state = .working stage discard) : s.resetPort .supervisor =
      s.setPort .supervisor { s.port .supervisor with state := .working stage true, status := 0 } := by
  unfold State.resetPort
  dsimp only
  rw [h]
  rfl

theorem State.resetPort_supervisor_other (h : ∀ stage discard, (s.port .supervisor).state ≠ .working stage discard) :
    s.resetPort .supervisor =
      (s.setPort .supervisor { s.port .supervisor with state := .idle, status := 0 }).setTextBuffer none := by
  obtain ⟨idle, free⟩ := PortState.reset_of_not_working h
  unfold State.resetPort
  dsimp only
  rw [idle, free]
  rfl

theorem State.instr_closeTerminals (wf : Table.wf Instrument.vacant s.quote.instruments = true) (i : Nat) :
    s.closeTerminals.instr i = { s.instr i with viewers := [] } :=
  Table.get_mapValues Instrument.vacant (fun v => { v with viewers := [] }) rfl wf i

end PortReset

/-- Settles O9. -/
theorem portResets : Obligations.PortResets := by
  refine ⟨fun s w high bit => ⟨fun stage discard working => ?_, fun other => ?_, fun stage discard working => ?_,
    fun other => ?_⟩, fun s w high bit wf => ⟨s.resetPort .terminal, exec_portReset high bit, rfl, rfl, rfl, ?_, rfl, rfl, rfl,
    fun n => rfl, fun i => ?_, rfl, rfl, rfl, rfl, rfl, rfl, rfl, rfl, rfl, rfl, high⟩⟩
  · rw [exec_portReset high bit, State.resetPort_feed_working working]
  · rw [exec_portReset high bit, State.resetPort_feed_other other]
  · rw [exec_portReset high bit, State.resetPort_supervisor_working working]
  · rw [exec_portReset high bit, State.resetPort_supervisor_other other]
  · show (s.port .terminal).state.reset = _
    cases (s.port .terminal).state <;> rfl
  · exact State.instr_closeTerminals (s := s.setPort .terminal _) wf i

/-! ### Completion -/

/-- Settles O10. -/
theorem requestCompletion : Obligations.RequestCompletion := by
  intro s p words discard
  refine ⟨fun taken rolled => ?_, fun taken supervisor rolling => ?_, fun free => ?_⟩
  · have done : exec (.requestComplete p) s = .next (s.completeWith p words discard) := by
      show Host.Outcome.next ((s.takeHanded p).finish p) = _
      rw [State.takeHanded_of_taken taken]
      unfold State.finish
      rw [if_neg, taken]
      simp only [State.rollsOn, Bool.and_eq_true, decide_eq_true_eq, Bool.not_eq_true', not_and, Bool.not_eq_false]
      intro h
      rw [rolled h]
      rfl
    rw [done]
    refine ⟨?_, ?_, ?_, ?_⟩
    · rintro rfl; rfl
    · rintro rfl rfl; rfl
    · rintro rfl rfl; rfl
    · rintro rfl rfl; rfl
  · show Host.Outcome.next ((s.takeHanded p).finish p) = _
    rw [State.takeHanded_of_taken taken]
    unfold State.finish
    rw [if_pos]
    unfold State.rollsOn
    cases list : s.quote.rolling with
    | nil => exact absurd list rolling
    | cons => simp [supervisor]
  · show Host.Outcome.next ((s.takeHanded p).finish p) = _
    unfold State.finish State.takeHanded
    cases state : (s.port p).state with
    | working stage d => exact absurd state (free stage d)
    | _ => simp [state]

/-! ### Outcomes other than DONE -/

/-- What the engine of a request that is no report leaves where it does not answer DONE: all of the state, but for the
RANK that WRITE PAGE LINE records. -/
def Engine.Refuses (e : Engine) : Prop := ∀ ops s, (e ops s).answer ≠ .done → (e ops s).state = s

section Refuses

theorem Engine.Refuses.checked {check : List Word → State → Option Answer} {act : Engine} (h : act.Refuses) :
    (checked check act).Refuses := by
  intro ops s
  unfold Machine.checked
  split
  · exact fun _ => rfl
  · exact h ops s

theorem Engine.Refuses.liveOnly {body : Engine} (h : body.Refuses) : (liveOnly body).Refuses := by
  intro ops s
  unfold Machine.liveOnly
  split
  · exact fun _ => rfl
  · exact h ops s

/-- An engine that refuses, or answers DONE. -/
theorem Engine.Refuses.of_cases {e : Engine} (h : ∀ ops s, (e ops s).answer = .done ∨ (e ops s).state = s) : e.Refuses :=
  fun ops s other => (h ops s).resolve_left other

end Refuses

theorem refuses_readChangedLine : readChangedLineEngine.Refuses := by
  refine .liveOnly (.checked (.of_cases fun ops s => ?_))
  have taken (t : State) : (∃ ws u, t.takeLine (operand ops 0) = some (doneWith ws u)) ∨ t.takeLine (operand ops 0) = none := by
    unfold State.takeLine
    split
    · exact .inr rfl
    · split
      · exact .inr rfl
      · exact .inl ⟨_, _, rfl⟩
  unfold State.readChanged
  obtain ⟨ws, u, h⟩ | h := taken (if s.readOvertakes (operand ops 0) then s.pagesCaughtUp else s)
  · rw [h]; exact .inl rfl
  · rw [h]; exact .inr rfl

/-- Every engine but those of the reports and of WRITE PAGE LINE: it refuses with the state it was given, or answers
DONE. -/
theorem refuses_engineOf (p : PortId) {r : Request} (report : r ≠ .tradeReport ∧ r ≠ .quoteReport)
    (line : r ≠ .writePageLine) : (engineOf p r).Refuses := by
  cases r
  case tradeReport => exact absurd rfl report.1
  case quoteReport => exact absurd rfl report.2
  case writePageLine => exact absurd rfl line
  case readChangedLine => exact refuses_readChangedLine
  case sequenceReset | readInstrument | defineInstrument | modifyInstrument | removeInstrument | halt | definePanel |
      removePanel | defineCell | removeCell | moduleRestart | lampTestStart | readLink | ribbonRate | readRibbon |
      writeDescriptor | writeLine | setTime =>
    exact .checked (.of_cases fun _ _ => .inl rfl)
  case setLocalTable | setNoticeMask => exact .liveOnly (.checked (.of_cases fun _ _ => .inl rfl))
  case cancelPrint => exact .checked (.of_cases fun ops s => by dsimp only; split <;> exact .inl rfl)
  case correctPrint => exact .checked (.of_cases fun ops s => by dsimp only; split <;> exact .inl rfl)
  case resume => exact .checked (.of_cases fun ops s => by dsimp only; split <;> exact .inl rfl)
  case setFastMarket | clearFastMarket => exact .checked (.of_cases fun ops s => by dsimp only; split <;> exact .inl rfl)
  case panelDark | panelLight => exact .checked (.of_cases fun ops s => by split <;> exact .inl rfl)
  case lampTestStop => exact .checked (.of_cases fun ops s => by dsimp only; split <;> exact .inl rfl)
  case ribbonRestart => exact .checked (.of_cases fun ops s => by dsimp only; split <;> exact .inl rfl)
  case configure => exact .checked (.of_cases fun ops s => by split <;> exact .inl rfl)
  case tapeText =>
    refine .checked (.of_cases fun ops s => ?_)
    dsimp only
    split
    · exact .inl rfl
    · exact .inl rfl
    · split <;> exact .inl rfl
  case closePage =>
    have body : closePageBody.Refuses := .checked (.of_cases fun _ _ => .inl rfl)
    show (closePageEngine p).Refuses
    unfold closePageEngine
    split
    · exact .liveOnly body
    · exact body
  case readLine =>
    refine .liveOnly (.checked (.of_cases fun ops s => ?_))
    split
    · exact .inr rfl
    · split
      · exact .inr rfl
      · exact .inl rfl
  case takeNotice =>
    refine .liveOnly (.checked (.of_cases fun ops s => ?_))
    unfold State.takeHead
    split
    · exact .inr rfl
    · exact .inl rfl
  case openPage =>
    refine .liveOnly (.of_cases fun ops s => ?_)
    split
    · exact .inr rfl
    split
    · exact .inl rfl
    · exact .inr rfl
    · exact .inr rfl
  all_goals
    refine .of_cases fun ops s => ?_
    simp only [engineOf, findSymbolEngine, openSessionEngine, closeSessionEngine, rollSessionEngine, goLiveEngine,
      goConfigEngine]
    repeat' split
    all_goals simp [refuse, done, doneWith]

theorem refuses_writePageLine (ops : List Word) (s : State) (other : (writePageLineEngine ops s).answer ≠ .done) :
    (writePageLineEngine ops s).state = s ∨
      (writePageLineEngine ops s).answer = .rank ∧ (writePageLineEngine ops s).state = s.record .terminal .rank := by
  generalize answered : writePageLineEngine ops s = x at *
  unfold writePageLineEngine liveOnly at answered
  split at answered
  · exact .inl (answered ▸ rfl)
  dsimp only at answered
  split at answered
  · exact .inl (answered ▸ rfl)
  split at answered
  next =>
    split at answered
    next => exact .inr (answered ▸ ⟨rfl, rfl⟩)
    next => exact .inl (answered ▸ rfl)
    next => exact absurd (answered ▸ rfl) other
  next => exact .inl (answered ▸ rfl)
  next => exact .inl (answered ▸ rfl)

/-- A recording at a port moves its error status alone. -/
theorem State.recordSome_eq (p : PortId) (c : Option Condition) (s : State) :
    ∃ status, s.recordSome p c = s.setPort p { s.port p with status := status } := by
  cases c with
  | none => exact ⟨(s.port p).status, (s.setPort_port p).symm⟩
  | some c => exact ⟨_, rfl⟩

theorem State.recordSome_twice (p : PortId) (c d : Option Condition) (s : State) :
    ∃ status, (s.recordSome p c).recordSome p d = s.setPort p { s.port p with status := status } := by
  obtain ⟨x, hx⟩ := s.recordSome_eq p c
  obtain ⟨y, hy⟩ := (s.recordSome p c).recordSome_eq p d
  refine ⟨y, hy.trans ?_⟩
  rw [hx, State.port_setPort_self, State.setPort_setPort]

/-- What a report leaves whose body refuses (R43, R48). -/
theorem refuses_reportEngine {body : Engine} (h : body.Refuses) (ops : List Word) (s : State)
    (other : (reportEngine body ops s).answer ≠ .done) : (reportEngine body ops s).state = s ∨
      ∃ e status, (reportEngine body ops s).state =
        (s.setExpectation e).setPort .feed { s.port .feed with status := status } := by
  have after (c : SequenceClass) (n : Nat) (refused : (afterReport c n (body ops s)).answer ≠ .done) :
      (afterReport c n (body ops s)).state = s ∨ ∃ e status, (afterReport c n (body ops s)).state =
        (s.setExpectation e).setPort .feed { s.port .feed with status := status } := by
    have bodyRefused : (body ops s).answer ≠ .done := by
      unfold afterReport at refused
      split at refused <;> exact refused
    have still := h ops s bodyRefused
    unfold afterReport
    split
    · exact .inl still
    · dsimp only
      rw [still]
      exact .inr ⟨some (successor n), State.recordSome_twice .feed _ _ (s.setExpectation _)⟩
  unfold reportEngine at *
  split
  · exact .inl rfl
  split
  · exact .inl rfl
  split
  · exact .inl rfl
  next => exact after _ _ (by simpa [*] using other)
  next => exact after _ _ (by simpa [*] using other)

/-- Settles O12. -/
theorem refusalsChangeNothing : Obligations.RefusalsChangeNothing := by
  intro p r ops s x other
  by_cases report : r = .tradeReport ∨ r = .quoteReport
  · have body : ∃ body : Engine, engineOf p r = reportEngine body ∧ body.Refuses := by
      obtain rfl | rfl := report
      · exact ⟨_, rfl, .checked (.of_cases fun _ _ => .inl rfl)⟩
      · exact ⟨_, rfl, .checked (.of_cases fun _ _ => .inl rfl)⟩
    obtain ⟨body, isReport, refuses⟩ := body
    have left := refuses_reportEngine refuses ops s (isReport ▸ other)
    rw [← isReport] at left
    exact left.imp id fun h => .inl ⟨report, h⟩
  by_cases line : r = .writePageLine
  · subst line
    exact (refuses_writePageLine ops s other).imp id fun h => .inr ⟨rfl, h⟩
  · exact .inl (refuses_engineOf p (not_or.mp report) line ops s other)

end Sys2Proof.Machine
end

section
/-! How a request is answered: the engine's refusal by the first check that fails, or its action; and the rows of the
requests that look a record up (R11, R17, R162, R174). -/

namespace Sys2Proof.Machine

/-! ### Answers -/

section Answers

variable {check : List Word → State → Option Answer} {act : Engine} {ops : List Word} {s : State} {a : Answer}

theorem checked_of_some (h : check ops s = some a) : checked check act ops s = refuse a s := by
  unfold checked
  rw [h]

theorem checked_of_none (h : check ops s = none) : checked check act ops s = act ops s := by
  unfold checked
  rw [h]

@[simp] theorem firstRefusal_nil : firstRefusal [] = none := rfl

theorem firstRefusal_cons (b : Bool) (a : Answer) (l : List (Bool × Answer)) :
    firstRefusal ((b, a) :: l) = if b then some a else firstRefusal l := by
  cases b <;> rfl

/-- A check that passes leaves the outcome to those after it. -/
theorem firstRefusal_pass {b : Bool} {a : Answer} {l : List (Bool × Answer)} (passes : b = false) :
    firstRefusal ((b, a) :: l) = firstRefusal l := by
  rw [firstRefusal_cons, passes]
  rfl

/-- A check that fails gives the outcome. -/
theorem firstRefusal_fail {b : Bool} {a : Answer} {l : List (Bool × Answer)} (fails : b = true) :
    firstRefusal ((b, a) :: l) = some a := by
  rw [firstRefusal_cons, fails]
  rfl

variable {r : Request} {p : PortId} {w : Word} {t : State} {ws : List Word}

/-- A request that its engine refuses. -/
theorem Request.exec_refused (received : s.receives p w r ops) (h : engineOf p r ops s = refuse a s) :
    exec (r.row p w .now) s = .next (s.answered p a []) := Request.exec_row_now received h

/-- A request that its engine carries out. -/
theorem Request.exec_done (received : s.receives p w r ops) (h : engineOf p r ops s = doneWith ws t) :
    exec (r.row p w .now) s = .next (t.answered p .done ws) := Request.exec_row_now received h

/-- A request whose engine makes its checks first, refused by them. -/
theorem Request.exec_checked_refused (received : s.receives p w r ops) (e : engineOf p r = checked check act)
    (h : check ops s = some a) : exec (r.row p w .now) s = .next (s.answered p a []) :=
  Request.exec_refused received (e ▸ checked_of_some h)

/-- A request whose engine makes its checks first, passed by them. -/
theorem Request.exec_checked_done (received : s.receives p w r ops) (e : engineOf p r = checked check act)
    (h : check ops s = none) (acts : act ops s = doneWith ws t) :
    exec (r.row p w .now) s = .next (t.answered p .done ws) :=
  Request.exec_done received (e ▸ (checked_of_none h).trans acts)

end Answers

theorem badIndex_eq_false {ops : List Word} {i : Nat} : badIndex ops i = false ↔ operand ops i < 2048 := by
  unfold badIndex
  rw [decide_eq_false_iff_not]
  exact Nat.not_le

theorem badIndex_eq_true {ops : List Word} {i : Nat} : badIndex ops i = true ↔ ¬ operand ops i < 2048 := by
  rw [← badIndex_eq_false, Bool.not_eq_false]

/-! ### Bytes and words -/

theorem wordBytes_packBytes {bs : List Byte} (even : 2 ∣ bs.length) : wordBytes (packBytes bs) = bs := by
  induction bs using packBytes.induct with
  | case1 => rfl
  | case2 b => simp at even
  | case3 b c bs ih =>
    have : 2 ∣ bs.length := by simpa [Nat.add_assoc, Nat.dvd_add_self_right] using even
    simp [packBytes, wordBytes, ih this]

theorem two_mul_length_packBytes (bs : List Byte) : 2 * (packBytes bs).length = bs.length + bs.length % 2 := by
  induction bs using packBytes.induct with
  | case1 => rfl
  | case2 b => rfl
  | case3 b c bs ih =>
    simp only [packBytes, List.length_cons]
    omega

theorem bytesValue_append (bs : List Byte) (b : Byte) : bytesValue (bs ++ [b]) = 256 * bytesValue bs + b.toNat := by
  simp [bytesValue]

theorem bytesValue_cons (b : Byte) (bs : List Byte) :
    bytesValue (b :: bs) = b.toNat * 256 ^ bs.length + bytesValue bs := by
  induction bs using List.reverseRecOn with
  | nil => simp [bytesValue]
  | append_singleton bs c ih =>
    rw [← List.cons_append, bytesValue_append, bytesValue_append, ih]
    simp only [List.length_append, List.length_singleton]
    ring

@[simp] theorem length_numberBytes (k n : Nat) : (numberBytes k n).length = k := by
  induction k with
  | zero => rfl
  | succ k ih => simp [numberBytes, ih]

/-- The bytes of a number give it back, modulo what they hold (R174). -/
theorem bytesValue_numberBytes (k n : Nat) : bytesValue (numberBytes k n) = n % 256 ^ k := by
  induction k with
  | zero => simp [numberBytes, bytesValue, Nat.mod_one]
  | succ k ih =>
    unfold numberBytes
    have digits : n % 256 ^ (k + 1) = n % 256 ^ k + 256 ^ k * (n / 256 ^ k % 256) := Nat.mod_pow_succ
    rw [bytesValue_cons, ih, length_numberBytes, BitVec.toNat_ofNat, digits]
    ring

/-! ### READ INSTRUMENT -/

theorem readInstrumentCheck_eq (ops : List Word) (s : State) : readInstrumentCheck ops s =
    if ¬ (ops.length = 1 ∧ operand ops 0 < 2048) then some .malformed
    else if (s.instr (operand ops 0)).trading = .vacant then some .unknownInstrument else none := by
  unfold readInstrumentCheck
  simp only [firstRefusal_cons, firstRefusal_nil, Bool.or_eq_true, decide_eq_true_eq, badIndex_eq_true, State.named,
    isVacant_eq_true, not_and_or, ne_eq]

/-- The reply bytes of READ INSTRUMENT after the symbol (R174). -/
def Instrument.bytesAfterSymbol (v : Instrument) : List Byte :=
  [v.cls.getD 0, BitVec.ofNat 8 (tradingByte v.trading),
    BitVec.ofNat 8 (64 * v.denominator.code + 16 * v.ribbonSet.code + 4 * v.quoteCondition.code + bit 2 v.fast + bit 1 v.reversal),
    BitVec.ofNat 8 (bit 128 v.saturated + v.tick.code), BitVec.ofNat 8 (presenceByte v)]
    ++ priceBytes v.prevClose ++ priceBytes (v.opening.map (·.price)) ++ priceBytes v.high
    ++ priceBytes v.low ++ priceBytes (v.last.map (·.price)) ++ priceBytes v.bid ++ priceBytes v.ask
    ++ numberBytes 3 ((v.last.map (·.size)).getD 0) ++ numberBytes 4 v.volume
    ++ numberBytes 2 v.tradeCount ++ numberBytes 2 v.bidSize ++ numberBytes 2 v.askSize
    ++ numberBytes 2 v.nextNumber ++ [0]

theorem instrumentBytes_eq (v : Instrument) : instrumentBytes v =
    (v.symbol.getD [] ++ List.replicate (4 - (v.symbol.getD []).length) 0) ++ v.bytesAfterSymbol := by
  simp only [instrumentBytes, Instrument.bytesAfterSymbol, List.append_assoc]

@[simp] theorem length_bytesAfterSymbol (v : Instrument) : v.bytesAfterSymbol.length = 42 := by
  simp [Instrument.bytesAfterSymbol, priceBytes]

/-- The four bytes of a symbol in a reply or an operand. -/
theorem symbol_padded {l : Text} (short : l.length ≤ 4) :
    ∃ a b c d, l ++ List.replicate (4 - l.length) 0 = [a, b, c, d] ∧ (l ++ List.replicate 4 0).take 4 = [a, b, c, d] := by
  match l, short with
  | [], _ => exact ⟨_, _, _, _, rfl, rfl⟩
  | [_], _ => exact ⟨_, _, _, _, rfl, rfl⟩
  | [_, _], _ => exact ⟨_, _, _, _, rfl, rfl⟩
  | [_, _, _], _ => exact ⟨_, _, _, _, rfl, rfl⟩
  | [_, _, _, _], _ => exact ⟨_, _, _, _, rfl, rfl⟩

theorem bit_eq (n : Nat) (b : Bool) : bit n b = n * b.toNat := by cases b <;> simp [bit]

theorem presenceByte_eq (v : Instrument) : presenceByte v =
    64 * v.prevClose.isSome.toNat + 32 * v.opening.isSome.toNat + 16 * v.high.isSome.toNat + 8 * v.low.isSome.toNat
      + 4 * v.last.isSome.toNat + 2 * v.bid.isSome.toNat + v.ask.isSome.toNat := by
  simp only [presenceByte, bit_eq, one_mul]

/-- R174: where the bytes of the READ INSTRUMENT reply stand. -/
theorem instrumentReply (v : Instrument) (short : ∀ l, v.symbol = some l → l.length ≤ 4) :
    let ws := packBytes (instrumentBytes v)
    let b := wordBytes ws
    ws.length = 23 ∧ b.take 4 = (v.symbol.getD [] ++ List.replicate 4 0).take 4 ∧ b.drop 4 = v.bytesAfterSymbol := by
  have fits : (v.symbol.getD []).length ≤ 4 := by
    cases symbol : v.symbol with
    | none => exact Nat.zero_le 4
    | some l => exact short l symbol
  obtain ⟨a, b, c, d, padded, taken⟩ := symbol_padded fits
  have bytes : instrumentBytes v = a :: b :: c :: d :: v.bytesAfterSymbol := by rw [instrumentBytes_eq, padded]; rfl
  have unpacked : wordBytes (packBytes (instrumentBytes v)) = instrumentBytes v :=
    wordBytes_packBytes (by rw [bytes]; simp)
  refine ⟨?_, ?_, ?_⟩
  · have packed := two_mul_length_packBytes (instrumentBytes v)
    rw [bytes] at packed ⊢
    simp only [List.length_cons, length_bytesAfterSymbol] at packed
    omega
  · rw [unpacked, bytes, taken]
    simp only [List.take_succ_cons, List.take_zero]
  · rw [unpacked, bytes]
    simp only [List.drop_succ_cons, List.drop_zero]

/-- R174: the numbers of the reply, each where the table places it. -/
theorem numbers_bytesAfterSymbol (v : Instrument) :
    let at_ (i n : Nat) := bytesValue ((v.bytesAfterSymbol.drop i).take n)
    at_ 5 3 = v.prevClose.getD 0 % 16777216 ∧ at_ 8 3 = (v.opening.map (·.price)).getD 0 % 16777216 ∧
    at_ 11 3 = v.high.getD 0 % 16777216 ∧ at_ 14 3 = v.low.getD 0 % 16777216 ∧
    at_ 17 3 = (v.last.map (·.price)).getD 0 % 16777216 ∧ at_ 20 3 = v.bid.getD 0 % 16777216 ∧
    at_ 23 3 = v.ask.getD 0 % 16777216 ∧ at_ 26 3 = (v.last.map (·.size)).getD 0 % 16777216 ∧
    at_ 29 4 = v.volume % 4294967296 ∧ at_ 33 2 = v.tradeCount % 65536 ∧ at_ 35 2 = v.bidSize % 65536 ∧
    at_ 37 2 = v.askSize % 65536 ∧ at_ 39 2 = v.nextNumber % 65536 := by
  simp [Instrument.bytesAfterSymbol, priceBytes, List.drop_append, List.drop_eq_nil_of_le,
    bytesValue_numberBytes]

/-- R174: the single bytes of the reply, each where the table places it. -/
theorem bytes_bytesAfterSymbol (v : Instrument) :
    let at_ (i : Nat) := v.bytesAfterSymbol.getD i 0
    at_ 0 = v.cls.getD 0 ∧ at_ 1 = BitVec.ofNat 8 (tradingByte v.trading) ∧
    at_ 2 = BitVec.ofNat 8 (64 * v.denominator.code + 16 * v.ribbonSet.code + 4 * v.quoteCondition.code
      + 2 * v.fast.toNat + v.reversal.toNat) ∧
    at_ 3 = BitVec.ofNat 8 (128 * v.saturated.toNat + v.tick.code) ∧
    at_ 4 = BitVec.ofNat 8 (64 * v.prevClose.isSome.toNat + 32 * v.opening.isSome.toNat + 16 * v.high.isSome.toNat
      + 8 * v.low.isSome.toNat + 4 * v.last.isSome.toNat + 2 * v.bid.isSome.toNat + v.ask.isSome.toNat) ∧
    at_ 41 = 0 := by
  simp [Instrument.bytesAfterSymbol, priceBytes, numberBytes, bit_eq, presenceByte_eq]

/-- A place of the reply after the symbol. -/
theorem getD_of_drop {bs cs : List Byte} {n : Nat} (h : bs.drop n = cs) (k : Nat) {m : Nat} (at_ : n + k = m) :
    bs.getD m 0 = cs.getD k 0 := by
  simp only [← h, ← at_, List.getD_eq_getElem?_getD, List.getElem?_drop]

/-- A number of the reply after the symbol. -/
theorem bytesValue_of_drop {bs cs : List Byte} {n : Nat} (h : bs.drop n = cs) (k : Nat) {m c : Nat} (at_ : n + k = m) :
    bytesValue ((bs.drop m).take c) = bytesValue ((cs.drop k).take c) := by
  rw [← h, ← at_, List.drop_drop]

/-- The record that READ INSTRUMENT answers with, byte by byte (R17, R174). -/
theorem readInstrument_replies {s : State} {p : PortId} {w : Word} {ops : List Word}
    (received : s.receives p w .readInstrument ops) (one : ops.length = 1) (named : operand ops 0 < 2048)
    (present : (s.instr (operand ops 0)).trading ≠ .vacant) :
    exec (.readInstrument p w .now) s =
      .next (s.answered p .done (packBytes (instrumentBytes (s.instr (operand ops 0))))) :=
  Request.exec_checked_done received rfl
    (by rw [readInstrumentCheck_eq, if_neg (not_not.mpr ⟨one, named⟩), if_neg present]) rfl

/-! ### Symbols -/

theorem isLetter_iff {b : Byte} : isLetter b = true ↔ 0x41 ≤ b.toNat ∧ b.toNat ≤ 0x5A := by
  simp [isLetter, BitVec.le_def]

theorem ne_zero_of_isLetter {b : Byte} (h : isLetter b = true) : b ≠ 0 := by
  rintro rfl
  exact absurd h (by decide)

theorem takeWhile_letters {t : Text} (letters : ∀ b ∈ t, isLetter b = true) (n : Nat) :
    (t ++ List.replicate n 0).takeWhile (fun b => b != 0) = t := by
  rw [List.takeWhile_append_of_pos fun b hb => by simpa using ne_zero_of_isLetter (letters b hb)]
  cases n <;> simp [List.replicate_succ]

theorem eq_replicate_zero {l : List Byte} : l.all (fun b => b == 0) = true ↔ l = List.replicate l.length 0 := by
  rw [List.eq_replicate_iff, List.all_eq_true]
  simp only [true_and, beq_iff_eq]

/-- R11, R172: a symbol is its letters followed by 00h. -/
theorem symbolLetters_eq_some {bytes : List Byte} {t : Text} : symbolLetters bytes = some t ↔
    t ≠ [] ∧ (∀ b ∈ t, isLetter b = true) ∧ bytes = t ++ List.replicate (bytes.length - t.length) 0 := by
  unfold symbolLetters
  constructor
  · intro h
    dsimp only at h
    split at h
    · cases h
    · next formed =>
      simp only [Bool.or_eq_true, Bool.not_eq_true', not_or, Bool.not_eq_false] at formed
      obtain ⟨⟨nonempty, letters⟩, zeros⟩ := formed
      cases h
      refine ⟨by simpa using nonempty, List.all_eq_true.mp letters, ?_⟩
      rw [← List.length_drop, ← eq_replicate_zero.mp zeros]
      exact (List.prefix_iff_eq_append.mp (List.takeWhile_prefix _)).symm
  · rintro ⟨nonempty, letters, split⟩
    have taken : bytes.takeWhile (fun b => b != 0) = t := by
      rw [split]
      exact takeWhile_letters letters _
    have rest : bytes.drop t.length = List.replicate (bytes.length - t.length) 0 := by
      conv_lhs => rw [split]
      exact List.drop_left
    dsimp only
    rw [taken, rest, if_neg]
    simp [nonempty, List.all_eq_true.mpr letters]

theorem classLetter_eq_some {b : Byte} {cls : Option Byte} :
    classLetter b = some cls ↔ cls = none ∧ b = 0 ∨ cls = some b ∧ isLetter b = true := by
  unfold classLetter
  by_cases zero : b = 0#8
  · have unlettered : isLetter b = false := zero ▸ by decide
    rw [if_pos (show b = 0 from zero), unlettered]
    simp [zero, eq_comm (a := cls)]
  · rw [if_neg (show ¬ b = 0 from zero)]
    cases isLetter b <;> simp [zero, eq_comm (a := cls)]

/-- R172: the symbol operand. -/
theorem symbolOperand_eq_some {ops : List Word} {i : Nat} {symbol : Text} {cls : Option Byte} :
    symbolOperand ops i = some (symbol, cls) ↔
      symbolLetters (wordBytes [ops.getD i 0, ops.getD (i + 1) 0]) = some symbol ∧
        classLetter (loByte (ops.getD (i + 2) 0)) = some cls := by
  unfold symbolOperand wordBytes
  simp only [wordBytes]
  cases symbolLetters [hiByte (ops.getD i 0), loByte (ops.getD i 0), hiByte (ops.getD (i + 1) 0),
    loByte (ops.getD (i + 1) 0)] <;> cases classLetter (loByte (ops.getD (i + 2) 0)) <;> simp

/-! ### FIND SYMBOL -/

theorem findSymbolEngine_of_none {ops : List Word} {s : State} (h : symbolOperand ops 0 = none) :
    findSymbolEngine ops s = refuse .malformed s := by
  unfold findSymbolEngine
  rw [h]

theorem findSymbolEngine_of_ne {ops : List Word} {s : State} (h : ops.length ≠ 3) :
    findSymbolEngine ops s = refuse .malformed s := by
  unfold findSymbolEngine
  split
  · rfl
  · exact if_pos h

theorem findSymbolEngine_of_missing {ops : List Word} {s : State} {symbol : Text} {cls : Option Byte}
    (three : ops.length = 3) (h : symbolOperand ops 0 = some (symbol, cls))
    (missing : directoryIndex s.quote.directory symbol cls = none) : findSymbolEngine ops s = refuse .notFound s := by
  simp [findSymbolEngine, h, three, missing]

theorem findSymbolEngine_of_found {ops : List Word} {s : State} {symbol : Text} {cls : Option Byte} {i : Nat}
    (three : ops.length = 3) (h : symbolOperand ops 0 = some (symbol, cls))
    (found : directoryIndex s.quote.directory symbol cls = some i) :
    findSymbolEngine ops s = doneWith [word i] s := by
  simp [findSymbolEngine, h, three, found]

/-- The entry that the directory finds, where its entries of that symbol and class all name one record. -/
theorem directoryIndex_eq_some {d : List DirEntry} {symbol : Text} {cls : Option Byte} {e : DirEntry} (mem : e ∈ d)
    (hs : e.symbol = symbol) (hc : e.cls = cls) (one : ∀ f ∈ d, f.symbol = symbol → f.cls = cls → f.index = e.index) :
    directoryIndex d symbol cls = some e.index := by
  unfold directoryIndex
  cases found : d.find? fun f => decide (f.symbol = symbol ∧ f.cls = cls) with
  | none =>
    have unnamed := List.find?_eq_none.mp found e mem
    rw [decide_eq_true_eq] at unnamed
    exact absurd ⟨hs, hc⟩ unnamed
  | some f =>
    have named := List.find?_some found
    simp only [decide_eq_true_eq] at named
    exact congrArg some (one f (List.mem_of_find?_eq_some found) named.1 named.2)

/-- Settles O13: READ INSTRUMENT and FIND SYMBOL by their checks; the reply's bytes are where
`instrumentReply` and `numbers_bytesAfterSymbol` place them. -/
theorem recordsAreLookedUp : Obligations.RecordsAreLookedUp := by
  refine ⟨?read, ?find, ?readRefused, ?findRefused, fun w ws => ⟨rfl, rfl⟩, ⟨rfl, rfl, rfl, rfl⟩, ?symbols⟩
  case read =>
    intro s p w ops received one named present short
    obtain ⟨words, symbol, rest⟩ := instrumentReply _ short
    obtain ⟨n0, n1, n2, n3, n4, n5, n6, n7, n8, n9, n10, n11, n12⟩ :=
      numbers_bytesAfterSymbol (s.instr (operand ops 0))
    obtain ⟨b0, b1, b2, b3, b4, b41⟩ := bytes_bytesAfterSymbol (s.instr (operand ops 0))
    refine ⟨_, readInstrument_replies received one named (mt isVacant_eq_true.mpr present), words, ?_⟩
    dsimp only at symbol rest ⊢
    generalize wordBytes (packBytes (instrumentBytes (s.instr (operand ops 0)))) = b at symbol rest ⊢
    have byte := getD_of_drop rest
    have number := @bytesValue_of_drop _ _ _ rest
    refine ⟨symbol, (byte 0 rfl).trans b0, fun active => ?_, fun n halted le => ?_, (byte 2 rfl).trans b2, (byte 3 rfl).trans b3, (byte 4 rfl).trans b4,
      (number 5 rfl).trans n0, (number 8 rfl).trans n1, (number 11 rfl).trans n2, (number 14 rfl).trans n3,
      (number 17 rfl).trans n4, (number 20 rfl).trans n5, (number 23 rfl).trans n6,
      (number 26 rfl).trans n7, (number 29 rfl).trans n8,
      (number 33 rfl).trans n9, (number 35 rfl).trans n10, (number 37 rfl).trans n11, (number 39 rfl).trans n12, (byte 41 rfl).trans b41⟩
    · exact (byte 1 rfl).trans (b1.trans (by rw [active]; rfl))
    · rw [(byte 1 rfl).trans b1, halted, tradingByte, BitVec.toNat_ofNat]
      omega
  case find =>
    intro s p w ops received three
    refine ⟨fun symbol cls e operand mem hs hc one => ?_, fun symbol cls operand missing => ?_, fun bad => ?_⟩
    · exact Request.exec_done received
        (findSymbolEngine_of_found three operand (directoryIndex_eq_some mem hs hc one))
    · exact Request.exec_refused received
        (findSymbolEngine_of_missing three operand (directoryIndex_eq_none.mpr missing))
    · exact Request.exec_refused received (findSymbolEngine_of_none bad)
  case readRefused =>
    intro s p w ops received
    refine ⟨fun bad => ?_, fun formed vacant => ?_⟩
    · exact Request.exec_checked_refused received rfl (by rw [readInstrumentCheck_eq, if_pos bad])
    · exact Request.exec_checked_refused received rfl
        (by rw [readInstrumentCheck_eq, if_neg (not_not.mpr formed), if_pos vacant])
  case findRefused =>
    exact fun s p w ops received other => Request.exec_refused received (findSymbolEngine_of_ne other)
  case symbols =>
    intro ops i symbol cls
    dsimp only
    rw [symbolOperand_eq_some, symbolLetters_eq_some, classLetter_eq_some]
    simp only [isLetter_iff]
    constructor
    · rintro ⟨⟨nonempty, letters, bytes⟩, cls⟩
      have length := congrArg List.length bytes
      rw [List.length_append, List.length_replicate] at length
      exact ⟨List.length_pos_iff.mpr nonempty, by change 4 = _ at length; omega, letters, bytes, cls⟩
    · rintro ⟨pos, -, letters, bytes, cls⟩
      exact ⟨⟨List.length_pos_iff.mp pos, letters, bytes⟩, cls⟩

end Sys2Proof.Machine
end

section
/-! The changed-field set (R3), and the requests that define, modify and remove a record (R12 to R16). -/

namespace Sys2Proof.Machine

/-! ### The changed-field set -/

section Changes

variable {a b : Instrument}

theorem isVacant_false (h : a.trading ≠ .vacant) : a.isVacant = false := by
  simpa using mt isVacant_eq_true.mp h

theorem mem_fields (f : Field) : f ∈ Field.all := by cases f <;> decide

theorem changedFields_of_present (ha : a.isVacant = false) (hb : b.isVacant = false) :
    changedFields a b = Field.all.filter (fieldDiffers a b) := by
  simp [changedFields, ha, hb]

theorem changedFields_of_new (ha : a.isVacant = true) (hb : b.isVacant = false) :
    changedFields a b = Field.all.filter (fieldPresent b) := by
  simp [changedFields, ha, hb]

theorem changedFields_of_old (ha : a.isVacant = true) (hb : b.isVacant = false) :
    changedFields b a = Field.all.filter (fieldPresent b) := by
  simp [changedFields, ha, hb]

theorem mem_filter_fields (q : Field → Bool) (f : Field) : f ∈ Field.all.filter q ↔ q f = true := by
  simp [mem_fields]

end Changes

/-- Settles O18: field by field, from what `changedFields` filters. -/
theorem changedFieldSet : Obligations.ChangedFieldSet := by
  refine ⟨fun a => isVacant_eq_true, fun a b ha hb => ?present, fun a b ha hb => ?both, fun a b f ha hb => ?one,
    fun s i fields eligible => ⟨?nothing, ?something⟩⟩
  case present =>
    rw [changedFields_of_present ha hb]
    simp only [mem_filter_fields, fieldDiffers, decide_eq_true_eq, iff_self, true_and]
    constructor
    · cases a.bid <;> cases b.bid <;> simp
    · cases a.ask <;> cases b.ask <;> simp
  case both => simp [changedFields, ha, hb]
  case one =>
    rw [changedFields_of_new ha hb, changedFields_of_old ha hb]
    refine ⟨Iff.rfl, ?_⟩
    rw [mem_filter_fields]
    cases f <;> simp [fieldPresent]
  case nothing =>
    rintro rfl
    rfl
  case something =>
    intro some_
    rw [State.handOn, if_neg (by simpa using some_)]

/-! ### DEFINE INSTRUMENT -/

theorem denominator_ofCode_iff (n : Nat) (d : Denominator) : Denominator.ofCode n = some d ↔
    (n, d) ∈ [(0, Denominator.eighths), (1, .sixteenths), (2, .thirtySeconds), (3, .sixtyFourths)] := by
  unfold Denominator.ofCode
  split <;> simp_all [eq_comm]

theorem ribbonSet_ofCode_iff (n : Nat) (x : RibbonSet) : RibbonSet.ofCode n = some x ↔
    (n, x) ∈ [(0, RibbonSet.neither), (1, .zero), (2, .one), (3, .both)] := by
  unfold RibbonSet.ofCode
  split <;> simp_all [eq_comm]

theorem thresholdOperand_eq (ops : List Word) (i : Nat) : thresholdOperand ops i =
    if operandPair ops i = 0 then some none
    else if 100 ≤ operandPair ops i ∧ operandPair ops i ≤ 9999999 then some (some (operandPair ops i)) else none := rfl

/-- What makes a DEFINE INSTRUMENT well formed (R12 step 1). -/
def formsInstrument (ops : List Word) (symbol : Text) (cls : Option Byte) (d : Denominator) (rs : RibbonSet)
    (close th : Option Nat) : Prop :=
  ops.length = 10 ∧ operand ops 0 < 2048 ∧ symbolOperand ops 1 = some (symbol, cls) ∧
  Denominator.ofCode (operand ops 4) = some d ∧ RibbonSet.ofCode (operand ops 5) = some rs ∧
  optionalPrice ops 6 = some close ∧ thresholdOperand ops 8 = some th

section Define

variable {ops : List Word} {s : State} {symbol : Text} {cls : Option Byte} {d : Denominator} {rs : RibbonSet}
  {close th : Option Nat}

theorem defineInstrumentCheck_of_not_formed (bad : ∀ symbol cls d rs close th, ¬ formsInstrument ops symbol cls d rs close th) :
    defineInstrumentCheck ops s = some .malformed := by
  unfold defineInstrumentCheck
  generalize hsymbol : symbolOperand ops 1 = a, hd : Denominator.ofCode (operand ops 4) = b,
    hrs : RibbonSet.ofCode (operand ops 5) = c, hclose : optionalPrice ops 6 = p, hth : thresholdOperand ops 8 = q
  split
  next symbol cls d rs close th =>
    refine firstRefusal_fail ?_
    rw [Bool.or_eq_true, decide_eq_true_eq, badIndex_eq_true, ← not_and_or]
    exact fun ⟨words, index⟩ => bad symbol cls d rs close th ⟨words, index, hsymbol, hd, hrs, hclose, hth⟩
  next => rfl

/-- R12: the checks of a well-formed DEFINE INSTRUMENT. -/
theorem defineInstrumentCheck_of_formed (formed : formsInstrument ops symbol cls d rs close th) :
    defineInstrumentCheck ops s = firstRefusal
      [(!(s.instr (operand ops 0)).isVacant, .inUse),
       ((directoryIndex s.quote.directory symbol cls).isSome, .duplicateSymbol),
       (close.any fun p => !onGrid d p, .priceGrid)] := by
  obtain ⟨words, index, hsymbol, hd, hrs, hclose, hth⟩ := formed
  unfold defineInstrumentCheck
  rw [hsymbol, hd, hrs, hclose, hth]
  exact firstRefusal_pass (by simp [words, badIndex_eq_false.mpr index])

theorem any_off_iff : (close.any fun p => !onGrid d p) = false ↔ ∀ c, close = some c → c % d.grid = 0 := by
  cases close with
  | none => simp
  | some c => simp [onGrid_iff]

theorem isSome_directoryIndex_eq_false {l : List DirEntry} : (directoryIndex l symbol cls).isSome = false ↔
    ∀ e ∈ l, ¬ (e.symbol = symbol ∧ e.cls = cls) := by
  rw [← directoryIndex_eq_none, Option.isSome_eq_false_iff, Option.isNone_iff_eq_none]

/-- R3, R13: the changed-field set of a record that DEFINE INSTRUMENT makes. -/
theorem changedFields_of_defined {v v' : Instrument} (vacant : v.trading = .vacant) (active : v'.trading = .active)
    (opening : v'.opening = none) (high : v'.high = none) (low : v'.low = none) (last : v'.last = none)
    (bid : v'.bid = none) (ask : v'.ask = none) : changedFields v v' =
      [.symbol] ++ (if v'.prevClose.isSome then [.prevClose, .netChange] else []) ++ [.tick, .volume, .status] := by
  rw [changedFields_of_new (isVacant_eq_true.mpr vacant) (isVacant_false (by rw [active]; nofun))]
  cases close : v'.prevClose <;>
    simp [Field.all, fieldPresent, List.filter, opening, high, low, last, bid, ask, close]

end Define

/-- Settles O14: the checks in order, the record from `DefinesInstrument`, the directory's order from
`pairwise_directoryInsert`. -/
theorem defineInstrumentCreatesTheRecord : Obligations.DefineInstrumentCreatesTheRecord := by
  refine ⟨fun s p w ops received => ?_, DirEntry.before_iff, denominator_ofCode_iff, ribbonSet_ofCode_iff, ?threshold,
    fun e l => ⟨fun f => mem_directoryInsert e f l, pairwise_directoryInsert⟩⟩
  case threshold =>
    intro ops i
    dsimp only
    rw [thresholdOperand_eq, operandPair]
    refine ⟨fun zero => if_pos zero, fun low high => ?_, fun out => ?_⟩
    · rw [if_neg (by omega), if_pos ⟨low, high⟩]
    · rw [if_neg (by omega), if_neg (by omega)]
  refine ⟨fun bad => Request.exec_checked_refused received rfl (defineInstrumentCheck_of_not_formed bad),
    fun symbol cls d rs close th formed => ?_⟩
  have check := defineInstrumentCheck_of_formed (s := s) formed
  refine ⟨fun used => ?_, fun vacant stale => ?_, fun vacant fresh odd => ?_, fun vacant fresh even => ?_⟩
  · refine Request.exec_checked_refused received rfl (check.trans ?_)
    exact firstRefusal_fail (by rw [isVacant_false used]; rfl)
  · refine Request.exec_checked_refused received rfl (check.trans ?_)
    rw [firstRefusal_pass (by rw [isVacant_eq_true.mpr vacant]; rfl),
      firstRefusal_fail (eq_true_of_ne_false (mt isSome_directoryIndex_eq_false.mp stale))]
  · refine Request.exec_checked_refused received rfl (check.trans ?_)
    rw [firstRefusal_pass (by rw [isVacant_eq_true.mpr vacant]; rfl),
      firstRefusal_pass (isSome_directoryIndex_eq_false.mpr fresh),
      firstRefusal_fail (eq_true_of_ne_false (mt any_off_iff.mp odd))]
  · refine Request.exec_checked_done received rfl (check.trans ?_) ?_
    · rw [firstRefusal_pass (by rw [isVacant_eq_true.mpr vacant]; rfl),
        firstRefusal_pass (isSome_directoryIndex_eq_false.mpr fresh), firstRefusal_pass (any_off_iff.mpr even)]
      rfl
    · obtain ⟨words, index, hsymbol, hd, hrs, hclose, hth⟩ := formed
      have defined := DefinesInstrument.definedInstrument ⟨hsymbol, hd, hrs, hclose, hth, words, index, vacant, fresh, even⟩
        (s.instr (operand ops 0))
      dsimp only
      rw [defined, State.change, changedFields_of_defined vacant rfl rfl rfl rfl rfl rfl rfl]
      rfl

/-! ### MODIFY INSTRUMENT -/

/-- What makes a MODIFY INSTRUMENT well formed, with its present items (R14 step 1). -/
def formsModification (ops : List Word) (rs : Option RibbonSet) (th : Option (Option Nat)) (d : Option Denominator)
    (close : Option Nat) : Prop :=
  ops.length = 8 ∧ operand ops 0 < 2048 ∧
  itemPresent ops 0 = rs.isSome ∧ (∀ x, rs = some x → RibbonSet.ofCode (operand ops 2) = some x) ∧
  itemPresent ops 1 = th.isSome ∧ (∀ x, th = some x → thresholdOperand ops 3 = some x) ∧
  itemPresent ops 2 = d.isSome ∧ (∀ x, d = some x → Denominator.ofCode (operand ops 5) = some x) ∧
  optionalPrice ops 6 = some close ∧ (rs.isSome ∨ th.isSome ∨ d.isSome ∨ close.isSome)

theorem pricePresent_of_optionalPrice {ops : List Word} {i : Nat} {c : Option Nat} (h : optionalPrice ops i = some c) :
    pricePresent ops i = c.isSome := by
  unfold optionalPrice at h
  cases present : pricePresent ops i <;> rw [present] at h
  · cases h
    rfl
  · cases price : priceOperand ops i <;> rw [price] at h <;> cases h
    rfl

/-- An item that is present and good, or absent. -/
theorem exists_item {α : Type} {present : Bool} {x : Option α} (good : (present && x.isNone) = false) :
    ∃ y : Option α, present = y.isSome ∧ ∀ z, y = some z → x = some z := by
  cases present
  · exact ⟨none, rfl, nofun⟩
  · cases x with
    | none => cases good
    | some x => exact ⟨some x, rfl, fun _ h => h⟩

/-- A present item is not bad. -/
theorem item_good {α : Type} {present : Bool} {x y : Option α} (is : present = y.isSome)
    (value : ∀ z, y = some z → x = some z) : (present && x.isNone) = false := by
  cases y with
  | none => rw [is]; rfl
  | some z => rw [value z rfl, Option.isNone_some, Bool.and_false]

/-- What a present item sets, an absent one leaving it. -/
theorem item_getD {α : Type} {present : Bool} {x y : Option α} (is : present = y.isSome)
    (value : ∀ z, y = some z → x = some z) (old : α) : (if present then x.getD old else old) = y.getD old := by
  cases y with
  | none => rw [is]; rfl
  | some z => rw [is, value z rfl]; rfl

section Modify

variable {ops : List Word} {s : State} {rs : Option RibbonSet} {th : Option (Option Nat)} {d : Option Denominator}
  {close : Option Nat}

theorem modifyInstrumentCheck_of_not_formed (bad : ∀ rs th d close, ¬ formsModification ops rs th d close) :
    modifyInstrumentCheck ops s = some .malformed := by
  refine firstRefusal_fail (by_contra fun h => ?_)
  simp only [Bool.not_eq_true, Bool.or_eq_false_iff, decide_eq_false_iff_not, ne_eq, not_not] at h
  obtain ⟨⟨⟨words, index⟩, none_⟩, good⟩ := h
  simp only [badItem, Bool.or_eq_false_iff] at good
  obtain ⟨⟨⟨good0, good1⟩, good2⟩, price⟩ := good
  obtain ⟨rs, rsIs, rsValue⟩ := exists_item good0
  obtain ⟨th, thIs, thValue⟩ := exists_item good1
  obtain ⟨d, dIs, dValue⟩ := exists_item good2
  obtain ⟨close, closeIs⟩ := Option.isSome_iff_exists.mp (Option.isNone_eq_false_iff.mp price)
  refine bad rs th d close ⟨words, badIndex_eq_false.mp index, rsIs, rsValue, thIs, thValue, dIs, dValue, closeIs, ?_⟩
  simpa only [noItem, rsIs, thIs, dIs, pricePresent_of_optionalPrice closeIs, Bool.and_eq_false_iff, Bool.not_eq_false',
    or_assoc] using none_

theorem denominatorAfter_of_formed (formed : formsModification ops rs th d close) (v : Instrument) :
    denominatorAfter ops v = d.getD v.denominator := by
  obtain ⟨-, -, -, -, -, -, dIs, dValue, -, -⟩ := formed
  exact item_getD dIs dValue v.denominator

theorem modifiedInstrument_of_formed (formed : formsModification ops rs th d close) (v : Instrument) :
    modifiedInstrument ops v =
      { v with
        ribbonSet := rs.getD v.ribbonSet, blockThreshold := th.getD v.blockThreshold
        denominator := d.getD v.denominator
        prevClose := if close.isSome then close else v.prevClose } := by
  have after := denominatorAfter_of_formed formed v
  obtain ⟨-, -, rsIs, rsValue, thIs, thValue, -, -, closeIs, -⟩ := formed
  simp only [modifiedInstrument, after, item_getD rsIs rsValue, item_getD thIs thValue,
    pricePresent_of_optionalPrice closeIs, closeIs, Option.getD_some]

/-- R14 check 5. -/
theorem offNewGrid_eq_false_iff (formed : formsModification ops rs th d close) (v : Instrument) :
    offNewGrid ops v = false ↔ (∀ c, close = some c → c % (d.getD v.denominator).grid = 0) ∧
      ((d.getD v.denominator).value < v.denominator.value →
        ∀ c ∈ storedPrices v, c % (d.getD v.denominator).grid = 0) := by
  have after := denominatorAfter_of_formed formed v
  obtain ⟨-, -, -, -, -, -, -, -, closeIs, -⟩ := formed
  simp only [offNewGrid, after, closeIs, Option.getD_some, Bool.or_eq_false_iff, any_off_iff, Bool.and_eq_false_imp,
    decide_eq_true_eq, List.any_eq_false, Bool.not_eq_true', Bool.not_eq_false, onGrid_iff]

/-- R14: the checks of a well-formed MODIFY INSTRUMENT. -/
theorem modifyInstrumentCheck_of_formed (formed : formsModification ops rs th d close) :
    modifyInstrumentCheck ops s = firstRefusal
      [((s.instr (operand ops 0)).isVacant, .unknownInstrument),
       (close.isSome && decide (s.quote.session = .opened), .busy),
       (rs.isSome && s.onTape (operand ops 0), .inUse),
       (offNewGrid ops (s.instr (operand ops 0)), .priceGrid)] := by
  obtain ⟨words, index, rsIs, rsValue, thIs, thValue, dIs, dValue, closeIs, some_⟩ := formed
  have price := pricePresent_of_optionalPrice closeIs
  rw [modifyInstrumentCheck, price, rsIs]
  refine firstRefusal_pass ?_
  have item : noItem ops = false := by
    simpa only [noItem, rsIs, thIs, dIs, price, Bool.and_eq_false_iff, Bool.not_eq_false', or_assoc] using some_
  have good : badItem ops = false := by
    simp only [badItem, item_good rsIs rsValue, item_good thIs thValue, item_good dIs dValue, closeIs]
    rfl
  simp [words, badIndex_eq_false.mpr index, item, good]

/-- R3, R15: the changed-field set of a record whose previous close alone may have altered among what is shown. -/
theorem changedFields_of_prevClose {v : Instrument} (present : v.trading ≠ .vacant) (rs : RibbonSet) (th : Option Nat)
    (d : Denominator) (c : Option Nat) :
    changedFields v { v with ribbonSet := rs, blockThreshold := th, denominator := d, prevClose := c } =
      if v.prevClose ≠ c then [.prevClose, .netChange] else [] := by
  rw [changedFields_of_present (isVacant_false present)]
  swap
  · exact isVacant_false present
  by_cases same : v.prevClose = c <;> simp [Field.all, fieldDiffers, List.filter, same]

end Modify

/-! ### REMOVE INSTRUMENT -/

theorem removeInstrumentCheck_of_not_formed {ops : List Word} {s : State}
    (bad : ¬ (ops.length = 1 ∧ operand ops 0 < 2048)) : removeInstrumentCheck ops s = some .malformed := by
  refine firstRefusal_fail ?_
  rwa [Bool.or_eq_true, decide_eq_true_eq, badIndex_eq_true, ← not_and_or]

theorem removeInstrumentCheck_of_formed {ops : List Word} {s : State} (words : ops.length = 1)
    (index : operand ops 0 < 2048) : removeInstrumentCheck ops s = firstRefusal
      [((s.instr (operand ops 0)).isVacant, .unknownInstrument),
       ((s.instr (operand ops 0)).bindHead.isSome || !(s.instr (operand ops 0)).viewers.isEmpty
          || s.onTape (operand ops 0), .inUse)] :=
  firstRefusal_pass (by simp [words, badIndex_eq_false.mpr index])

theorem unused_iff {v : Instrument} {b : Bool} : (v.bindHead.isSome || !v.viewers.isEmpty || b) = false ↔
    v.bindHead = none ∧ v.viewers = [] ∧ b = false := by
  simp only [Bool.or_eq_false_iff, Option.isSome_eq_false_iff, Option.isNone_iff_eq_none, Bool.not_eq_false',
    List.isEmpty_iff, and_assoc]

theorem onTape_iff (s : State) (i : Nat) : s.onTape i = true ↔
    (∃ number stamp copy, .print i number stamp copy ∈ s.tape.ribbon0.queue ++ s.tape.ribbon1.queue) ∨
      ∃ text stamp, .notice text stamp (some i) ∈ s.tape.ribbon0.queue ++ s.tape.ribbon1.queue := by
  unfold State.onTape
  simp only [List.any_eq_true, decide_eq_true_eq]
  constructor
  · rintro ⟨e, mem, index⟩
    cases e with
    | print j number stamp copy => cases index; exact .inl ⟨number, stamp, copy, mem⟩
    | notice text stamp j => cases index; exact .inr ⟨text, stamp, mem⟩
  · rintro (⟨number, stamp, copy, mem⟩ | ⟨text, stamp, mem⟩)
    · exact ⟨_, mem, rfl⟩
    · exact ⟨_, mem, rfl⟩

/-- Settles O15: the checks of both requests in order, and the records that they leave. -/
theorem instrumentsAreModifiedAndRemoved : Obligations.InstrumentsAreModifiedAndRemoved := by
  refine ⟨fun s p w ops received => ⟨fun bad => ?malformed, fun rs th d close formed => ?modify⟩,
    fun s p w ops received => ⟨fun bad => ?badRemove, fun words index => ?remove⟩, fun _ _ => rfl, onTape_iff,
    mem_storedPrices⟩
  case malformed => exact Request.exec_checked_refused received rfl (modifyInstrumentCheck_of_not_formed bad)
  case modify =>
    have check := modifyInstrumentCheck_of_formed (s := s) formed
    have shut_iff : (close.isSome && decide (s.quote.session = .opened)) = false ↔
        (close.isSome = true → s.quote.session = .closed) := by
      cases s.quote.session <;> simp
    have off_iff : (rs.isSome && s.onTape (operand ops 0)) = false ↔ (rs.isSome = true → s.onTape (operand ops 0) = false) :=
      Bool.and_eq_false_imp
    have even_iff := offNewGrid_eq_false_iff formed (s.instr (operand ops 0))
    refine ⟨fun vacant => ?_, fun present open_ => ?_, fun present shut used => ?_, fun present shut off odd => ?_,
      fun present shut off even => ?_⟩
    · exact Request.exec_checked_refused received rfl (check.trans (firstRefusal_fail (isVacant_eq_true.mpr vacant)))
    · refine Request.exec_checked_refused received rfl (check.trans ?_)
      rw [firstRefusal_pass (isVacant_false present), firstRefusal_fail (eq_true_of_ne_false (mt shut_iff.mp open_))]
    · refine Request.exec_checked_refused received rfl (check.trans ?_)
      rw [firstRefusal_pass (isVacant_false present), firstRefusal_pass (shut_iff.mpr shut),
        firstRefusal_fail (eq_true_of_ne_false (mt off_iff.mp used))]
    · refine Request.exec_checked_refused received rfl (check.trans ?_)
      rw [firstRefusal_pass (isVacant_false present), firstRefusal_pass (shut_iff.mpr shut),
        firstRefusal_pass (off_iff.mpr off), firstRefusal_fail (eq_true_of_ne_false (mt even_iff.mp odd))]
    · refine Request.exec_checked_done received rfl (check.trans ?_) ?_
      · rw [firstRefusal_pass (isVacant_false present), firstRefusal_pass (shut_iff.mpr shut),
          firstRefusal_pass (off_iff.mpr off), firstRefusal_pass (even_iff.mpr even)]
        rfl
      · rw [State.named, modifiedInstrument_of_formed formed, State.change, changedFields_of_prevClose present]
        have same : (if (s.instr (operand ops 0)).prevClose ≠
              if close.isSome = true then close else (s.instr (operand ops 0)).prevClose
            then [Field.prevClose, .netChange] else []) =
            if close.isSome = true ∧ close ≠ (s.instr (operand ops 0)).prevClose then [.prevClose, .netChange] else [] := by
          cases close <;> simp [eq_comm]
        rw [same]
        rfl
  case badRemove => exact Request.exec_checked_refused received rfl (removeInstrumentCheck_of_not_formed bad)
  case remove =>
    have check := removeInstrumentCheck_of_formed (s := s) words index
    refine ⟨fun vacant => ?_, fun present used => ?_, fun present unused => ?_⟩
    · exact Request.exec_checked_refused received rfl (check.trans (firstRefusal_fail (isVacant_eq_true.mpr vacant)))
    · refine Request.exec_checked_refused received rfl (check.trans ?_)
      rw [firstRefusal_pass (isVacant_false present), firstRefusal_fail (eq_true_of_ne_false (mt unused_iff.mp used))]
    · refine Request.exec_checked_done received rfl (check.trans ?_) ?_
      · rw [firstRefusal_pass (isVacant_false present), firstRefusal_pass (unused_iff.mpr unused)]
        rfl
      · obtain ⟨unbound, unseen, -⟩ := unused
        simp only [Instrument.vacated, unbound, unseen]
        rfl

end Sys2Proof.Machine
end

section
/-! The session and its roll (R18 to R20), and the carrying ribbons (R49). -/

namespace Sys2Proof.Machine

/-! ### Ribbons in service and carrying ribbons -/

theorem Ribbon.isOff_eq_false {v : Ribbon} : v.isOff = false ↔ v.state ≠ .off := decide_eq_false_iff_not

theorem State.inService_iff (s : State) (r : Nat) :
    s.inService r = true ↔ (s.ribbon r).state ≠ .off ∧ (s.items.joined = true → r = 0) := by
  unfold State.inService
  rw [Bool.and_eq_true, Bool.not_eq_true', Bool.not_eq_true', Ribbon.isOff_eq_false, Bool.and_eq_false_imp,
    decide_eq_false_iff_not, not_not]

theorem State.anyFull_eq_true {s : State} {rs : List Nat} {n : Nat} :
    s.anyFull rs n = true ↔ ∃ r ∈ rs, n ≤ (s.ribbon r).queue.length := by
  simp [State.anyFull]

theorem State.anyFull_eq_false {s : State} {rs : List Nat} {n : Nat} :
    s.anyFull rs n = false ↔ ∀ r ∈ rs, (s.ribbon r).queue.length < n := by
  simp [State.anyFull]

theorem RibbonSet.mem_named (joined : Bool) (x : RibbonSet) (r : Nat) : r ∈ x.named joined ↔
    joined = false ∧ (r = 0 ∧ (x = .zero ∨ x = .both) ∨ r = 1 ∧ (x = .one ∨ x = .both)) ∨
      joined = true ∧ r = 0 ∧ (x = .zero ∨ x = .both) := by
  cases x <;> cases joined <;> simp [RibbonSet.named]

/-- Settles O26, from `RibbonSet.mem_named`. -/
theorem carryingRibbons : Obligations.CarryingRibbons := by
  refine fun s v r => ⟨s.carrying_nodup v, ?_⟩
  unfold State.carrying
  rw [List.mem_filter, RibbonSet.mem_named, Bool.not_eq_true', Ribbon.isOff_eq_false, and_comm]

/-! ### Opening and closing -/

section Session

variable {s : State} {ops : List Word}

theorem openSessionEngine_eq (s : State) : openSessionEngine [] s =
    if s.mode = .config then refuse .notLive s
    else if s.quote.session = .opened then done s
    else if s.anyFull s.ribbonsInService 256 then refuse .tapeFull s
    else done (s.changeSession .opened (ascii "MARKET OPEN")) := rfl

theorem closeSessionEngine_eq (s : State) : closeSessionEngine [] s =
    if s.quote.session = .closed then done s
    else if s.anyFull s.ribbonsInService 256 then refuse .tapeFull s
    else done (s.changeSession .closed (ascii "MARKET CLOSED")) := rfl

theorem length_ne_zero (h : ops ≠ []) : ops.length ≠ 0 := mt List.length_eq_zero_iff.mp h

end Session

/-- Settles O16: both engines take their checks one after another. -/
theorem sessionOpensAndCloses : Obligations.SessionOpensAndCloses := by
  refine ⟨fun s => ⟨s.ribbonsInService_nodup, fun r => ?service⟩, fun s p w ops some_ =>
    ⟨fun received => Request.exec_refused received (if_pos (length_ne_zero some_)),
      fun received => Request.exec_refused received (if_pos (length_ne_zero some_))⟩,
    fun s p w => ⟨fun received => ?opens, fun received => ?closes⟩⟩
  case service =>
    unfold State.ribbonsInService
    rw [List.mem_filter, State.inService_iff]
    refine and_congr_left fun _ => ?_
    simp only [List.mem_cons, List.not_mem_nil, or_false]
    omega
  case opens =>
    refine ⟨fun config => Request.exec_refused received ?_, fun live opened => Request.exec_done received ?_,
      fun live closed full => Request.exec_refused received ?_,
      fun live closed room => Request.exec_done received ?_⟩ <;> refine (openSessionEngine_eq s).trans ?_
    · exact if_pos config
    · rw [if_neg (by rw [live]; nofun), if_pos opened]
      rfl
    · rw [if_neg (by rw [live]; nofun), if_neg (by rw [closed]; nofun), if_pos (State.anyFull_eq_true.mpr full)]
    · rw [if_neg (by rw [live]; nofun), if_neg (by rw [closed]; nofun), if_neg (mt State.anyFull_eq_true.mp room)]
      rfl
  case closes =>
    refine ⟨fun closed => Request.exec_done received ?_, fun opened full => Request.exec_refused received ?_,
      fun opened room => Request.exec_done received ?_⟩ <;> refine (closeSessionEngine_eq s).trans ?_
    · exact if_pos closed
    · rw [if_neg (by rw [opened]; nofun), if_pos (State.anyFull_eq_true.mpr full)]
    · rw [if_neg (by rw [opened]; nofun), if_neg (mt State.anyFull_eq_true.mp room)]
      rfl

/-! ### The roll -/

theorem State.tapeHolds_iff (s : State) :
    s.tapeHolds = true ↔ s.tape.ribbon0.queue ≠ [] ∨ s.tape.ribbon1.queue ≠ [] := by
  unfold State.tapeHolds
  rw [Bool.or_eq_true, Bool.not_eq_true', Bool.not_eq_true', List.isEmpty_eq_false_iff, List.isEmpty_eq_false_iff]

theorem rollSessionEngine_eq (s : State) : rollSessionEngine [] s =
    if s.quote.session = .opened then refuse .busy s
    else if s.tapeHolds then refuse .busy s
    else done (s.setRolling (Table.keys (fun _ v => !v.isVacant) s.quote.instruments)) := rfl

/-- R20: the records that ROLL SESSION lists. -/
theorem mem_rolled {s : State} (wf : Table.wf Instrument.vacant s.quote.instruments = true) (i : Nat) :
    i ∈ Table.keys (fun _ v => !v.isVacant) s.quote.instruments ↔ (s.instr i).trading ≠ .vacant := by
  refine (Table.mem_keys Instrument.vacant (f := fun v => !v.isVacant) rfl wf i).trans ?_
  rw [Bool.not_eq_true', ← Bool.not_eq_true]
  exact not_congr isVacant_eq_true

theorem quoteConditionOf_slow (bid ask : Option Nat) : quoteConditionOf bid ask false =
    match bid, ask with
    | some b, some a => if a < b then .crossed else .firm
    | _, _ => .firm := by
  cases bid <;> cases ask <;> rfl

/-- Settles O17: the records listed are those that `Table.keys` finds, and ROLL_RECORD takes the first of them. -/
theorem rollSessionRollsEveryRecord : Obligations.RollSessionRollsEveryRecord := by
  refine ⟨fun s p w ops received some_ => Request.exec_refused received (if_pos (length_ne_zero some_)), fun s p w =>
    ⟨fun received => ⟨fun busy => ?_, fun closed empty0 empty1 wf => ?_⟩, fun i rest rolling present => ?_,
      fun rolling => ?_⟩⟩
  · refine Request.exec_refused received ((rollSessionEngine_eq s).trans ?_)
    obtain opened | holds := busy
    · exact if_pos opened
    · rw [if_pos (s.tapeHolds_iff.mpr holds), ite_self]
  · refine ⟨_, Request.exec_done received ((rollSessionEngine_eq s).trans ?_),
      (Table.keys_pairwise Instrument.vacant (fun _ v => !v.isVacant) wf).1, mem_rolled wf⟩
    rw [if_neg (by rw [closed]; nofun), if_neg (mt s.tapeHolds_iff.mp (by simp [empty0, empty1]))]
    rfl
  · change execRollRecord s = _
    unfold execRollRecord
    rw [rolling]
    dsimp only
    rw [if_neg (by rw [isVacant_false present]; nofun), State.change, Instrument.rolled, quoteConditionOf_slow]
    rfl
  · change execRollRecord s = _
    unfold execRollRecord
    rw [rolling]

end Sys2Proof.Machine
end

section
/-! Prices in stored units and the arithmetic on the fields of a record (R6 to R8, R22 to R30, R57). -/

namespace Sys2Proof.Machine

/-! ### Price operands -/

section Operands

variable {ops : List Word} {i : Nat} {d : Denominator}

/-- R22: the conversion, where the denominator code is known. -/
theorem priceOperand_eq (code : Denominator.ofCode (operand ops (i + 1) / 256 % 16) = some d) : priceOperand ops i =
    if operand ops i ≤ 9999 ∧ operand ops (i + 1) % 256 < d.value
    then some (priceUnits (operand ops i) (operand ops (i + 1) % 256) d) else none := by
  unfold priceOperand
  dsimp only
  rw [code]
  rfl

theorem priceOperand_of_unknown (code : Denominator.ofCode (operand ops (i + 1) / 256 % 16) = none) :
    priceOperand ops i = none := by
  unfold priceOperand
  dsimp only
  rw [code]

theorem ofCode_of_le {n : Nat} (h : 4 ≤ n) : Denominator.ofCode n = none := by
  obtain ⟨n, rfl⟩ := Nat.exists_eq_add_of_le' h
  rfl

/-- R22: what a price operand converts to. -/
theorem priceOperand_eq_some {x : Nat} (h : priceOperand ops i = some x) : ∃ d,
    Denominator.ofCode (operand ops (i + 1) / 256 % 16) = some d ∧ operand ops i ≤ 9999 ∧
      operand ops (i + 1) % 256 < d.value ∧ x = priceUnits (operand ops i) (operand ops (i + 1) % 256) d := by
  cases code : Denominator.ofCode (operand ops (i + 1) / 256 % 16) with
  | none => rw [priceOperand_of_unknown code] at h; cases h
  | some d =>
    rw [priceOperand_eq code] at h
    split at h
    · next inside => cases h; exact ⟨d, rfl, inside.1, inside.2, rfl⟩
    · cases h

/-- R22, R23: the range of a converted price, and its unit. -/
theorem priceUnits_range {whole numerator : Nat} (low : whole ≤ 9999) (proper : numerator < d.value) :
    priceUnits whole numerator d ≤ 2559996 ∧ priceUnits whole numerator d % 4 = 0 := by
  unfold priceUnits
  cases d <;> simp only [Denominator.value] at proper ⊢ <;> omega

theorem salePrice_eq_some {x : Nat} : salePrice ops i = some x ↔ priceOperand ops i = some x ∧ x ≠ 0 := by
  simp [salePrice, Option.filter_eq_some_iff]

end Operands

/-! ### Extremes -/

theorem foldl_raiseTo (l : List Nat) (a : Nat) : l.foldl raiseTo (some a) = some (l.foldl max a) := by
  induction l generalizing a with
  | nil => rfl
  | cons b l ih => exact ih (max a b)

theorem foldl_lowerTo (l : List Nat) (a : Nat) : l.foldl lowerTo (some a) = some (l.foldl min a) := by
  induction l generalizing a with
  | nil => rfl
  | cons b l ih => exact ih (min a b)

theorem greatest_eq_max? (l : List Nat) : greatest l = l.max? := by
  cases l with
  | nil => rfl
  | cons a l => exact foldl_raiseTo l a

theorem least_eq_min? (l : List Nat) : least l = l.min? := by
  cases l with
  | nil => rfl
  | cons a l => exact foldl_lowerTo l a

/-- R6: the extremes of a collection. -/
theorem extremes (l : List Nat) : (greatest l = none ↔ l = []) ∧ (least l = none ↔ l = []) ∧
    (∀ m, greatest l = some m → m ∈ l ∧ ∀ x ∈ l, x ≤ m) ∧ ∀ m, least l = some m → m ∈ l ∧ ∀ x ∈ l, m ≤ x := by
  rw [greatest_eq_max?, least_eq_min?]
  exact ⟨List.max?_eq_none_iff, List.min?_eq_none_iff, fun m => List.max?_eq_some_iff.mp, fun m => List.min?_eq_some_iff.mp⟩

/-! ### What the print list gives -/

theorem Print.isRegular_iff {q : Print} : q.isRegular = true ↔ ∃ t, q.kind = .regular t := by
  unfold Print.isRegular
  split <;> simp_all

theorem Print.counts_iff {q : Print} : q.counts = true ↔ q.valid = true ∧ ∃ t, q.kind = .regular t := by
  rw [Print.counts, Bool.and_eq_true, Print.isRegular_iff]

theorem Print.counts_eq_false {q : Print} : q.counts = false ↔ q.valid = false ∨ q.kind = .late := by
  rw [Print.counts, Bool.and_eq_false_iff]
  refine or_congr_right ?_
  unfold Print.isRegular
  split <;> simp_all

theorem Print.storedTick_of_regular {q : Print} {t : Tick} (h : q.kind = .regular t) : q.storedTick = t := by
  unfold Print.storedTick
  rw [h]

theorem newestValidRegular_of_split {older newer : List Print} {q : Print} (counts : q.counts = true)
    (after : ∀ x ∈ newer, x.counts = false) : newestValidRegular (older ++ q :: newer) = some q := by
  unfold newestValidRegular
  have none_ : newer.filter Print.counts = [] := List.filter_eq_nil_iff.mpr fun x hx => by simp [after x hx]
  rw [List.filter_append, List.filter_cons_of_pos counts, none_, List.getLast?_concat]

theorem newestValidRegular_of_none {l : List Print} (h : ∀ x ∈ l, x.counts = false) : newestValidRegular l = none := by
  unfold newestValidRegular
  rw [List.filter_eq_nil_iff.mpr fun x hx => by simp [h x hx]]
  rfl

theorem mem_priceCollection (v : Instrument) (x : Nat) : x ∈ priceCollection v ↔
    v.anchorHigh = some x ∨ v.anchorLow = some x ∨ ∃ q ∈ v.prints, q.valid = true ∧ q.price = x := by
  simp [priceCollection, and_assoc]

/-- Settles O20, part by part. -/
theorem priceAndRecordArithmetic : Obligations.PriceAndRecordArithmetic := by
  refine ⟨fun ops i => ?operands, extremes, ?reversal, fun volume off on => ⟨rfl, fun le => ?_, fun lt => ?_⟩,
    fun v => ⟨mem_priceCollection v, ?newest, ?anchor⟩, ⟨rfl, rfl, rfl, rfl, rfl, rfl, rfl, rfl, onGrid_iff⟩,
    fun n lt => ⟨if_pos lt, if_pos lt⟩, rfl, rfl, fun b a fast x => ⟨rfl, ?_, ?_⟩⟩
  case operands =>
    refine ⟨?_, fun x h => ?_, fun high => ?_, fun unknown => priceOperand_of_unknown (ofCode_of_le unknown),
      fun d code improper => ?_, fun absent => ?_, fun present => ?_, fun x => salePrice_eq_some⟩
    · rintro c d rfl code low proper
      exact (priceOperand_eq code).trans (if_pos ⟨low, proper⟩)
    · obtain ⟨d, -, low, proper, rfl⟩ := priceOperand_eq_some h
      exact priceUnits_range low proper
    · refine Option.eq_none_iff_forall_not_mem.mpr fun x h => ?_
      obtain ⟨d, -, low, -, -⟩ := priceOperand_eq_some h
      omega
    · exact (priceOperand_eq code).trans (if_neg fun h => improper.not_gt h.2)
    · exact if_neg (by simpa [pricePresent] using absent)
    · exact if_pos (by simpa [pricePresent] using present)
  case reversal =>
    intro new old
    cases new <;> cases old <;> simp [reversalOf, Tick.family]
  case newest =>
    intro older newer q t split valid kind after
    have newest : newestValidRegular v.prints = some q := by
      rw [split]
      exact newestValidRegular_of_split (Print.counts_iff.mpr ⟨valid, t, kind⟩)
        fun x hx => Print.counts_eq_false.mpr (after x hx)
    simp only [derivedLast, derivedTick, newest, Print.storedTick_of_regular kind, and_self]
  case anchor =>
    intro nothing
    have newest : newestValidRegular v.prints = none :=
      newestValidRegular_of_none fun x hx => Print.counts_eq_false.mpr (nothing x hx)
    refine ⟨fun a anchor => ?_, fun anchor => ?_⟩ <;> simp [derivedLast, derivedTick, newest, anchor]
  · exact if_neg (Nat.not_lt.mpr le)
  · exact if_pos lt
  · cases x <;> rfl
  · cases x <;> rfl

end Sys2Proof.Machine
end

section
/-! The reports of the feed after their sequence step (R40, R43, R45 to R58). -/

namespace Sys2Proof.Machine

/-! ### The sequence effects -/

section Reports

variable {body : Engine} {ops : List Word} {s : State} {p : PortId} {w : Word} {r : Request}

theorem reportEngine_of_config (config : s.mode = .config) : reportEngine body ops s = refuse .notLive s := if_pos config

/-- A report that the sequence step lets through is judged by its own steps (R43). -/
theorem reportEngine_of_judged (live : s.mode = .live) (nonzero : operand ops 0 ≠ 0)
    (fresh : classify s.quote.expectation (operand ops 0) ≠ .duplicate) :
    reportEngine body ops s =
      afterReport (classify s.quote.expectation (operand ops 0)) (operand ops 0) (body ops s) := by
  unfold reportEngine
  rw [if_neg (by rw [live]; nofun), if_neg nonzero]
  cases class_ : classify s.quote.expectation (operand ops 0) with
  | expected => rfl
  | gap => rfl
  | duplicate => exact absurd class_ fresh

/-- What a report leaves, whatever its own steps answer but TAPE_FULL (R43, R48). -/
theorem Request.exec_report {a : Answer} {ws : List Word} {t : State} (received : s.receives p w r ops)
    (engine : engineOf p r = reportEngine body) (live : s.mode = .live) (nonzero : operand ops 0 ≠ 0)
    (fresh : classify s.quote.expectation (operand ops 0) ≠ .duplicate) (answers : body ops s = ⟨a, ws, t⟩)
    (judged : a ≠ .tapeFull) :
    exec (r.row p w .now) s =
      .next ((((t.setExpectation (some (successor (operand ops 0)))).recordSome .feed a.feedCondition).recordSome .feed
        (if classify s.quote.expectation (operand ops 0) = .gap then some .sequenceGap else none)).answered p a ws) := by
  refine Request.exec_row_now received ?_
  rw [engine, reportEngine_of_judged live nonzero fresh, answers]
  exact if_neg judged

/-- R50: TAPE_FULL leaves everything. -/
theorem Request.exec_report_tapeFull (received : s.receives p w r ops) (engine : engineOf p r = reportEngine body)
    (live : s.mode = .live) (nonzero : operand ops 0 ≠ 0)
    (fresh : classify s.quote.expectation (operand ops 0) ≠ .duplicate) (full : body ops s = refuse .tapeFull s) :
    exec (r.row p w .now) s = .next (s.answered p .tapeFull []) := by
  refine Request.exec_row_now received ?_
  rw [engine, reportEngine_of_judged live nonzero fresh, full]
  exact if_pos rfl

end Reports

/-- Settles O23, check by check. -/
theorem sequenceReset : Obligations.SequenceReset := by
  refine fun s p w ops => ⟨fun r feed received config => ?_, fun e received live => ?_, fun received live words => ?_⟩
  · obtain rfl | rfl | rfl := feed
    · exact Request.exec_refused received (reportEngine_of_config config)
    · exact Request.exec_refused received (reportEngine_of_config config)
    · exact Request.exec_checked_refused received rfl (firstRefusal_fail (decide_eq_true config))
  · refine Request.exec_checked_done received rfl ?_ ?_
    · exact (firstRefusal_pass (decide_eq_false (by rw [live]; nofun))).trans (firstRefusal_pass rfl)
    · have same : (operand [e] 0 = 0) = (e = 0) := propext (BitVec.toNat_eq (x := e) (y := 0)).symm
      simp only [same]
      rfl
  · refine Request.exec_checked_refused received rfl ?_
    exact (firstRefusal_pass (decide_eq_false (by rw [live]; nofun))).trans (firstRefusal_fail (decide_eq_true words))

/-! ### The checks of TRADE REPORT -/

theorem flagOperand_isNone (ops : List Word) (i : Nat) : (flagOperand ops i).isNone = decide (1 < operand ops i) := by
  unfold flagOperand
  split
  next zero => rw [zero]; rfl
  next one => rw [one]; rfl
  next hzero hone => exact (decide_eq_true ((Nat.two_le_iff _).mpr ⟨hzero, hone⟩)).symm

theorem le_of_flagOperand {ops : List Word} {i : Nat} {b : Bool} (h : flagOperand ops i = some b) : operand ops i ≤ 1 := by
  have none_ := flagOperand_isNone ops i
  rw [h] at none_
  exact Nat.not_lt.mp (of_decide_eq_false none_.symm)

/-- What makes a TRADE REPORT well formed (R46 step 3). -/
def formsTrade (ops : List Word) : Prop :=
  ops.length = 7 ∧ operand ops 1 < 2048 ∧ (∃ x, salePrice ops 2 = some x) ∧
  1 ≤ operandPair ops 4 ∧ operandPair ops 4 ≤ 9999999 ∧ operand ops 6 ≤ 1

section Trade

variable {ops : List Word} {s : State}

/-- R46: the checks of a TRADE REPORT after its sequence step. -/
theorem tradeCheck_eq : tradeCheck ops s = firstRefusal
    [(decide (ops.length ≠ 7) || badIndex ops 1 || (salePrice ops 2).isNone || decide (operandPair ops 4 = 0)
        || decide (9999999 < operandPair ops 4) || (flagOperand ops 6).isNone, .malformed),
     ((s.instr (operand ops 1)).isVacant, .unknownInstrument), (decide (s.quote.session = .closed), .sessionClosed),
     ((s.instr (operand ops 1)).isHalted, .tradeHalted),
     (!onGrid (s.instr (operand ops 1)).denominator ((salePrice ops 2).getD 0), .priceGrid),
     (s.anyFull (s.carrying (s.instr (operand ops 1))) 248, .tapeFull)] := rfl

theorem badTrade_iff : (decide (ops.length ≠ 7) || badIndex ops 1 || (salePrice ops 2).isNone ||
    decide (operandPair ops 4 = 0) || decide (9999999 < operandPair ops 4) || (flagOperand ops 6).isNone) = false ↔
      formsTrade ops := by
  unfold formsTrade
  simp only [Bool.or_eq_false_iff, decide_eq_false_iff_not, ne_eq, not_not, badIndex_eq_false, flagOperand_isNone,
    Option.isNone_eq_false_iff, Option.isSome_iff_exists, not_lt, and_assoc, Nat.one_le_iff_ne_zero]

theorem isHalted_eq_false {v : Instrument} (active : v.trading = .active) : v.isHalted = false := by
  simp [Instrument.isHalted, active]

theorem isHalted_eq_true {v : Instrument} {reason : Nat} (halted : v.trading = .halted reason) : v.isHalted = true := by
  simp [Instrument.isHalted, halted]

theorem tradeCheck_malformed (bad : ¬ formsTrade ops) : tradeCheck ops s = some .malformed :=
  tradeCheck_eq.trans (firstRefusal_fail (eq_true_of_ne_false (mt badTrade_iff.mp bad)))

theorem tradeCheck_unknown (good : formsTrade ops) (vacant : (s.instr (operand ops 1)).trading = .vacant) :
    tradeCheck ops s = some .unknownInstrument := by
  rw [tradeCheck_eq, firstRefusal_pass (badTrade_iff.mpr good), firstRefusal_fail (isVacant_eq_true.mpr vacant)]

theorem tradeCheck_closed (good : formsTrade ops) (present : (s.instr (operand ops 1)).trading ≠ .vacant)
    (closed : s.quote.session = .closed) : tradeCheck ops s = some .sessionClosed := by
  rw [tradeCheck_eq, firstRefusal_pass (badTrade_iff.mpr good), firstRefusal_pass (isVacant_false present),
    firstRefusal_fail (decide_eq_true closed)]

/-- The later checks, of a record that is not VACANT in an open session. -/
theorem tradeCheck_open (good : formsTrade ops) (present : (s.instr (operand ops 1)).trading ≠ .vacant)
    (opened : s.quote.session = .opened) : tradeCheck ops s = firstRefusal
      [((s.instr (operand ops 1)).isHalted, .tradeHalted),
       (!onGrid (s.instr (operand ops 1)).denominator ((salePrice ops 2).getD 0), .priceGrid),
       (s.anyFull (s.carrying (s.instr (operand ops 1))) 248, .tapeFull)] := by
  rw [tradeCheck_eq, firstRefusal_pass (badTrade_iff.mpr good), firstRefusal_pass (isVacant_false present),
    firstRefusal_pass (decide_eq_false (by rw [opened]; nofun))]

end Trade

theorem onGrid_false {d : Denominator} {x : Nat} (odd : x % d.grid ≠ 0) : (!onGrid d x) = true := by
  rw [Bool.not_eq_true', ← Bool.not_eq_true, onGrid_iff]
  exact odd

theorem onGrid_true {d : Denominator} {x : Nat} (even : x % d.grid = 0) : (!onGrid d x) = false := by
  rw [Bool.not_eq_false', onGrid_iff]
  exact even

theorem ne_vacant_of_eq {x y : TradingState} (h : x = y) (present : y ≠ .vacant) : x ≠ .vacant := h ▸ present

/-- Settles O25: the check that fails, with the sequence effects of `Request.exec_report`. -/
theorem tradeReportRefusals : Obligations.TradeReportRefusals := by
  refine ⟨fun s p c => ⟨rfl, rfl⟩, fun s p w ops received live nonzero fresh => ?_⟩
  have refuses {a : Answer} (check : tradeCheck ops s = some a) (judged : a ≠ .tapeFull) :=
    Request.exec_report received rfl live nonzero fresh (checked_of_some (act := tradeApply) check) judged
  refine ⟨fun bad => refuses (tradeCheck_malformed bad) nofun,
    fun good vacant => refuses (tradeCheck_unknown good vacant) nofun,
    fun good present closed => refuses (tradeCheck_closed good present closed) nofun,
    fun reason good halted opened => refuses ?_ nofun,
    fun x good active opened price odd => refuses ?_ nofun, fun x good active opened price even full => ?_⟩
  · rw [tradeCheck_open good (ne_vacant_of_eq halted nofun) opened, firstRefusal_fail (isHalted_eq_true halted)]
  · rw [tradeCheck_open good (ne_vacant_of_eq active nofun) opened, firstRefusal_pass (isHalted_eq_false active), price,
      Option.getD_some, firstRefusal_fail (onGrid_false odd)]
  · refine Request.exec_report_tapeFull received rfl live nonzero fresh (checked_of_some (act := tradeApply) ?_)
    rw [tradeCheck_open good (ne_vacant_of_eq active nofun) opened, firstRefusal_pass (isHalted_eq_false active), price,
      Option.getD_some, firstRefusal_pass (onGrid_true even), firstRefusal_fail (State.anyFull_eq_true.mpr full)]

/-! ### The record after a trade -/

/-- The record whose anchors a joining print leaves: the one that folds the print that leaves (R5). -/
def Instrument.afterLeaving (v : Instrument) : Instrument :=
  match leavingPrint v with
  | none => v
  | some q => foldAnchor q v

theorem afterLeaving_of_room {v : Instrument} (room : v.prints.length < 8) : v.afterLeaving = v := by
  have stays : leavingPrint v = none := if_neg (Nat.not_le.mpr room)
  rw [Instrument.afterLeaving, stays]

theorem afterLeaving_of_full {v : Instrument} {q : Print} (full : 8 ≤ v.prints.length) (oldest : v.prints.head? = some q) :
    v.afterLeaving = foldAnchor q v := by
  have leaves : leavingPrint v = some q := (if_pos full).trans oldest
  rw [Instrument.afterLeaving, leaves]

theorem joinPrint_eq_afterLeaving (p : Print) (v : Instrument) : joinPrint p v =
    { v with
      prints := (if 8 ≤ v.prints.length then v.prints.drop 1 else v.prints) ++ [p]
      anchorHigh := v.afterLeaving.anchorHigh, anchorLow := v.afterLeaving.anchorLow
      anchorLast := v.afterLeaving.anchorLast } := by
  have prints : (joinPrint p v).prints = (if 8 ≤ v.prints.length then v.prints.drop 1 else v.prints) ++ [p] := by
    rw [List.drop_one]
    exact prints_joinPrint p v
  rw [joinPrint_eq, prints]
  unfold joinPrint Instrument.afterLeaving leavingPrint
  cases v.prints with
  | nil => rfl
  | cons first rest => dsimp only; split <;> rfl

theorem foldAnchor_of_canceled {q : Print} {v : Instrument} (canceled : q.valid = false) : foldAnchor q v = v :=
  if_neg (by rw [canceled]; nofun)

/-- R5: what the anchors take over from a VALID print that leaves. -/
theorem foldAnchor_of_valid {q : Print} {v : Instrument} (valid : q.valid = true) : foldAnchor q v =
    { v with
      anchorHigh := some (max (v.anchorHigh.getD q.price) q.price)
      anchorLow := some (min (v.anchorLow.getD q.price) q.price)
      anchorLast :=
        match q.kind with
        | .regular t => some ⟨q.price, q.size, t⟩
        | .late => v.anchorLast } := by
  unfold foldAnchor raiseTo lowerTo
  rw [if_pos valid]
  cases v.anchorHigh <;> cases v.anchorLow <;> cases q.kind <;> simp

section Accept

variable (price size : Nat) (late : Bool) (v : Instrument)

/-- R26, R51: the tick of a REGULAR trade. -/
def tradeTick : Tick := tickFunction price (tickReference v) v.tick

/-- R51, R52: the record after a trade, field by field. -/
theorem acceptPrint_eq : acceptPrint (formPrint price size late v) v =
    bringHighLow
      { v with
        prints := (if 8 ≤ v.prints.length then v.prints.drop 1 else v.prints) ++
          [⟨v.nextNumber, if late then .late else .regular (tradeTick price v), price, size, true⟩]
        anchorHigh := v.afterLeaving.anchorHigh, anchorLow := v.afterLeaving.anchorLow
        anchorLast := v.afterLeaving.anchorLast
        nextNumber := successor v.nextNumber
        last := if late then v.last else some ⟨price, size⟩
        tick := if late then v.tick else tradeTick price v
        reversal := if late then v.reversal else reversalOf (tradeTick price v) v.tick
        opening := if late ∨ v.opening.isSome then v.opening else some ⟨price, v.nextNumber⟩
        volume := (volumeAfter v.volume v.saturated 0 size).1
        saturated := (volumeAfter v.volume v.saturated 0 size).2
        tradeCount := countUp v.tradeCount } := by
  unfold acceptPrint
  rw [joinPrint_eq_afterLeaving]
  cases late with
  | true => rfl
  | false => cases v.opening <;> simp [showSale, formPrint, tradeTick]

end Accept

theorem successor_eq (n : Nat) : successor n = if n < 65535 then n + 1 else 1 := by
  unfold successor
  split <;> split <;> omega

theorem departs_eq (v : Instrument) : leavingPrint v = if 8 ≤ v.prints.length then v.prints.head? else none := rfl

theorem tickReference_eq (v : Instrument) : tickReference v = match v.last with
    | some l => some l.price
    | none => v.prevClose := rfl

/-- Settles O24: the record is `acceptPrint_eq`'s, and its anchors those of the print that leaves. -/
theorem tradeReportApplies : Obligations.TradeReportApplies := by
  refine ⟨fun s i q => ⟨rfl, rfl⟩, fun s p w ops price late received words live nonzero fresh index operand_ positive low high
    flag active opened even room => ?_⟩
  have sale : salePrice ops 2 = some price := salePrice_eq_some.mpr ⟨operand_, positive⟩
  have good : formsTrade ops := ⟨words, index, ⟨price, sale⟩, low, high, le_of_flagOperand flag⟩
  have passes : tradeCheck ops s = none := by
    rw [tradeCheck_open good (ne_vacant_of_eq active nofun) opened, firstRefusal_pass (isHalted_eq_false active), sale,
      Option.getD_some, firstRefusal_pass (onGrid_true even), firstRefusal_pass (State.anyFull_eq_false.mpr room)]
    rfl
  refine ⟨acceptPrint (formPrint price (operandPair ops 4) late (s.instr (operand ops 1))) (s.instr (operand ops 1)), ?_, ?_⟩
  · refine Request.exec_report received rfl live nonzero fresh ((checked_of_none (act := tradeApply) passes).trans ?_) nofun
    unfold tradeApply
    rw [sale, flag]
    rfl
  · rw [acceptPrint_eq]
    refine ⟨rfl, successor_eq _, rfl, rfl, rfl, rfl, rfl, rfl, rfl, rfl, fun short => ?_, fun q full oldest canceled => ?_,
      fun q full oldest valid => ?_, rfl⟩
    · rw [afterLeaving_of_room short]
      exact ⟨rfl, rfl, rfl⟩
    · rw [afterLeaving_of_full full oldest, foldAnchor_of_canceled canceled]
      exact ⟨rfl, rfl, rfl⟩
    · rw [afterLeaving_of_full full oldest, foldAnchor_of_valid valid]
      exact ⟨rfl, rfl, rfl⟩

/-! ### QUOTE REPORT -/

/-- What makes a QUOTE REPORT well formed, with its sides (R56). -/
def formsQuote (ops : List Word) (bid ask : Option Nat) : Prop :=
  ops.length = 8 ∧ operand ops 1 < 2048 ∧ optionalPrice ops 2 = some bid ∧ optionalPrice ops 4 = some ask ∧
  operand ops 6 ≤ 9999 ∧ operand ops 7 ≤ 9999

section Quote

variable {ops : List Word} {s : State} {bid ask : Option Nat}

theorem quoteCheck_malformed (bad : ∀ bid ask, ¬ formsQuote ops bid ask) : quoteCheck ops s = some .malformed := by
  refine firstRefusal_fail (by_contra fun h => ?_)
  simp only [Bool.not_eq_true, Bool.or_eq_false_iff, decide_eq_false_iff_not, ne_eq, not_not, badIndex_eq_false,
    Option.isNone_eq_false_iff, Option.isSome_iff_exists, not_lt] at h
  obtain ⟨⟨⟨⟨⟨words, index⟩, bid, hbid⟩, ask, hask⟩, bidSize⟩, askSize⟩ := h
  exact bad bid ask ⟨words, index, hbid, hask, bidSize, askSize⟩

/-- R56: the checks of a well-formed QUOTE REPORT. -/
theorem quoteCheck_of_formed (formed : formsQuote ops bid ask) : quoteCheck ops s = firstRefusal
    [((s.instr (operand ops 1)).isVacant, .unknownInstrument), (decide (s.quote.session = .closed), .sessionClosed),
     ((bid.any fun p => !onGrid (s.instr (operand ops 1)).denominator p)
        || ask.any fun p => !onGrid (s.instr (operand ops 1)).denominator p, .priceGrid)] := by
  obtain ⟨words, index, hbid, hask, bidSize, askSize⟩ := formed
  simp only [quoteCheck, sideOffGrid, hbid, hask]
  refine firstRefusal_pass ?_
  simpa [words, badIndex_eq_false.mpr index] using ⟨bidSize, askSize⟩

theorem quotedInstrument_of_formed (formed : formsQuote ops bid ask) (v : Instrument) : quotedInstrument ops v =
    { v with
      bid := bid, ask := ask, bidSize := operand ops 6, askSize := operand ops 7
      quoteCondition := quoteConditionOf bid ask v.fast } := by
  obtain ⟨-, -, hbid, hask, -, -⟩ := formed
  simp [quotedInstrument, hbid, hask]

/-- R3, R58: a quote changes nothing else that is displayed. -/
theorem mem_changedFields_of_quote {v : Instrument} (present : v.trading ≠ .vacant) (bid ask : Option Nat) (m n : Nat)
    (c : QuoteCondition) (f : Field)
    (h : f ∈ changedFields v { v with bid := bid, ask := ask, bidSize := m, askSize := n, quoteCondition := c }) :
    f ∈ [Field.bid, .ask, .bidSize, .askSize, .status] := by
  rw [changedFields_of_present (isVacant_false present), mem_filter_fields] at h
  · cases f <;> simp [fieldDiffers] at h ⊢
  · exact isVacant_false present

end Quote

/-- Settles O27: the checks in order, with the sequence effects of `Request.exec_report`. -/
theorem quoteReportApplies : Obligations.QuoteReportApplies := by
  refine fun s p w ops received live nonzero fresh => ?_
  have refuses {a : Answer} (check : quoteCheck ops s = some a) (judged : a ≠ .tapeFull) :=
    Request.exec_report received rfl live nonzero fresh
      (checked_of_some (act := fun ops s => done (s.change (operand ops 1) (quotedInstrument ops (s.named ops 1)) true))
        check) judged
  refine ⟨fun bad => refuses (quoteCheck_malformed bad) nofun, fun bid ask formed => ?_⟩
  have check := quoteCheck_of_formed (s := s) formed
  have even_iff : ((bid.any fun p => !onGrid (s.instr (operand ops 1)).denominator p)
      || ask.any fun p => !onGrid (s.instr (operand ops 1)).denominator p) = false ↔
        (∀ x, bid = some x → x % (s.instr (operand ops 1)).denominator.grid = 0) ∧
          ∀ x, ask = some x → x % (s.instr (operand ops 1)).denominator.grid = 0 := by
    rw [Bool.or_eq_false_iff, any_off_iff, any_off_iff]
  refine ⟨fun vacant => refuses ?_ nofun, fun present closed => refuses ?_ nofun,
    fun present opened odd => refuses ?_ nofun, fun present opened even => ⟨?_, ?_⟩⟩
  · rw [check, firstRefusal_fail (isVacant_eq_true.mpr vacant)]
  · rw [check, firstRefusal_pass (isVacant_false present), firstRefusal_fail (decide_eq_true closed)]
  · rw [check, firstRefusal_pass (isVacant_false present), firstRefusal_pass (decide_eq_false (by rw [opened]; nofun)),
      firstRefusal_fail (eq_true_of_ne_false (mt even_iff.mp odd))]
  · refine Request.exec_report received rfl live nonzero fresh ((checked_of_none (check := quoteCheck) ?_).trans ?_) nofun
    · rw [check, firstRefusal_pass (isVacant_false present), firstRefusal_pass (decide_eq_false (by rw [opened]; nofun)),
        firstRefusal_pass (even_iff.mpr even)]
      rfl
    · rw [State.named, quotedInstrument_of_formed formed]
      rfl
  · exact fun f hf => mem_changedFields_of_quote present bid ask _ _ _ f hf

end Sys2Proof.Machine
end

section
/-! The texts (R31 to R39, R72, R91, R92, R150). -/

namespace Sys2Proof.Machine

/-! ### Decimal numbers -/

theorem decimal_of_lt {n : Nat} (h : n < 10) : decimal n = [BitVec.ofNat 8 (48 + n)] := by
  rw [decimal, Nat.toDigits_of_lt_base h]
  interval_cases n <;> rfl

theorem decimal_of_le {n : Nat} (h : 10 ≤ n) : decimal n = decimal (n / 10) ++ [BitVec.ofNat 8 (48 + n % 10)] := by
  have last := decimal_of_lt (Nat.mod_lt n (by decide : 10 > 0))
  rw [decimal, Nat.toDigits_of_lt_base (Nat.mod_lt n (by decide))] at last
  rw [decimal, Nat.toDigits_of_base_le (by decide) h, List.map_append, ← last]
  rfl

theorem exists_digit_of_mem_decimal {n : Nat} {b : Byte} (h : b ∈ decimal n) : ∃ k < 10, b = BitVec.ofNat 8 (48 + k) := by
  induction n using Nat.strong_induction_on with
  | _ n ih =>
    obtain small | large := Nat.lt_or_ge n 10
    · rw [decimal_of_lt small, List.mem_singleton] at h
      exact ⟨n, small, h⟩
    · rw [decimal_of_le large, List.mem_append, List.mem_singleton] at h
      obtain rest | last := h
      · exact ih _ (by omega) rest
      · exact ⟨n % 10, Nat.mod_lt n (by decide), last⟩

theorem ne_space_of_mem_decimal {n : Nat} {b : Byte} (h : b ∈ decimal n) : b ≠ space := by
  obtain ⟨k, lt, rfl⟩ := exists_digit_of_mem_decimal h
  interval_cases k <;> decide

theorem decimal_ne_nil (n : Nat) : decimal n ≠ [] := by
  obtain small | large := Nat.lt_or_ge n 10
  · rw [decimal_of_lt small]
    exact List.cons_ne_nil _ _
  · rw [decimal_of_le large]
    exact List.append_ne_nil_of_right_ne_nil _ (List.cons_ne_nil _ _)

/-! ### Prices -/

theorem fractionText_of_zero {price : Nat} (h : price % 256 = 0) : fractionText price = [] := if_pos h

/-- R32: a fraction of eighths is a glyph. -/
theorem fractionText_of_eighths {price n : Nat} (one_le : 1 ≤ n) (h : price % 256 = 32 * n) :
    fractionText price = [BitVec.ofNat 8 (0x7F + n)] := by
  have coarse : 256 / Nat.gcd (price % 256) 256 ≤ 8 := by
    have divides : 32 ∣ Nat.gcd (price % 256) 256 := Nat.dvd_gcd ⟨n, h⟩ (by decide)
    have pos : 0 < Nat.gcd (price % 256) 256 := Nat.gcd_pos_of_pos_right _ (by decide)
    exact Nat.div_le_of_le_mul (by have := Nat.le_of_dvd pos divides; omega)
  have some_ : ¬ price % 256 = 0 := by omega
  simp only [fractionText]
  rw [if_neg some_, if_pos coarse, h, Nat.mul_div_cancel_left n (by decide)]

/-- R32: a finer fraction, in lowest terms. -/
theorem fractionText_of_fine {price n d : Nat} (fine : price % 32 ≠ 0) (lowest : Nat.gcd n d = 1)
    (same : price % 256 * d = 256 * n) :
    fractionText price = 0x20 :: (decimal n ++ [0x2F] ++ decimal d) := by
  have divides : d ∣ 256 := (Nat.Coprime.symm lowest).dvd_of_dvd_mul_right ⟨price % 256, by rw [← same, Nat.mul_comm]⟩
  obtain ⟨k, split⟩ := divides
  have dpos : 0 < d := Nat.pos_of_ne_zero (by rintro rfl; omega)
  have kpos : 0 < k := Nat.pos_of_ne_zero (by rintro rfl; omega)
  have rem : price % 256 = k * n := by
    refine Nat.eq_of_mul_eq_mul_right dpos ?_
    rw [same]
    conv_lhs => rw [split]
    ring
  have gcd_ : Nat.gcd (price % 256) 256 = k := by
    rw [rem]
    conv_lhs => rw [split, Nat.mul_comm d k, Nat.gcd_mul_left, lowest, Nat.mul_one]
  have numerator : price % 256 / k = n := by rw [rem, Nat.mul_div_cancel_left n kpos]
  have denominator : 256 / k = d := by rw [split, Nat.mul_div_cancel d kpos]
  have some_ : ¬ price % 256 = 0 := by omega
  have large : ¬ d ≤ 8 := by
    intro small
    interval_cases d <;> omega
  simp only [fractionText]
  rw [gcd_, if_neg some_, denominator, if_neg large, numerator]
  rfl

theorem priceText_of_whole {price : Nat} (h : price % 256 = 0) : priceText price = decimal (price / 256) := by
  rw [priceText, if_neg fun x => x.2 h, fractionText_of_zero h, List.append_nil]

theorem dropWhile_space {l : Text} (h : ∀ b ∈ l, b ≠ space) : l.dropWhile (fun b => b == space) = l := by
  rw [List.dropWhile_eq_self_iff]
  intro _
  simpa using h _ (List.getElem_mem _)

theorem glyph_ne_space {n : Nat} (one_le : 1 ≤ n) (h : n < 8) : BitVec.ofNat 8 (0x7F + n) ≠ space := by
  interval_cases n <;> decide

theorem priceText_of_eighths {price n : Nat} (one_le : 1 ≤ n) (h : price % 256 = 32 * n) : priceText price =
    (if price / 256 = 0 then [] else decimal (price / 256)) ++ [BitVec.ofNat 8 (0x7F + n)] := by
  have some_ : price % 256 ≠ 0 := by omega
  rw [priceText, fractionText_of_eighths one_le h]
  by_cases zero : price / 256 = 0
  · rw [if_pos ⟨zero, some_⟩, if_pos zero, List.nil_append]
    exact dropWhile_space fun b hb => List.mem_singleton.mp hb ▸ glyph_ne_space one_le (by omega)
  · rw [if_neg fun x => zero x.1, if_neg zero]

theorem priceText_of_fine {price n d : Nat} (fine : price % 32 ≠ 0) (lowest : Nat.gcd n d = 1)
    (same : price % 256 * d = 256 * n) : priceText price =
      (if price / 256 = 0 then [] else decimal (price / 256) ++ [0x20]) ++ decimal n ++ [0x2F] ++ decimal d := by
  rw [priceText, fractionText_of_fine fine lowest same]
  by_cases zero : price / 256 = 0
  · rw [if_pos ⟨zero, by omega⟩, if_pos zero, List.nil_append]
    refine (List.dropWhile_cons_of_pos rfl).trans (dropWhile_space fun b hb => ?_)
    simp only [List.mem_append, List.mem_singleton] at hb
    obtain (digit | rfl) | digit := hb
    · exact ne_space_of_mem_decimal digit
    · decide
    · exact ne_space_of_mem_decimal digit
  · rw [if_neg fun x => zero x.1, if_neg zero]
    simp

/-- R32: the three forms of a price. -/
theorem price_cases (price : Nat) : price % 256 = 0 ∨ (∃ n, 1 ≤ n ∧ price % 256 = 32 * n) ∨
    price % 32 ≠ 0 ∧ ∃ n d, Nat.gcd n d = 1 ∧ price % 256 * d = 256 * n := by
  by_cases eighths : price % 32 = 0
  · by_cases whole : price % 256 = 0
    · exact .inl whole
    · exact .inr (.inl ⟨price % 256 / 32, by omega, by omega⟩)
  · obtain ⟨n, d, lowest, rem, unit⟩ := Nat.exists_coprime (price % 256) 256
    refine .inr (.inr ⟨eighths, n, d, lowest, ?_⟩)
    conv_lhs => rw [rem]
    conv_rhs => rw [unit]
    ring

theorem priceText_ne_nil (price : Nat) : priceText price ≠ [] := by
  obtain whole | ⟨n, one_le, eighths⟩ | ⟨fine, n, d, lowest, same⟩ := price_cases price
  · rw [priceText_of_whole whole]
    exact decimal_ne_nil _
  · rw [priceText_of_eighths one_le eighths]
    exact List.append_ne_nil_of_right_ne_nil _ (List.cons_ne_nil _ _)
  · rw [priceText_of_fine fine lowest same]
    exact List.append_ne_nil_of_right_ne_nil _ (decimal_ne_nil _)

/-! ### Fields -/

@[simp] theorem length_blanks (n : Nat) : (blanks n).length = n := List.length_replicate

@[simp] theorem length_fit (width : Nat) (j : Justification) (t : Text) : (fit width j t).length = width := by
  unfold fit
  split
  · cases j <;> simp <;> omega
  · exact List.length_replicate

@[simp] theorem length_fitField (width : Nat) (j : Justification) (t : Option Text) :
    (fitField width j t).length = width := by
  cases t with
  | none => exact length_blanks width
  | some t => exact length_fit width j t

theorem fit_of_le {width : Nat} {j : Justification} {t : Text} (h : t.length ≤ width) : fit width j t =
    match j with
    | .right => blanks (width - t.length) ++ t
    | .left => t ++ blanks (width - t.length) := if_pos h

theorem fit_of_lt {width : Nat} {j : Justification} {t : Text} (h : width < t.length) :
    fit width j t = List.replicate width 0x89 := if_neg (Nat.not_le.mpr h)

theorem twoDigits_eq {n : Nat} (h : n < 100) :
    twoDigits n = [BitVec.ofNat 8 (48 + n / 10), BitVec.ofNat 8 (48 + n % 10)] := by
  have tens : n / 10 % 10 = n / 10 := Nat.mod_eq_of_lt (by omega)
  rw [twoDigits, tens, decimal_of_lt (by omega), decimal_of_lt (Nat.mod_lt n (by decide))]
  rfl

theorem clockText_eq {t h m : Nat} (hour : h < 24) (minute : m < 60) (time : t / 60 = 60 * h + m) : clockText t =
    [BitVec.ofNat 8 (48 + h / 10), BitVec.ofNat 8 (48 + h % 10), 0x3A,
      BitVec.ofNat 8 (48 + m / 10), BitVec.ofNat 8 (48 + m % 10)] := by
  have hours : t / 3600 = h := by omega
  have minutes : t % 3600 / 60 = m := by omega
  rw [clockText, hours, minutes, twoDigits_eq (by omega), twoDigits_eq (by omega)]
  rfl

/-- R33: net change. -/
theorem netChangeText_eq {price : Nat → Text} {width : Nat} {v : Instrument} {l : Sale} {c : Nat}
    (last : v.last = some l) (close : v.prevClose = some c) :
    (l.price = c → netChangeText price width v = some (if 4 ≤ width then ascii "UNCH" else ascii "0")) ∧
    (c < l.price → netChangeText price width v = some (ascii "+" ++ price (l.price - c))) ∧
    (l.price < c → netChangeText price width v = some (ascii "-" ++ price (c - l.price))) := by
  have change : netChange v = if c ≤ l.price then some (false, l.price - c) else some (true, c - l.price) := by
    simp [netChange, last, close]
  rw [netChangeText, change]
  refine ⟨fun same => ?_, fun up => ?_, fun down => ?_⟩
  · rw [if_pos same.ge, same, Nat.sub_self]
    rfl
  · have moved : l.price - c ≠ 0 := by omega
    rw [if_pos up.le]
    simp [moved]
  · have moved : c - l.price ≠ 0 := by omega
    rw [if_neg (Nat.not_le.mpr down)]
    simp [moved]

theorem netChangeText_eq_none {price : Nat → Text} {width : Nat} {v : Instrument}
    (h : v.last = none ∨ v.prevClose = none) : netChangeText price width v = none := by
  unfold netChangeText netChange
  cases hl : v.last <;> cases hc : v.prevClose <;> simp_all

theorem statusText_eq (v : Instrument) : statusText v = match v.trading with
    | .halted _ => some (ascii "HALT")
    | _ => if v.fast then some (ascii "FAST") else if v.quoteCondition = .crossed then some (ascii "XQ") else none := by
  unfold statusText Instrument.isHalted
  cases v.trading <;> rfl

/-! ### Cells -/

theorem cellBlinks_iff (s : State) (c : Cell) : s.cellBlinks c = true ↔
    ∃ i, c.field = .instrument .tick i ∧ (s.instr i).trading ≠ .vacant ∧ (s.instr i).reversal = true := by
  unfold State.cellBlinks
  split
  next i field =>
    rw [Bool.and_eq_true, Bool.not_eq_true', ← Bool.not_eq_true, isVacant_eq_true]
    constructor
    · exact fun h => ⟨i, field, h⟩
    · rintro ⟨j, same, h⟩
      rw [field] at same
      cases same
      exact h
  all_goals simp_all

theorem tapeStateText_of_normal {v : Ribbon} (normal : v.lateMode = .normal) : tapeStateText v = none := by
  unfold tapeStateText
  rw [normal]

theorem tapeStateText_of_late {v : Ribbon} (late : v.lateMode ≠ .normal) :
    tapeStateText v = some (ascii "LATE " ++ decimal (v.lag.toNat / 60000)) := by
  unfold tapeStateText
  cases mode : v.lateMode with
  | normal => exact absurd mode late
  | digitsDeleted => rfl
  | digitsVolumeDeleted => rfl

/-! ### Terminal lines -/

section Lines

variable (v : Instrument)

@[simp] theorem length_lineSymbol : (lineSymbol v).length = 6 := length_fit _ _ _

@[simp] theorem length_lineField (width : Nat) (f : Field) : (lineField v width f).length = width := length_fitField _ _ _

/-- The mark between the sides of a quote (R150). -/
def quoteMark : Byte := if v.bid.isSome ∨ v.ask.isSome then 0x78 else 0x20

theorem lineOfRecord_quote : lineOfRecord v .quote =
    lineSymbol v ++ [space] ++ lineField v 9 .bid ++ [space] ++ lineField v 9 .ask ++ [space]
      ++ lineField v 4 .bidSize ++ [quoteMark v] ++ lineField v 4 .askSize ++ lineField v 4 .status := by
  have mark : (if v.bid.isSome || v.ask.isSome then ascii "x" else [space]) = [quoteMark v] := by
    unfold quoteMark
    cases v.bid <;> cases v.ask <;> rfl
  rw [← mark]
  rfl

/-- R150: the columns of FULL. -/
theorem columns_full : let l := lineOfRecord v .full
    l.take 6 = lineSymbol v ∧ (l.drop 36).take 4 = lineField v 4 .status ∧ (l.drop 7).take 9 = lineField v 9 .last ∧
    (l.drop 17).take 8 = lineField v 8 .netChange ∧ (l.drop 26).take 1 = lineField v 1 .tick ∧
    (l.drop 28).take 7 = lineField v 7 .volume ∧ ∀ k ∈ [7, 17, 26, 28, 36], l[k - 1]? = some 0x20 := by
  simp [lineOfRecord, List.drop_append, List.getElem?_append, List.drop_eq_nil_of_le, space]

/-- R150: the columns of QUOTE. -/
theorem columns_quote : let l := lineOfRecord v .quote
    l.take 6 = lineSymbol v ∧ (l.drop 36).take 4 = lineField v 4 .status ∧ (l.drop 7).take 9 = lineField v 9 .bid ∧
    (l.drop 17).take 9 = lineField v 9 .ask ∧ (l.drop 27).take 4 = lineField v 4 .bidSize ∧
    (l.drop 32).take 4 = lineField v 4 .askSize ∧ l[31]? = some (quoteMark v) ∧
    ∀ k ∈ [7, 17, 27], l[k - 1]? = some 0x20 := by
  simp [lineOfRecord_quote, List.drop_append, List.getElem?_append, List.drop_eq_nil_of_le, space]

/-- R150: the columns of RANGE. -/
theorem columns_range : let l := lineOfRecord v .range
    l.take 6 = lineSymbol v ∧ (l.drop 36).take 4 = lineField v 4 .status ∧ (l.drop 7).take 9 = lineField v 9 .opening ∧
    (l.drop 17).take 9 = lineField v 9 .high ∧ (l.drop 27).take 8 = lineField v 8 .low ∧
    ∀ k ∈ [7, 17, 27, 36], l[k - 1]? = some 0x20 := by
  simp [lineOfRecord, List.drop_append, List.getElem?_append, List.drop_eq_nil_of_le, space]

theorem length_lineOfRecord (f : LineFormat) : (lineOfRecord v f).length = 40 := by
  cases f with
  | full => simp [lineOfRecord]
  | quote => simp [lineOfRecord_quote]
  | range => simp [lineOfRecord]

end Lines

theorem length_lineText (s : State) (l : Option LineContent) : (s.lineText l).length = 40 := by
  unfold State.lineText
  split
  · exact length_blanks 40
  · split
    · rfl
    · exact length_lineOfRecord _ _

theorem lineText_of_vacant {s : State} {i : Nat} (vacant : (s.instr i).trading = .vacant) (f : LineFormat) :
    s.lineText (some ⟨i, f⟩) = List.replicate 6 0x2D ++ List.replicate 34 0x20 :=
  if_pos (isVacant_eq_true.mpr vacant)

theorem lineText_of_present {s : State} {i : Nat} (present : (s.instr i).trading ≠ .vacant) (f : LineFormat) :
    s.lineText (some ⟨i, f⟩) = lineOfRecord (s.instr i) f :=
  if_neg (by rw [isVacant_false present]; nofun)

/-- Settles O21, text by text. -/
theorem renderedTextsFillTheirFields : Obligations.RenderedTextsFillTheirFields := by
  refine ⟨fun s dark c l => ⟨?cellLength, length_lineText s l⟩, fun _ => rfl, fun n => ⟨decimal_of_lt, decimal_of_le⟩,
    fun width j text => ⟨fun le => ⟨fit_of_le le, fit_of_le le⟩, fit_of_lt, rfl, rfl⟩, fun price => ?prices,
    fun price width v => ?fields, fun s c => ?cells, fun s i => ?lines⟩
  case cellLength =>
    cases dark with
    | true => exact length_blanks _
    | false => exact length_fitField _ _ _
  case prices =>
    refine ⟨fun whole => ⟨priceText_of_whole whole, ?_⟩, fun some_ => if_neg some_, fun n => priceText_of_eighths,
      fun n d => priceText_of_fine⟩
    rw [boardPrice, if_pos whole, priceText_of_whole whole]
    rfl
  case fields =>
    refine ⟨rfl, ?_, rfl, ?_, rfl, rfl, ?_, rfl, rfl, rfl, rfl, ?_, ?_, ?_, statusText_eq v, netChangeText_eq_none,
      fun l c last close => netChangeText_eq last close⟩
    · unfold symbolText
      cases v.cls <;> rfl
    · exact (Option.map_map price Opening.price v.opening).symm
    · exact (Option.map_map price Sale.price v.last).symm
    · cases h : v.bid <;> simp [fieldText, h]
    · cases h : v.ask <;> simp [fieldText, h]
    · cases h : v.tick <;> simp [fieldText, tickChar, h]
  case cells =>
    refine ⟨rfl, rfl, cellBlinks_iff s c, fun f i field vacant => ?_, fun f i field present => ?_,
      fun h m field hour minute time => ?_, fun field opened => ?_, fun field closed => ?_, fun r field => ⟨fun normal => ?_, fun late => ?_⟩⟩ <;>
      refine congrArg (fitField c.width c.justification) ?_ <;> rw [field]
    · exact if_pos (isVacant_eq_true.mpr vacant)
    · exact if_neg (by rw [isVacant_false present]; nofun)
    · exact congrArg some (clockText_eq hour minute time)
    · rw [opened]
      rfl
    · rw [closed]
      rfl
    · exact tapeStateText_of_normal normal
    · exact tapeStateText_of_late late
  case lines =>
    refine ⟨rfl, lineText_of_vacant, fun present => ?_⟩
    dsimp only
    simp only [lineText_of_present present]
    obtain ⟨f0, f1, f2, f3, f4, f5, f6⟩ := columns_full (s.instr i)
    obtain ⟨q0, q1, q2, q3, q4, q5, q6, q7⟩ := columns_quote (s.instr i)
    obtain ⟨r0, r1, r2, r3, r4, r5⟩ := columns_range (s.instr i)
    refine ⟨fun f => ?_, f2, f3, f4, f5, f6, q2, q3, q4, q5, q6, q7, r2, r3, r4, r5⟩
    cases f with
    | full => exact ⟨f0, f1⟩
    | quote => exact ⟨q0, q1⟩
    | range => exact ⟨r0, r1⟩

end Sys2Proof.Machine
end

section
/-! Halts and fast markets, cancels and corrections, supervisor text (R60 to R75). -/

namespace Sys2Proof.Machine

/-! ### The checks of the floor requests -/

section Floor

variable {n : Nat} {bad : Bool} {ops : List Word} {s : State} {rest : List (Bool × Answer)}

theorem badFloor_iff : (decide (ops.length ≠ n) || badIndex ops 0 || bad) = false ↔
    ops.length = n ∧ operand ops 0 < 2048 ∧ bad = false := by
  simp only [Bool.or_eq_false_iff, decide_eq_false_iff_not, ne_eq, not_not, badIndex_eq_false, and_assoc]

theorem floorChecks_malformed (h : ¬ (ops.length = n ∧ operand ops 0 < 2048 ∧ bad = false)) :
    firstRefusal (floorChecks n bad ops s ++ rest) = some .malformed :=
  firstRefusal_fail (eq_true_of_ne_false (mt badFloor_iff.mp h))

theorem floorChecks_unknown (formed : ops.length = n ∧ operand ops 0 < 2048 ∧ bad = false)
    (vacant : (s.instr (operand ops 0)).trading = .vacant) :
    firstRefusal (floorChecks n bad ops s ++ rest) = some .unknownInstrument :=
  (firstRefusal_pass (badFloor_iff.mpr formed)).trans (firstRefusal_fail (isVacant_eq_true.mpr vacant))

theorem floorChecks_pass (formed : ops.length = n ∧ operand ops 0 < 2048 ∧ bad = false)
    (present : (s.instr (operand ops 0)).trading ≠ .vacant) :
    firstRefusal (floorChecks n bad ops s ++ rest) = firstRefusal rest :=
  (firstRefusal_pass (badFloor_iff.mpr formed)).trans (firstRefusal_pass (isVacant_false present))

end Floor

/-! ### Halts and fast markets -/

/-- R3, R61, R62: a record whose trading state alone changes. -/
theorem changedFields_of_trading {v : Instrument} {x : TradingState} (present : v.trading ≠ .vacant) (hx : x ≠ .vacant)
    (moves : v.trading ≠ x) : changedFields v { v with trading := x } = [.status] := by
  rw [changedFields_of_present (isVacant_false present)]
  · simp [Field.all, fieldDiffers, List.filter, moves]
  · exact isVacant_false hx

theorem State.change_trading {s : State} {i : Nat} {v : Instrument} (same : s.instr i = v) (x : TradingState)
    (present : v.trading ≠ .vacant) (hx : x ≠ .vacant) (moves : v.trading ≠ x) :
    s.change i { v with trading := x } false = (s.setInstr i { v with trading := x }).handOn i [.status] false := by
  rw [State.change, same, changedFields_of_trading present hx moves]

/-- R3, R63: a record whose fast-market flag changes. -/
theorem changedFields_of_fast {v : Instrument} {fast : Bool} (present : v.trading ≠ .vacant) (moves : v.fast ≠ fast)
    (c : QuoteCondition) : changedFields v { v with fast := fast, quoteCondition := c } = [.status] := by
  rw [changedFields_of_present (isVacant_false present)]
  · simp [Field.all, fieldDiffers, List.filter, moves]
  · exact isVacant_false present

section Halts

variable {s : State} {ops : List Word} {p : PortId} {w : Word}

/-- Each of the four requests begins with the checks of the floor (R61 to R63). -/
theorem exists_floorChecks {r : Request} {n : Nat}
    (h : r = .halt ∧ n = 2 ∨ (r = .resume ∨ r = .setFastMarket ∨ r = .clearFastMarket) ∧ n = 1) :
    ∃ (bad : List Word → Bool) (rest : List Word → State → List (Bool × Answer)) (act : Engine),
      (∀ p, engineOf p r = checked (fun ops s => firstRefusal (floorChecks n (bad ops) ops s ++ rest ops s)) act) ∧
      ∀ ops, bad ops = false ↔ (r = .halt → operand ops 1 ≤ 15) := by
  obtain ⟨rfl, rfl⟩ | ⟨rfl | rfl | rfl, rfl⟩ := h
  · exact ⟨fun ops => decide (15 < operand ops 1), _, _, fun p => rfl, fun ops => by simp⟩
  · exact ⟨fun _ => false, _, _, fun p => rfl, fun ops => by simp⟩
  · exact ⟨fun _ => false, fun _ _ => [], _, fun p => rfl, fun ops => by simp⟩
  · exact ⟨fun _ => false, fun _ _ => [], _, fun p => rfl, fun ops => by simp⟩

theorem tradingNotice_halted (v : Instrument) : tradingNotice v "HALTED" = symbolText v ++ ascii " HALTED" :=
  List.append_assoc _ _ _

theorem tradingNotice_resumed (v : Instrument) : tradingNotice v "RESUMED" = symbolText v ++ ascii " RESUMED" :=
  List.append_assoc _ _ _

/-- R61: the checks of a well-formed HALT on a record that is not VACANT. -/
theorem haltCheck_of_present (words : ops.length = 2) (index : operand ops 0 < 2048) (reason : operand ops 1 ≤ 15)
    (present : (s.instr (operand ops 0)).trading ≠ .vacant) : haltCheck ops s = firstRefusal
      [((s.instr (operand ops 0)).isHalted, .inUse),
       (s.anyFull (s.carrying (s.instr (operand ops 0))) 256, .tapeFull)] :=
  floorChecks_pass ⟨words, index, decide_eq_false (Nat.not_lt.mpr reason)⟩ present

/-- R62: the check of a well-formed RESUME on a record that is not VACANT. -/
theorem resumeCheck_of_present (words : ops.length = 1) (index : operand ops 0 < 2048)
    (present : (s.instr (operand ops 0)).trading ≠ .vacant) : resumeCheck ops s = firstRefusal
      [((s.instr (operand ops 0)).isHalted && s.anyFull (s.carrying (s.instr (operand ops 0))) 256, .tapeFull)] :=
  floorChecks_pass ⟨words, index, rfl⟩ present

/-- R63: what SET FAST MARKET and CLEAR FAST MARKET do once their checks pass. -/
theorem fastMarketEngine_of_present {fast : Bool} (words : ops.length = 1) (index : operand ops 0 < 2048)
    (present : (s.instr (operand ops 0)).trading ≠ .vacant) : fastMarketEngine fast ops s =
      if (s.instr (operand ops 0)).fast = fast then done s
      else done (s.change (operand ops 0) ((s.instr (operand ops 0)).withFast fast) false) := by
  have passes : firstRefusal (floorChecks 1 false ops s) = none := by
    rw [← List.append_nil (floorChecks 1 false ops s), floorChecks_pass ⟨words, index, rfl⟩ present]
    rfl
  exact checked_of_none passes

end Halts

theorem exists_fastMarketEngine {r : Request} {fast : Bool}
    (h : r = .setFastMarket ∧ fast = true ∨ r = .clearFastMarket ∧ fast = false) (p : PortId) :
    engineOf p r = fastMarketEngine fast := by
  obtain ⟨rfl, rfl⟩ | ⟨rfl, rfl⟩ := h <;> rfl

/-- Settles O28: the floor's checks, then each request's own. -/
theorem haltsAndFastMarkets : Obligations.HaltsAndFastMarkets := by
  refine ⟨fun s p w ops r n which received => ?refused, fun s p w ops index => ⟨fun received words reason => ?halts,
    fun received words => ?resumes⟩, fun s p w ops r fast which received words index present => ?fast⟩
  case refused =>
    obtain ⟨bad, rest, act, engine, bad_iff⟩ := exists_floorChecks which
    refine ⟨fun malformed => ?_, fun formed vacant => ?_⟩
    · exact Request.exec_checked_refused received (engine p) (floorChecks_malformed (by rwa [bad_iff]))
    · exact Request.exec_checked_refused received (engine p) (floorChecks_unknown (by rwa [bad_iff]) vacant)
  case halts =>
    refine ⟨fun active room => ?_, fun _ halted => ?_, fun active full => ?_⟩
    · have present := ne_vacant_of_eq active nofun
      refine Request.exec_checked_done received rfl ?_ ?_
      · rw [haltCheck_of_present words index reason present, firstRefusal_pass (isHalted_eq_false active),
          firstRefusal_pass (State.anyFull_eq_false.mpr room)]
        rfl
      · dsimp only
        rw [State.change_trading rfl (.halted (operand ops 1)) present nofun (by rw [active]; nofun), tradingNotice_halted]
        rfl
    · refine Request.exec_checked_refused received rfl ?_
      rw [haltCheck_of_present words index reason (ne_vacant_of_eq halted nofun),
        firstRefusal_fail (isHalted_eq_true halted)]
    · refine Request.exec_checked_refused received rfl ?_
      rw [haltCheck_of_present words index reason (ne_vacant_of_eq active nofun),
        firstRefusal_pass (isHalted_eq_false active),
        firstRefusal_fail (eq_true_of_ne_false (mt State.anyFull_eq_false.mp full))]
  case resumes =>
    refine ⟨fun _ halted room => ?_, fun active => ?_, fun _ halted full => ?_, fun vacant => ?_⟩
    · have present := ne_vacant_of_eq halted nofun
      refine Request.exec_checked_done received rfl ?_ ?_
      · rw [resumeCheck_of_present words index present, isHalted_eq_true halted, State.anyFull_eq_false.mpr room]
        rfl
      · dsimp only
        rw [if_pos (isHalted_eq_true halted), State.change_trading rfl .active present nofun (by rw [halted]; nofun),
          tradingNotice_resumed]
        rfl
    · refine Request.exec_checked_done received rfl ?_ (if_neg (by rw [isHalted_eq_false active]; nofun))
      rw [resumeCheck_of_present words index (ne_vacant_of_eq active nofun), isHalted_eq_false active]
      rfl
    · refine Request.exec_checked_refused received rfl ?_
      rw [resumeCheck_of_present words index (ne_vacant_of_eq halted nofun), isHalted_eq_true halted,
        eq_true_of_ne_false (mt State.anyFull_eq_false.mp full)]
      rfl
    · exact Request.exec_checked_refused received rfl (floorChecks_unknown ⟨words, index, rfl⟩ vacant)
  case fast =>
    have engine := (congrFun (congrFun (exists_fastMarketEngine which p) ops) s).trans
      (fastMarketEngine_of_present words index present)
    refine ⟨fun stands => Request.exec_done received (engine.trans (if_pos stands)), fun moves => ?_⟩
    refine Request.exec_done received (engine.trans ((if_neg moves).trans ?_))
    rw [State.change, Instrument.withFast, changedFields_of_fast present moves]
    rfl

end Sys2Proof.Machine
end

section
/-! Cancels and corrections (R64 to R73). -/

namespace Sys2Proof.Machine

/-! ### The print that is named -/

section Missing

variable {v : Instrument} {n : Nat}

theorem Instrument.missing_of_valid {q : Print} (found : v.print n = some q) (valid : q.valid = true) :
    v.missing n = none := by
  rw [Instrument.missing, found]
  exact if_pos valid

theorem Instrument.missing_of_canceled {q : Print} (found : v.print n = some q) (canceled : q.valid = false) :
    v.missing n = some .notFound := by
  rw [Instrument.missing, found]
  exact if_neg (by rw [canceled]; nofun)

theorem Instrument.missing_of_short (absent : v.print n = none) (short : v.prints.length < 8) :
    v.missing n = some .notFound := by
  rw [Instrument.missing, absent]
  cases prints : v.prints with
  | nil => rfl
  | cons oldest rest =>
    rw [prints] at short
    exact if_neg fun h => Nat.not_le.mpr short h.1

/-- R64: a number that a full list does not hold, by its distance to the oldest. -/
theorem Instrument.missing_of_full {oldest : Print} (absent : v.print n = none) (full : v.prints.length = 8)
    (head : v.prints.head? = some oldest) : v.missing n =
      some (if 1 ≤ cycleDistance n oldest.number ∧ cycleDistance n oldest.number ≤ 32767 then .tooOld else .notFound) := by
  rw [Instrument.missing, absent]
  cases prints : v.prints with
  | nil => rw [prints] at head; cases head
  | cons first rest =>
    rw [prints] at head full
    cases head
    have reached : Config.printListLength ≤ (oldest :: rest).length := full.ge
    simp only [reached, true_and]
    split <;> rfl

theorem Instrument.print_eq_none (h : ∀ q ∈ v.prints, q.number ≠ n) : v.print n = none :=
  List.find?_eq_none.mpr fun q hq => by simpa using h q hq

theorem Instrument.number_of_print {q : Print} (found : v.print n = some q) : q.number = n := by
  simpa using List.find?_some found

theorem Instrument.mem_of_print {q : Print} (found : v.print n = some q) : q ∈ v.prints := List.mem_of_find?_eq_some found

end Missing

/-! ### The checks -/

section Checks

variable {ops : List Word} {s : State} {n : Nat} {bad : Bool} {a : Answer}

theorem firstRefusal_floorChecks_malformed (h : ¬ (ops.length = n ∧ operand ops 0 < 2048 ∧ bad = false)) :
    firstRefusal (floorChecks n bad ops s) = some .malformed := by
  rw [← List.append_nil (floorChecks n bad ops s)]
  exact floorChecks_malformed h

theorem firstRefusal_floorChecks_unknown (formed : ops.length = n ∧ operand ops 0 < 2048 ∧ bad = false)
    (vacant : (s.instr (operand ops 0)).trading = .vacant) :
    firstRefusal (floorChecks n bad ops s) = some .unknownInstrument := by
  rw [← List.append_nil (floorChecks n bad ops s)]
  exact floorChecks_unknown formed vacant

theorem firstRefusal_floorChecks_pass (formed : ops.length = n ∧ operand ops 0 < 2048 ∧ bad = false)
    (present : (s.instr (operand ops 0)).trading ≠ .vacant) : firstRefusal (floorChecks n bad ops s) = none := by
  rw [← List.append_nil (floorChecks n bad ops s)]
  exact floorChecks_pass formed present

/-- What makes a CANCEL PRINT well formed (R66). -/
def formsCancel (ops : List Word) : Prop := ops.length = 2 ∧ operand ops 0 < 2048 ∧ 1 ≤ operand ops 1

theorem formsCancel_iff :
    formsCancel ops ↔ ops.length = 2 ∧ operand ops 0 < 2048 ∧ decide (operand ops 1 = 0) = false := by
  rw [formsCancel, decide_eq_false_iff_not, Nat.one_le_iff_ne_zero]

theorem cancelPrintCheck_malformed (h : ¬ formsCancel ops) : cancelPrintCheck ops s = some .malformed := by
  rw [cancelPrintCheck, firstRefusal_floorChecks_malformed (mt formsCancel_iff.mpr h)]

theorem cancelPrintCheck_unknown (formed : formsCancel ops) (vacant : (s.instr (operand ops 0)).trading = .vacant) :
    cancelPrintCheck ops s = some .unknownInstrument := by
  rw [cancelPrintCheck, firstRefusal_floorChecks_unknown (formsCancel_iff.mp formed) vacant]

theorem cancelPrintCheck_missing (formed : formsCancel ops) (present : (s.instr (operand ops 0)).trading ≠ .vacant)
    (missing : (s.instr (operand ops 0)).missing (operand ops 1) = some a) : cancelPrintCheck ops s = some a := by
  rw [cancelPrintCheck, firstRefusal_floorChecks_pass (formsCancel_iff.mp formed) present]
  simp only [State.named, missing]

theorem cancelPrintCheck_found (formed : formsCancel ops) (present : (s.instr (operand ops 0)).trading ≠ .vacant)
    (found : (s.instr (operand ops 0)).missing (operand ops 1) = none) : cancelPrintCheck ops s =
      firstRefusal [(s.noRoom (s.instr (operand ops 0)) (operand ops 0) (operand ops 1), .tapeFull)] := by
  rw [cancelPrintCheck, firstRefusal_floorChecks_pass (formsCancel_iff.mp formed) present]
  simp only [State.named, found]

/-- What makes a CORRECT PRINT well formed, with its new price (R68). -/
def formsCorrection (ops : List Word) (price : Nat) : Prop :=
  ops.length = 6 ∧ operand ops 0 < 2048 ∧ 1 ≤ operand ops 1 ∧ salePrice ops 2 = some price ∧
  1 ≤ operandPair ops 4 ∧ operandPair ops 4 ≤ 9999999

/-- The part of R68's MALFORMED check that is CORRECT PRINT's own. -/
def badCorrection (ops : List Word) : Bool :=
  decide (operand ops 1 = 0) || (salePrice ops 2).isNone || decide (operandPair ops 4 = 0)
    || decide (9999999 < operandPair ops 4)

theorem badCorrection_iff : badCorrection ops = false ↔ 1 ≤ operand ops 1 ∧ (∃ x, salePrice ops 2 = some x) ∧
    1 ≤ operandPair ops 4 ∧ operandPair ops 4 ≤ 9999999 := by
  simp only [badCorrection, Bool.or_eq_false_iff, decide_eq_false_iff_not, Option.isNone_eq_false_iff,
    Option.isSome_iff_exists, not_lt, and_assoc, Nat.one_le_iff_ne_zero, ne_eq]

theorem formsCorrection.floor {price : Nat} (formed : formsCorrection ops price) :
    ops.length = 6 ∧ operand ops 0 < 2048 ∧ badCorrection ops = false := by
  obtain ⟨words, index, number, sale, low, high⟩ := formed
  exact ⟨words, index, badCorrection_iff.mpr ⟨number, ⟨price, sale⟩, low, high⟩⟩

theorem correctPrintCheck_eq : correctPrintCheck ops s =
    match firstRefusal (floorChecks 6 (badCorrection ops) ops s) with
    | some a => some a
    | none =>
      match (s.instr (operand ops 0)).missing (operand ops 1) with
      | some a => some a
      | none => firstRefusal
        [(!onGrid (s.instr (operand ops 0)).denominator ((salePrice ops 2).getD 0), .priceGrid),
         (s.noRoom (s.instr (operand ops 0)) (operand ops 0) (operand ops 1), .tapeFull)] := rfl

theorem correctPrintCheck_malformed (h : ∀ price, ¬ formsCorrection ops price) :
    correctPrintCheck ops s = some .malformed := by
  rw [correctPrintCheck_eq, firstRefusal_floorChecks_malformed]
  rintro ⟨words, index, good⟩
  obtain ⟨number, ⟨price, sale⟩, low, high⟩ := badCorrection_iff.mp good
  exact h price ⟨words, index, number, sale, low, high⟩

section Formed

variable {price : Nat} (formed : formsCorrection ops price)
include formed

theorem correctPrintCheck_unknown (vacant : (s.instr (operand ops 0)).trading = .vacant) :
    correctPrintCheck ops s = some .unknownInstrument := by
  rw [correctPrintCheck_eq, firstRefusal_floorChecks_unknown formed.floor vacant]

theorem correctPrintCheck_missing (present : (s.instr (operand ops 0)).trading ≠ .vacant)
    (missing : (s.instr (operand ops 0)).missing (operand ops 1) = some a) : correctPrintCheck ops s = some a := by
  rw [correctPrintCheck_eq, firstRefusal_floorChecks_pass formed.floor present]
  simp only [missing]

theorem correctPrintCheck_found (present : (s.instr (operand ops 0)).trading ≠ .vacant)
    (found : (s.instr (operand ops 0)).missing (operand ops 1) = none) : correctPrintCheck ops s = firstRefusal
      [(!onGrid (s.instr (operand ops 0)).denominator price, .priceGrid),
       (s.noRoom (s.instr (operand ops 0)) (operand ops 0) (operand ops 1), .tapeFull)] := by
  obtain ⟨-, -, -, sale, -, -⟩ := id formed
  rw [correctPrintCheck_eq, firstRefusal_floorChecks_pass formed.floor present, sale]
  simp only [found, Option.getD_some]

end Formed

end Checks

/-- Settles O29, from the cases of `Instrument.missing`. -/
theorem printsOutOfReach : Obligations.PrintsOutOfReach := by
  intro s p w ops r which received
  dsimp only
  intro index present number
  have refuses {a : Answer} (missing : (s.instr (operand ops 0)).missing (operand ops 1) = some a) :
      exec (r.row p w .now) s = .next (s.answered p a []) := by
    obtain ⟨rfl, words⟩ | ⟨rfl, words, ⟨price, sale⟩, low, high⟩ := which
    · exact Request.exec_checked_refused received rfl (cancelPrintCheck_missing ⟨words, index, number⟩ present missing)
    · exact Request.exec_checked_refused received rfl
        (correctPrintCheck_missing ⟨words, index, number, sale, low, high⟩ present missing)
  refine ⟨fun q mem named canceled only => refuses ?_, fun absent short => refuses ?_,
    fun oldest k absent full head one_le lt steps le => refuses ?_⟩
  · cases found : (s.instr (operand ops 0)).print (operand ops 1) with
    | none => exact absurd named (by simpa using List.find?_eq_none.mp found q mem)
    | some x =>
      obtain rfl := only x (Instrument.mem_of_print found) (Instrument.number_of_print found)
      exact Instrument.missing_of_canceled found canceled
  · exact Instrument.missing_of_short (Instrument.print_eq_none absent) short
  · have distance : cycleDistance (operand ops 1) oldest.number = k :=
      steps ▸ cycleDistance_iterate_successor number le lt
    rw [Instrument.missing_of_full (Instrument.print_eq_none absent) full head, distance]
    simp only [one_le, true_and]

end Sys2Proof.Machine
end

section
/-! What a cancel and a correction make of the record and of the tape (R67, R69 to R73). -/

namespace Sys2Proof.Machine

/-! ### The tape step -/

section Tape

variable (s : State) (v : Instrument) (i n r : Nat)

theorem State.isQueued_iff : s.isQueued r i n = true ↔ ∃ stamp copy, .print i n stamp copy ∈ (s.ribbon r).queue := by
  unfold State.isQueued
  rw [List.any_eq_true]
  constructor
  · rintro ⟨e, mem, is⟩
    obtain ⟨stamp, copy, rfl⟩ := (TapeEntry.isPrint_iff i n e).mp is
    exact ⟨stamp, copy, mem⟩
  · rintro ⟨stamp, copy, mem⟩
    exact ⟨_, mem, (TapeEntry.isPrint_iff i n _).mpr ⟨stamp, copy, rfl⟩⟩

theorem State.noRoom_eq_true : s.noRoom v i n = true ↔
    ∃ r ∈ s.carrying v, 256 ≤ (s.ribbon r).queue.length ∧ s.isQueued r i n = false := by
  unfold State.noRoom
  rw [List.any_eq_true]
  refine exists_congr fun r => and_congr_right fun _ => ?_
  rw [Bool.and_eq_true, decide_eq_true_iff, Bool.not_eq_true']
  rfl

theorem State.noRoom_eq_false : s.noRoom v i n = false ↔
    ∀ r ∈ s.carrying v, (s.ribbon r).queue.length < 256 ∨ s.isQueued r i n = true := by
  rw [← Bool.not_eq_true, State.noRoom_eq_true]
  push Not
  refine forall₂_congr fun r _ => ?_
  rw [← Bool.not_eq_false, imp_iff_not_or, not_le, ne_eq]

theorem State.tapeEffect_eq (k : Nat) : s.tapeEffect v i n k =
    if k ∈ s.carrying v then (if s.isQueued k i n then 1 else 2) else 0 := by
  simp only [State.tapeEffect, List.contains_iff_mem]

theorem State.tapeEffect_le (k : Nat) : s.tapeEffect v i n k ≤ 2 := by
  unfold State.tapeEffect
  split
  · split <;> decide
  · decide

/-- R174: the tape-effect word. -/
theorem State.effectWord_fields : ((s.effectWord v i n).extractLsb' 0 2).toNat = s.tapeEffect v i n 0 ∧
    ((s.effectWord v i n).extractLsb' 2 2).toNat = s.tapeEffect v i n 1 ∧ (s.effectWord v i n).toNat < 16 := by
  have h0 := s.tapeEffect_le v i n 0
  have h1 := s.tapeEffect_le v i n 1
  unfold State.effectWord word
  simp only [BitVec.extractLsb'_toNat, BitVec.toNat_ofNat, Nat.shiftRight_eq_div_pow]
  omega

end Tape

/-! ### The notice -/

theorem sizeText_of_round {size : Nat} (low : 200 ≤ size) (high : size ≤ 99900) (round : size % 100 = 0) :
    sizeText size = decimal (size / 100) ++ ascii "s" := by
  rw [sizeText, if_neg (by omega), if_pos ⟨round, low, high⟩]

theorem sizeText_of_odd {size : Nat} (other : size ≠ 100) (odd : ¬ (200 ≤ size ∧ size ≤ 99900 ∧ size % 100 = 0)) :
    sizeText size = decimal size ++ ascii "SHS" := by
  rw [sizeText, if_neg other, if_neg fun h => odd ⟨h.2.1, h.2.2, h.1⟩]

theorem sizeText_ne_nil {size : Nat} (other : size ≠ 100) : sizeText size ≠ [] := by
  by_cases round : 200 ≤ size ∧ size ≤ 99900 ∧ size % 100 = 0
  · rw [sizeText_of_round round.1 round.2.1 round.2.2]
    exact List.append_ne_nil_of_left_ne_nil (decimal_ne_nil _) _
  · rw [sizeText_of_odd other round]
    exact List.append_ne_nil_of_left_ne_nil (decimal_ne_nil _) _

theorem spaced_of_ne_nil {t : Text} (h : t ≠ []) : spaced t = space :: t := by
  rw [spaced, if_neg (mt List.isEmpty_iff.mp h)]

theorem spaced_sizeText (size : Nat) : spaced (sizeText size) = if size = 100 then [] else space :: sizeText size := by
  split
  next hundred => rw [sizeText, if_pos hundred]; rfl
  next other => exact spaced_of_ne_nil (sizeText_ne_nil other)

theorem printNotice_eq (word : String) (v : Instrument) (late : Bool) (price size : Nat) :
    printNotice word v late price size = ascii word ++ [0x20] ++ (if late then ascii "OOS " else []) ++ symbolText v ++
      (if size = 100 then [] else [0x20] ++ sizeText size) ++ [0x20] ++ priceText price := by
  rw [printNotice, spaced_sizeText, spaced_of_ne_nil (priceText_ne_nil price), List.append_assoc _ [0x20] (priceText price)]
  rfl

/-! ### The record -/

section Record

variable (v : Instrument) (q : Print)

theorem isNewest_iff : v.isNewest q = true ↔
    ((v.prints.filter Print.counts).getLast?).map (·.number) = some q.number := decide_eq_true_iff

theorem isOpening_iff : v.isOpening q = true ↔
    v.anchorLast = none ∧ v.opening.map (·.number) = some q.number := by
  rw [Instrument.isOpening, Bool.and_eq_true, Option.isNone_iff_eq_none, decide_eq_true_iff]

/-- The record after a cancel, before last and tick are taken afresh (R67 steps 1 to 3 and 5). -/
def Instrument.canceled : Instrument :=
  bringHighLow
    { v with
      prints := v.replacePrint { q with valid := false }
      volume := (volumeAfter v.volume v.saturated q.size 0).1
      saturated := (volumeAfter v.volume v.saturated q.size 0).2
      tradeCount := countDown v.tradeCount
      opening := openingAfterCancel q v }

theorem cancel_of_newest (newest : v.isNewest q = true) : v.cancel q = bringLast (v.canceled q) := if_pos newest

theorem cancel_of_older (older : v.isNewest q = false) : v.cancel q = v.canceled q := if_neg (by rw [older]; nofun)

/-- R67: what a cancel leaves of the record, newest print or not. -/
theorem cancel_fields :
    (v.cancel q).prints = v.replacePrint { q with valid := false } ∧
    ((v.cancel q).volume, (v.cancel q).saturated) = volumeAfter v.volume v.saturated q.size 0 ∧
    (v.cancel q).tradeCount = countDown v.tradeCount ∧ (v.cancel q).high = greatest (priceCollection (v.cancel q)) ∧
    (v.cancel q).low = least (priceCollection (v.cancel q)) ∧ (v.cancel q).opening = openingAfterCancel q v ∧
    v.cancel q = { v with
      prints := (v.cancel q).prints, volume := (v.cancel q).volume, saturated := (v.cancel q).saturated
      tradeCount := (v.cancel q).tradeCount, high := (v.cancel q).high, low := (v.cancel q).low
      last := (v.cancel q).last, tick := (v.cancel q).tick, reversal := (v.cancel q).reversal
      opening := (v.cancel q).opening } := by
  cases newest : v.isNewest q with
  | true =>
    rw [cancel_of_newest v q newest]
    exact ⟨rfl, rfl, rfl, rfl, rfl, rfl, rfl⟩
  | false =>
    rw [cancel_of_older v q newest]
    exact ⟨rfl, rfl, rfl, rfl, rfl, rfl, rfl⟩

variable (price size : Nat)

/-- The record after a correction, before last and tick are shown (R69 steps 1 to 4). -/
def Instrument.corrected : Instrument :=
  bringHighLow
    { v with
      prints := v.replacePrint (correctedPrint q price size v)
      volume := (volumeAfter v.volume v.saturated q.size size).1
      saturated := (volumeAfter v.volume v.saturated q.size size).2
      opening := if v.isOpening q then some ⟨price, q.number⟩ else v.opening }

theorem correct_of_newest (newest : v.isNewest q = true) :
    v.correct q price size = showCorrection (correctedPrint q price size v) (v.corrected q price size) := if_pos newest

theorem correct_of_older (older : v.isNewest q = false) : v.correct q price size = v.corrected q price size :=
  if_neg (by rw [older]; nofun)

/-- R69: what a correction leaves of the record, newest print or not. -/
theorem correct_fields : let u := v.correct q price size
    u.prints = v.replacePrint (correctedPrint q price size v) ∧
    (u.volume, u.saturated) = volumeAfter v.volume v.saturated q.size size ∧
    u.high = greatest (priceCollection u) ∧ u.low = least (priceCollection u) ∧
    u.opening = (if v.isOpening q then some ⟨price, q.number⟩ else v.opening) ∧
    u = { v with
      prints := u.prints, volume := u.volume, saturated := u.saturated, high := u.high, low := u.low
      last := u.last, tick := u.tick, reversal := u.reversal, opening := u.opening } := by
  dsimp only
  cases newest : v.isNewest q with
  | true =>
    rw [correct_of_newest v q price size newest]
    exact ⟨rfl, rfl, rfl, rfl, rfl, rfl⟩
  | false =>
    rw [correct_of_older v q price size newest]
    exact ⟨rfl, rfl, rfl, rfl, rfl, rfl⟩

end Record

theorem cancelPrintEngine_acts {ops : List Word} {s : State} {q : Print} (passes : cancelPrintCheck ops s = none)
    (found : (s.instr (operand ops 0)).print (operand ops 1) = some q) : cancelPrintEngine ops s =
      doneWith [s.effectWord (s.instr (operand ops 0)) (operand ops 0) q.number]
        ((s.change (operand ops 0) ((s.instr (operand ops 0)).cancel q) true).tapeStep
          (s.carrying (s.instr (operand ops 0))) (operand ops 0) q.number true
          (printNotice "CXL" (s.instr (operand ops 0)) (!q.isRegular) q.price q.size)) := by
  refine (checked_of_none passes).trans ?_
  simp only [found]

theorem correctPrintEngine_acts {ops : List Word} {s : State} {q : Print} {price : Nat}
    (passes : correctPrintCheck ops s = none) (sale : salePrice ops 2 = some price)
    (found : (s.instr (operand ops 0)).print (operand ops 1) = some q) : correctPrintEngine ops s =
      doneWith [s.effectWord (s.instr (operand ops 0)) (operand ops 0) q.number]
        ((s.change (operand ops 0) ((s.instr (operand ops 0)).correct q price (operandPair ops 4)) true).tapeStep
          (s.carrying (s.instr (operand ops 0))) (operand ops 0) q.number false
          (printNotice "CORR" (s.instr (operand ops 0)) (!q.isRegular) price (operandPair ops 4))) := by
  refine (checked_of_none passes).trans ?_
  simp only [found, sale, Option.getD_some]

/-- Settles O30: the checks, the record of `cancel_fields`, and the tape step ribbon by ribbon. -/
theorem cancelPrintRecomputes : Obligations.CancelPrintRecomputes := by
  refine ⟨fun q => ⟨Print.isRegular_iff, Print.counts_iff⟩, fun s p w ops q received => ?applied,
    fun s p w ops received => ⟨fun bad => ?_, fun words index number => ⟨fun vacant => ?_,
      fun q present found valid full => ?_⟩⟩,
    fun s v i n r rs text withdraws => ⟨s.isQueued_iff i n r, rfl, fun queued => ⟨?_, ?_⟩, fun gone => ?_, ?_⟩,
    fun v late price size => ⟨fun word _ => printNotice_eq word v late price size, sizeText_of_round, sizeText_of_odd⟩⟩
  case applied =>
    intro i v newest words index present number found valid room
    have missing := Instrument.missing_of_valid (v := v) found valid
    have named := Instrument.number_of_print (v := v) found
    have passes : cancelPrintCheck ops s = none := by
      rw [cancelPrintCheck_found ⟨words, index, number⟩ present missing, ← named,
        firstRefusal_pass ((s.noRoom_eq_false v i q.number).mpr room)]
      rfl
    obtain ⟨prints, volume, count, high, low, opening, rest⟩ := cancel_fields v q
    refine ⟨v.cancel q, Request.exec_done received (cancelPrintEngine_acts passes found), prints, volume, count, high, low,
      fun is => ?_, fun isnt => ?_, fun noAnchor first => ?_, fun other => ?_, rest⟩
    · rw [cancel_of_newest v q ((isNewest_iff v q).mpr is)]
      exact ⟨rfl, rfl, rfl⟩
    · rw [cancel_of_older v q (Bool.eq_false_iff.mpr (mt (isNewest_iff v q).mp isnt))]
      exact ⟨rfl, rfl, rfl⟩
    · exact opening.trans (if_pos ((isOpening_iff v q).mpr ⟨noAnchor, first⟩))
    · refine opening.trans (if_neg fun h => ?_)
      obtain ⟨noAnchor, first⟩ := (isOpening_iff v q).mp h
      obtain anchor | not_first := other
      · rw [noAnchor] at anchor
        cases anchor
      · exact not_first first
  · exact Request.exec_checked_refused received rfl (cancelPrintCheck_malformed bad)
  · exact Request.exec_checked_refused received rfl (cancelPrintCheck_unknown ⟨words, index, number⟩ vacant)
  · refine Request.exec_checked_refused received rfl ?_
    rw [cancelPrintCheck_found ⟨words, index, number⟩ present (Instrument.missing_of_valid found valid),
      firstRefusal_fail ((State.noRoom_eq_true _ _ _ _).mpr full)]
  · exact congrArg (State.tapeStep rs i n true text) (if_pos queued)
  · exact congrArg (State.tapeStep rs i n false text) (if_pos queued)
  · exact congrArg (State.tapeStep rs i n withdraws text) (if_neg (by rw [gone]; nofun))
  · obtain ⟨low, high, small⟩ := s.effectWord_fields v i n
    exact ⟨low.trans (s.tapeEffect_eq v i n 0), high.trans (s.tapeEffect_eq v i n 1), small⟩

/-- Settles O31: the checks, the record of `correct_fields`, and the print of `correctedPrint`. -/
theorem correctPrintRecomputes : Obligations.CorrectPrintRecomputes := by
  refine ⟨fun q t => Print.storedTick_of_regular, fun s p w ops q price received => ?applied,
    fun s p w ops received => ⟨fun bad => ?_, fun price formed => ?_⟩⟩
  case applied =>
    intro i size v newest words index present number operand_ positive low high found valid even room
    have sale : salePrice ops 2 = some price := salePrice_eq_some.mpr ⟨operand_, positive⟩
    have missing := Instrument.missing_of_valid (v := v) found valid
    have named := Instrument.number_of_print (v := v) found
    have passes : correctPrintCheck ops s = none := by
      rw [correctPrintCheck_found ⟨words, index, number, sale, low, high⟩ present missing, ← named,
        firstRefusal_pass (onGrid_true even), firstRefusal_pass ((s.noRoom_eq_false v i q.number).mpr room)]
      rfl
    obtain ⟨prints, volume, highIs, lowIs, opening, rest⟩ := correct_fields v q price size
    refine ⟨v.correct q price size, correctedPrint q price size v,
      Request.exec_done received (correctPrintEngine_acts passes sale found), rfl, fun late => ?_, fun t regular => ?_, prints,
      volume, highIs, lowIs, fun is => ?_, fun isnt => ?_, ?_, rest⟩
    · simp only [correctedPrint, late]
    · simp only [correctedPrint, regular]
      rfl
    · rw [correct_of_newest v q price size ((isNewest_iff v q).mpr is)]
      exact ⟨rfl, rfl, rfl⟩
    · rw [correct_of_older v q price size (Bool.eq_false_iff.mpr (mt (isNewest_iff v q).mp isnt))]
      exact ⟨rfl, rfl, rfl⟩
    · rw [opening]
      simp only [isOpening_iff]
  · refine Request.exec_checked_refused received rfl (correctPrintCheck_malformed fun price => ?_)
    rintro ⟨words, index, number, sale, low, high⟩
    obtain ⟨operand_, positive⟩ := salePrice_eq_some.mp sale
    exact bad price ⟨words, index, number, operand_, positive, low, high⟩
  · obtain ⟨words, index, number, operand_, positive, low, high⟩ := formed
    have formed : formsCorrection ops price :=
      ⟨words, index, number, salePrice_eq_some.mpr ⟨operand_, positive⟩, low, high⟩
    refine ⟨fun vacant => Request.exec_checked_refused received rfl (correctPrintCheck_unknown formed vacant),
      fun q present found valid => ⟨fun odd => ?_, fun even full => ?_⟩⟩
    · refine Request.exec_checked_refused received rfl ?_
      rw [correctPrintCheck_found formed present (Instrument.missing_of_valid found valid),
        firstRefusal_fail (onGrid_false odd)]
    · refine Request.exec_checked_refused received rfl ?_
      rw [correctPrintCheck_found formed present (Instrument.missing_of_valid found valid),
        firstRefusal_pass (onGrid_true even), firstRefusal_fail ((State.noRoom_eq_true _ _ _ _).mpr full)]

end Sys2Proof.Machine
end

section
/-! Supervisor text (R74, R75). -/

namespace Sys2Proof.Machine

section Text

variable {ops : List Word} {s : State}

theorem isTapeChar_iff (b : Byte) : isTapeChar b = true ↔
    0x20 ≤ b.toNat ∧ b.toNat ≤ 0x5A ∨ b.toNat = 0x73 ∨ b.toNat = 0x78 ∨ 0x80 ≤ b.toNat ∧ b.toNat ≤ 0x89 := by
  unfold isTapeChar
  rw [decide_eq_true_iff]
  simp only [BitVec.le_def, BitVec.toNat_eq]
  rfl

theorem textPart_isNone : (textPart ops).isNone = decide (2 < operand ops 0 / 256 % 16) := by
  unfold textPart TextPart.ofCode
  split
  next h => rw [h]; rfl
  next h => rw [h]; rfl
  next h => rw [h]; rfl
  next h0 h1 h2 =>
    have beyond : 2 < operand ops 0 / 256 % 16 := by
      have := (Nat.two_le_iff _).mpr ⟨h0, h1⟩
      exact lt_of_le_of_ne this (Ne.symm h2)
    exact (decide_eq_true beyond).symm

/-- What makes a TAPE TEXT well formed (R74 check 2). -/
def formsText (ops : List Word) : Prop :=
  ops.length = 1 + (operand ops 0 % 256 + 1) / 2 ∧ operand ops 0 / 4096 ≤ 1 ∧ operand ops 0 / 256 % 16 ≤ 2 ∧
  1 ≤ operand ops 0 % 256 ∧ operand ops 0 % 256 ≤ 20 ∧ ∀ b ∈ textChars ops, isTapeChar b = true

theorem badText_iff : badText ops = false ↔ formsText ops := by
  simp only [badText, Bool.or_eq_false_iff, decide_eq_false_iff_not, textPart_isNone, not_lt, ne_eq, not_not,
    Bool.not_eq_false', List.all_eq_true, and_assoc, ← Nat.one_le_iff_ne_zero]
  rfl

theorem tapeTextCheck_config (config : s.mode = .config) : tapeTextCheck ops s = some .notLive := by
  rw [tapeTextCheck, firstRefusal_fail (decide_eq_true config)]

theorem not_config (live : s.mode = .live) : decide (s.mode = .config) = false :=
  decide_eq_false (by rw [live]; nofun)

theorem tapeTextCheck_malformed (live : s.mode = .live) (bad : ¬ formsText ops) :
    tapeTextCheck ops s = some .malformed := by
  rw [tapeTextCheck, firstRefusal_pass (not_config live), firstRefusal_fail (eq_true_of_ne_false (mt badText_iff.mp bad))]

theorem tapeTextCheck_outOfRange (live : s.mode = .live) (formed : formsText ops)
    (out : s.inService (operand ops 0 / 4096) = false) : tapeTextCheck ops s = some .outOfRange := by
  have out : s.inService (textRibbon ops) = false := out
  rw [tapeTextCheck, firstRefusal_pass (not_config live), firstRefusal_pass (badText_iff.mpr formed),
    firstRefusal_fail (by rw [out]; rfl)]

/-- The part's own check, once the others pass (R74, R75). -/
theorem tapeTextCheck_part (live : s.mode = .live) (formed : formsText ops)
    (serves : s.inService (operand ops 0 / 4096) = true) : tapeTextCheck ops s = textPartCheck ops s := by
  have serves : s.inService (textRibbon ops) = true := serves
  rw [tapeTextCheck, firstRefusal_pass (not_config live), firstRefusal_pass (badText_iff.mpr formed),
    firstRefusal_pass (by rw [serves]; rfl)]
  rfl

theorem textPart_single (h : operand ops 0 / 256 % 16 = 0) : textPart ops = some .single := by rw [textPart, h]; rfl

theorem textPart_first (h : operand ops 0 / 256 % 16 = 1) : textPart ops = some .first := by rw [textPart, h]; rfl

theorem textPart_final (h : operand ops 0 / 256 % 16 = 2) : textPart ops = some .final := by rw [textPart, h]; rfl

theorem textPartCheck_single (h : operand ops 0 / 256 % 16 = 0) :
    textPartCheck ops s = firstRefusal [(s.anyFull [operand ops 0 / 4096] 256, .tapeFull)] := by
  rw [textPartCheck, textPart_single h]
  rfl

theorem textPartCheck_first (h : operand ops 0 / 256 % 16 = 1) : textPartCheck ops s = none := by
  rw [textPartCheck, textPart_first h]
  rfl

theorem textPartCheck_final_none (h : operand ops 0 / 256 % 16 = 2) (empty : s.ports.textBuffer = none) :
    textPartCheck ops s = some .notFound := by
  rw [textPartCheck, textPart_final h, empty]
  rfl

theorem textPartCheck_final_some {b : AssembledText} (h : operand ops 0 / 256 % 16 = 2) (buffer : s.ports.textBuffer = some b) :
    textPartCheck ops s = firstRefusal [(decide (b.ribbon ≠ operand ops 0 / 4096), .outOfRange),
      (s.anyFull [operand ops 0 / 4096] 256, .tapeFull)] := by
  rw [textPartCheck, textPart_final h, buffer]
  rfl

theorem anyFull_one_eq_false {r : Nat} : s.anyFull [r] 256 = false ↔ (s.ribbon r).queue.length < 256 := by
  rw [State.anyFull_eq_false, List.forall_mem_singleton]

theorem anyFull_one_eq_true {r : Nat} : s.anyFull [r] 256 = true ↔ ¬ (s.ribbon r).queue.length < 256 := by
  rw [← anyFull_one_eq_false, Bool.not_eq_false]

end Text

/-- Settles O32: the checks in order, then the part's own. -/
theorem tapeTextParts : Obligations.TapeTextParts := by
  refine ⟨fun s p w ops received => ⟨fun config => ?_, fun live bad => ?_, fun live formed out => ?_,
    fun live formed serves => ?parts⟩, State.inService_iff, isTapeChar_iff⟩
  · exact Request.exec_checked_refused received rfl (tapeTextCheck_config config)
  · exact Request.exec_checked_refused received rfl (tapeTextCheck_malformed live bad)
  · exact Request.exec_checked_refused received rfl (tapeTextCheck_outOfRange live formed out)
  case parts =>
    have check := tapeTextCheck_part live formed serves
    have full_one {r : Nat} (full : ¬ (s.ribbon r).queue.length < 256) := anyFull_one_eq_true.mpr full
    refine ⟨fun single room => ?_, fun single full => ?_, fun first => ?_, fun final empty => ?_,
      fun b final buffer other => ?_, fun b final buffer same full => ?_, fun b final buffer same room => ?_⟩
    · refine Request.exec_checked_done received rfl (check.trans ?_) ?_
      · rw [textPartCheck_single single, firstRefusal_pass (anyFull_one_eq_false.mpr room)]
        rfl
      · rw [textPart_single single]
        rfl
    · refine Request.exec_checked_refused received rfl (check.trans ?_)
      rw [textPartCheck_single single, firstRefusal_fail (anyFull_one_eq_true.mpr full)]
    · refine Request.exec_checked_done received rfl (check.trans (textPartCheck_first first)) ?_
      rw [textPart_first first]
      rfl
    · exact Request.exec_checked_refused received rfl (check.trans (textPartCheck_final_none final empty))
    · refine Request.exec_checked_refused received rfl (check.trans ?_)
      rw [textPartCheck_final_some final buffer, firstRefusal_fail (decide_eq_true other)]
    · refine Request.exec_checked_refused received rfl (check.trans ?_)
      rw [textPartCheck_final_some final buffer, firstRefusal_pass (decide_eq_false (not_not.mpr same)),
        firstRefusal_fail (anyFull_one_eq_true.mpr full)]
    · refine Request.exec_checked_done received rfl (check.trans ?_) ?_
      · rw [textPartCheck_final_some final buffer, firstRefusal_pass (decide_eq_false (not_not.mpr same)),
          firstRefusal_pass (anyFull_one_eq_false.mpr room)]
        rfl
      · rw [textPart_final final, buffer]
        rfl

end Sys2Proof.Machine
end

section
/-! The requests on panels (R77 to R79, R86). -/

namespace Sys2Proof.Machine

theorem setErase_eq (n : Nat) (l : List Nat) : setErase n l = l.filter (· ≠ n) :=
  List.filter_congr fun m _ => by by_cases h : m = n <;> simp [h]

theorem Display.unhighlight_eq (d : Display) (c : Nat) : d.unhighlight c =
    { d.setCell c { d.cell c with expiry := none } with highlights := d.highlights.filter (· ≠ c) } := by
  rw [Display.unhighlight, setErase_eq]

theorem Panel.covers_iff {p : Panel} {c : Nat} :
    p.covers c = true ↔ p.present = true ∧ p.base ≤ c ∧ c < p.base + p.limit := by
  rw [Panel.covers, Bool.and_eq_true, decide_eq_true_iff]

/-- The BOUND cells of a table in canonical form. -/
theorem Display.mem_boundCells_of_wf {d : Display} (wf : Table.wf Cell.vacant d.cells = true) (c : Nat) :
    c ∈ d.boundCells ↔ (d.cell c).bound = true := Table.mem_keys Cell.vacant (f := fun v => v.bound) rfl wf c

theorem Display.boundCells_pairwise {d : Display} (wf : Table.wf Cell.vacant d.cells = true) :
    d.boundCells.Pairwise (· < ·) := (Table.keys_pairwise Cell.vacant (fun _ v => v.bound) wf).1

/-- R86: the cells of a panel. -/
theorem Display.mem_cellsOfPanel_of_wf {d : Display} (wf : Table.wf Cell.vacant d.cells = true) (v : Panel) (c : Nat) :
    c ∈ d.cellsOfPanel v ↔ (d.cell c).bound = true ∧ v.present = true ∧ v.base ≤ c ∧ c < v.base + v.limit := by
  rw [Display.cellsOfPanel, List.mem_filter, Display.mem_boundCells_of_wf wf, Panel.covers_iff]

section Panels

variable {ops : List Word} {s : State}

/-- What makes a DEFINE PANEL well formed (R78). -/
def formsPanel (ops : List Word) : Prop :=
  ops.length = 4 ∧ operand ops 0 ≤ 63 ∧ operand ops 1 ≤ 3 ∧ operand ops 2 ≤ 4095 ∧ 1 ≤ operand ops 3 ∧
  operand ops 3 ≤ 4096

theorem badPanel_iff : (decide (ops.length ≠ 4) || decide (63 < operand ops 0) || decide (3 < operand ops 1)
      || decide (4096 ≤ operand ops 2) || decide (operand ops 3 = 0) || decide (4096 < operand ops 3)) = false ↔
    formsPanel ops := by
  simp only [formsPanel, Bool.or_eq_false_iff, decide_eq_false_iff_not, ne_eq, not_not, not_le, and_assoc,
    Nat.one_le_iff_ne_zero, Nat.lt_iff_add_one_le, Nat.reduceLeDiff]

theorem definePanelCheck_malformed (bad : ¬ formsPanel ops) : definePanelCheck ops s = some .malformed :=
  firstRefusal_fail (eq_true_of_ne_false (mt badPanel_iff.mp bad))

/-- R78: the checks of a well-formed DEFINE PANEL. -/
theorem definePanelCheck_of_formed (formed : formsPanel ops) : definePanelCheck ops s = firstRefusal
    [((s.display.panel (operand ops 0)).present, .inUse), (decide (4096 < operand ops 2 + operand ops 3), .outOfRange),
     (s.display.panelOverlap (operand ops 0) (operand ops 2) (operand ops 3), .overlap)] :=
  firstRefusal_pass (badPanel_iff.mpr formed)

theorem panelOverlap_eq_false {d : Display} {n base limit : Nat} : d.panelOverlap n base limit = false ↔
    ∀ e ∈ d.panels, e.1 ≠ n → e.2.present = true → base + limit ≤ e.2.base ∨ e.2.base + e.2.limit ≤ base := by
  unfold Display.panelOverlap
  rw [List.any_eq_false]
  refine forall₂_congr fun e _ => ?_
  rw [Bool.and_eq_true, Bool.and_eq_true, decide_eq_true_iff, decide_eq_true_iff, not_and, and_imp, not_and_or, not_lt,
    not_lt]

/-- What makes the requests on one panel well formed (R79, R86). -/
theorem badPanelNumber_iff : (decide (ops.length ≠ 1) || decide (63 < operand ops 0)) = false ↔
    ops.length = 1 ∧ operand ops 0 ≤ 63 := by
  rw [Bool.or_eq_false_iff, decide_eq_false_iff_not, decide_eq_false_iff_not, ne_eq, not_not, not_lt]

variable {rest : List (Bool × Answer)}

theorem panelChecks_malformed (bad : ¬ (ops.length = 1 ∧ operand ops 0 ≤ 63)) :
    firstRefusal (panelChecks ops s ++ rest) = some .malformed :=
  firstRefusal_fail (eq_true_of_ne_false (mt badPanelNumber_iff.mp bad))

theorem panelChecks_absent (formed : ops.length = 1 ∧ operand ops 0 ≤ 63)
    (absent : ¬ (s.display.panel (operand ops 0)).present = true) :
    firstRefusal (panelChecks ops s ++ rest) = some .notPresent :=
  (firstRefusal_pass (badPanelNumber_iff.mpr formed)).trans
    (firstRefusal_fail (by rw [eq_false_of_ne_true absent]; rfl))

theorem panelChecks_pass (formed : ops.length = 1 ∧ operand ops 0 ≤ 63)
    (present : (s.display.panel (operand ops 0)).present = true) :
    firstRefusal (panelChecks ops s ++ rest) = firstRefusal rest :=
  (firstRefusal_pass (badPanelNumber_iff.mpr formed)).trans (firstRefusal_pass (by rw [present]; rfl))

theorem exists_darkEngine {r : Request} {dark : Bool} (h : r = .panelDark ∧ dark = true ∨ r = .panelLight ∧ dark = false)
    (p : PortId) : engineOf p r = darkEngine dark := by
  obtain ⟨rfl, rfl⟩ | ⟨rfl, rfl⟩ := h <;> rfl

theorem darkEngine_eq (dark : Bool) : darkEngine dark = checked (fun ops s => firstRefusal (panelChecks ops s ++ []))
    fun ops s => if (s.display.panel (operand ops 0)).dark = dark then done s
      else done (s.onBoard fun d => d.setDark (operand ops 0) dark) := by
  simp only [List.append_nil]
  rfl

end Panels

/-- Settles O33: the checks of each request in order. -/
theorem panelRequests : Obligations.PanelRequests := by
  refine ⟨fun s p w ops => ⟨fun received => ?define, fun received => ?remove, fun r dark which received => ?dark⟩,
    fun d v wf => ⟨(Display.boundCells_pairwise wf).filter _, Display.mem_cellsOfPanel_of_wf wf v⟩, Display.unhighlight_eq⟩
  case define =>
    refine ⟨fun bad => Request.exec_checked_refused received rfl (definePanelCheck_malformed bad), fun formed present => ?_,
      fun formed absent out => ?_, fun formed absent inside meet => ?_, fun formed absent inside apart => ?_⟩
    · refine Request.exec_checked_refused received rfl ((definePanelCheck_of_formed formed).trans ?_)
      exact firstRefusal_fail present
    · refine Request.exec_checked_refused received rfl ((definePanelCheck_of_formed formed).trans ?_)
      rw [firstRefusal_pass (eq_false_of_ne_true absent), firstRefusal_fail (decide_eq_true out)]
    · refine Request.exec_checked_refused received rfl ((definePanelCheck_of_formed formed).trans ?_)
      rw [firstRefusal_pass (eq_false_of_ne_true absent), firstRefusal_pass (decide_eq_false (Nat.not_lt.mpr inside)),
        firstRefusal_fail (eq_true_of_ne_false (mt panelOverlap_eq_false.mp meet))]
    · refine Request.exec_checked_done received rfl ((definePanelCheck_of_formed formed).trans ?_) rfl
      rw [firstRefusal_pass (eq_false_of_ne_true absent), firstRefusal_pass (decide_eq_false (Nat.not_lt.mpr inside)),
        firstRefusal_pass (panelOverlap_eq_false.mpr apart)]
      rfl
  case remove =>
    refine ⟨fun bad => Request.exec_checked_refused received rfl (panelChecks_malformed bad), fun formed absent =>
      Request.exec_checked_refused received rfl (panelChecks_absent formed absent), fun formed present used => ?_,
      fun formed present bare => ?_⟩
    · refine Request.exec_checked_refused received rfl ((panelChecks_pass formed present).trans (firstRefusal_fail ?_))
      rw [Bool.not_eq_true', List.isEmpty_eq_false_iff]
      exact used
    · refine Request.exec_checked_done received rfl ((panelChecks_pass formed present).trans (firstRefusal_pass ?_)) rfl
      rw [Bool.not_eq_false', List.isEmpty_iff]
      exact bare
  case dark =>
    have engine := (exists_darkEngine which p).trans (darkEngine_eq dark)
    refine ⟨fun bad => Request.exec_checked_refused received engine (panelChecks_malformed bad), fun formed absent =>
      Request.exec_checked_refused received engine (panelChecks_absent formed absent), fun formed present stands => ?_,
      fun formed present moves => ?_⟩
    · exact Request.exec_checked_done received engine (panelChecks_pass formed present) (if_pos stands)
    · exact Request.exec_checked_done received engine (panelChecks_pass formed present) (if_neg moves)

end Sys2Proof.Machine
end

section
/-! The requests on cells (R81 to R84), and the codes of their operands (R172). -/

namespace Sys2Proof.Machine

/-! ### Codes -/

theorem flagOperand_iff (ops : List Word) (i : Nat) (b : Bool) :
    flagOperand ops i = some b ↔ operand ops i = 0 ∧ b = false ∨ operand ops i = 1 ∧ b = true := by
  unfold flagOperand
  generalize operand ops i = n
  split <;> simp_all [eq_comm]

theorem justification_ofCode_iff (n : Nat) (j : Justification) :
    Justification.ofCode n = some j ↔ n = 0 ∧ j = .right ∨ n = 1 ∧ j = .left := by
  unfold Justification.ofCode
  split <;> simp_all [eq_comm]

theorem field_ofCode_iff (n : Nat) (x : Field) : Field.ofCode n = some x ↔
    (n, x) ∈ [(0, Field.symbol), (1, .prevClose), (2, .opening), (3, .high), (4, .low), (5, .last), (6, .lastSize),
      (7, .netChange), (8, .tick), (9, .volume), (10, .bid), (11, .ask), (12, .bidSize), (13, .askSize),
      (14, .status)] := by
  unfold Field.ofCode
  split <;> simp_all [eq_comm]

theorem field_ofCode_le {n : Nat} {x : Field} (h : Field.ofCode n = some x) : n ≤ 14 := by
  rw [field_ofCode_iff] at h
  simp at h
  omega

theorem cellField_ofCode_iff (n k : Nat) (f : CellField) : CellField.ofCode n k = some f ↔
    (∃ x, f = .instrument x k ∧ k < 2048 ∧
      (n, x) ∈ [(0, Field.symbol), (1, .prevClose), (2, .opening), (3, .high), (4, .low), (5, .last), (6, .lastSize),
        (7, .netChange), (8, .tick), (9, .volume), (10, .bid), (11, .ask), (12, .bidSize), (13, .askSize),
        (14, .status)]) ∨
    n = 16 ∧ f = .clock ∨ n = 17 ∧ f = .market ∨ n = 18 ∧ k ≤ 1 ∧ f = .tapeState k := by
  simp only [← field_ofCode_iff]
  have large {m : Nat} (h : 14 < m) (x : Field) : Field.ofCode m ≠ some x := fun e => by
    have := field_ofCode_le e
    omega
  unfold CellField.ofCode
  split
  · simp [large, eq_comm]
  · simp [large, eq_comm]
  · by_cases h : k ≤ 1 <;> simp [large, h, eq_comm]
  next h16 h17 h18 =>
    rw [or_iff_left (by rintro (⟨e, -⟩ | ⟨e, -⟩ | ⟨e, -⟩); exacts [h16 e, h17 e, h18 e])]
    cases code : Field.ofCode n with
    | none => simp
    | some x =>
      by_cases lt : k < 2048
      · exact (iff_of_eq (congrArg (· = some f) (if_pos lt))).trans
          ⟨fun e => ⟨x, (Option.some.inj e).symm, lt, rfl⟩, fun ⟨y, e, _, hy⟩ => by cases hy; rw [e]⟩
      · exact (iff_of_eq (congrArg (· = some f) (if_neg lt))).trans ⟨nofun, fun ⟨_, _, h, _⟩ => absurd h lt⟩

/-! ### Binding lists -/

section Lists

variable (d : Display)

theorem Display.length_walk (fuel : Nat) (head : Option Nat) : (d.walk fuel head).length ≤ fuel := by
  induction fuel generalizing head with
  | zero => exact Nat.le_refl 0
  | succ fuel ih =>
    cases head with
    | none => exact Nat.zero_le _
    | some c => exact Nat.succ_le_succ (ih _)

theorem Display.walk_head (fuel : Nat) (head : Option Nat) : (d.walk (fuel + 1) head)[0]? = head := by
  cases head <;> rfl

/-- R84: a walk follows the next fields. -/
theorem Display.walk_next {fuel k b : Nat} {head : Option Nat} (inside : k + 1 < fuel)
    (at_ : (d.walk fuel head)[k]? = some b) : (d.walk fuel head)[k + 1]? = (d.cell b).next := by
  induction fuel generalizing head k with
  | zero => omega
  | succ fuel ih =>
    cases head with
    | none => cases at_
    | some c =>
      cases k with
      | zero =>
        cases at_
        obtain ⟨n, rfl⟩ : ∃ n, fuel = n + 1 := ⟨fuel - 1, by omega⟩
        exact d.walk_head n _
      | succ k => exact ih (by omega) at_

theorem Display.before_eq_some_cell {head : Option Nat} {c b : Nat} (before : d.before head c = some b) (other : b ≠ c) :
    (d.unbind head c).cell b = { d.cell b with next := (d.cell c).next } := by
  rw [Display.unbind_cell, if_neg other, if_pos before]

end Lists

/-! ### DEFINE CELL -/

section Define

variable {ops : List Word} {s : State} {f : CellField} {j : Justification} {onChange : Bool}

/-- What makes a DEFINE CELL well formed, with its content (R81 check 1). -/
def formsCell (ops : List Word) (f : CellField) (j : Justification) (onChange : Bool) : Prop :=
  ops.length = 9 ∧ operand ops 0 ≤ 4095 ∧ operand ops 1 ≤ 31 ∧ 1 ≤ operand ops 2 ∧ operand ops 2 ≤ 4 ∧
  1 ≤ operand ops 3 ∧ operand ops 3 ≤ 40 ∧ 1 ≤ operand ops 4 ∧ operand ops 4 ≤ 16 ∧
  CellField.ofCode (operand ops 5) (operand ops 6) = some f ∧ Justification.ofCode (operand ops 7) = some j ∧
  flagOperand ops 8 = some onChange ∧ (onChange = true → ∃ x i, f = .instrument x i)

theorem badCellPlace_iff : badCellPlace ops = false ↔ operand ops 0 ≤ 4095 ∧ operand ops 1 ≤ 31 ∧ 1 ≤ operand ops 2 ∧
    operand ops 2 ≤ 4 ∧ 1 ≤ operand ops 3 ∧ operand ops 3 ≤ 40 ∧ 1 ≤ operand ops 4 ∧ operand ops 4 ≤ 16 := by
  have count : Config.cellCount = 4096 := rfl
  simp only [badCellPlace, Bool.or_eq_false_iff, decide_eq_false_iff_not, not_le, Nat.one_le_iff_ne_zero, ne_eq,
    and_assoc, count, Nat.lt_iff_add_one_le, Nat.reduceLeDiff]

theorem CellField.isInstrument_iff : f.isInstrument = true ↔ ∃ x i, f = .instrument x i := by
  cases f <;> simp [CellField.isInstrument]

theorem cellContent_eq_some : cellContent ops = some (f, j, onChange) ↔
    CellField.ofCode (operand ops 5) (operand ops 6) = some f ∧ Justification.ofCode (operand ops 7) = some j ∧
      flagOperand ops 8 = some onChange ∧ (onChange = true → ∃ x i, f = .instrument x i) := by
  unfold cellContent
  rw [← CellField.isInstrument_iff]
  split
  next g k b hf hj hb =>
    simp only [hf, hj, hb, Option.some.injEq]
    cases b with
    | false =>
      simp only [Bool.false_and, Bool.false_eq_true, if_false, Option.some.injEq, Prod.mk.injEq]
      constructor
      · rintro ⟨rfl, rfl, rfl⟩
        exact ⟨rfl, rfl, rfl, nofun⟩
      · rintro ⟨rfl, rfl, rfl, -⟩
        exact ⟨rfl, rfl, rfl⟩
    | true =>
      cases inst : g.isInstrument with
      | true =>
        simp only [Bool.not_true, Bool.and_false, Bool.false_eq_true, if_false, Option.some.injEq, Prod.mk.injEq]
        constructor
        · rintro ⟨rfl, rfl, rfl⟩
          exact ⟨rfl, rfl, rfl, fun _ => inst⟩
        · rintro ⟨rfl, rfl, rfl, -⟩
          exact ⟨rfl, rfl, rfl⟩
      | false =>
        simp only [Bool.not_false, Bool.and_true, if_true]
        constructor
        · nofun
        · rintro ⟨rfl, rfl, rfl, is⟩
          rw [is rfl] at inst
          cases inst
  next other =>
    constructor
    · nofun
    · rintro ⟨hf, hj, hb, -⟩
      exact (other f j onChange hf hj hb).elim

theorem formsCell_iff : formsCell ops f j onChange ↔
    ops.length = 9 ∧ badCellPlace ops = false ∧ cellContent ops = some (f, j, onChange) := by
  rw [badCellPlace_iff, cellContent_eq_some, formsCell]
  simp only [and_assoc]

theorem defineCellCheck_malformed (bad : ∀ f j onChange, ¬ formsCell ops f j onChange) :
    defineCellCheck ops s = some .malformed := by
  refine if_pos (by_contra fun h => ?_)
  simp only [Bool.or_eq_true, not_or, Bool.not_eq_true, decide_eq_true_eq, ne_eq, not_not] at h
  obtain ⟨⟨words, place⟩, content⟩ := h
  obtain ⟨f, j, onChange, is⟩ := cellContent_of_isSome content
  exact bad f j onChange (formsCell_iff.mpr ⟨words, place, is⟩)

variable (formed : formsCell ops f j onChange)
include formed

theorem defineCellCheck_absent (absent : s.display.panelOf (operand ops 0) = none) :
    defineCellCheck ops s = some .notPresent := by
  obtain ⟨words, place, content⟩ := formsCell_iff.mp formed
  unfold defineCellCheck
  rw [place, content, absent, if_neg]
  simp [words]

/-- R81: checks 3 to 6, on the panel of the cell. -/
theorem defineCellCheck_of_formed {panel : Panel} (present : s.display.panelOf (operand ops 0) = some panel) :
    defineCellCheck ops s = firstRefusal
      [((s.display.cell (operand ops 0)).bound, .inUse),
       (!((s.display.link panel.link).module (operand ops 1)).configured, .outOfRange),
       (decide (((s.display.link panel.link).module (operand ops 1)).rows < operand ops 2)
          || decide (((s.display.link panel.link).module (operand ops 1)).columns < operand ops 3 + operand ops 4 - 1),
        .outOfRange),
       (s.display.cellOverlap panel.link (operand ops 1) (operand ops 2) (operand ops 3) (operand ops 4), .overlap)] := by
  obtain ⟨words, place, content⟩ := formsCell_iff.mp formed
  unfold defineCellCheck
  rw [place, content, present, if_neg]
  · rfl
  · simp [words]

theorem defineCellEngine_acts (passes : defineCellCheck ops s = none) : defineCellEngine ops s =
    done ((s.setBindingHead f (some (operand ops 0))).onBoard fun d => d.bind (operand ops 0)
      { bound := true, address := operand ops 1, row := operand ops 2, column := operand ops 3, width := operand ops 4
        field := f, justification := j, onChange := onChange, next := s.bindingHead f, queued := false
        expiry := none }) := by
  obtain ⟨-, -, content⟩ := formsCell_iff.mp formed
  refine (checked_of_none passes).trans ?_
  simp only [definedCell_eq content]

end Define

theorem configured_eq_false {e : Module} : (!e.configured) = false ↔ e.state ≠ .unconfigured := by
  rw [Bool.not_eq_false', Module.configured, decide_eq_true_iff]

theorem cellOverlap_eq_false {d : Display} {l m row column width : Nat} : d.cellOverlap l m row column width = false ↔
    ∀ x ∈ d.boundCells, d.onModule l m x = true → (d.cell x).row = row →
      (d.cell x).column + (d.cell x).width ≤ column ∨ column + width ≤ (d.cell x).column := by
  unfold Display.cellOverlap columnsMeet
  rw [List.any_eq_false]
  refine forall₂_congr fun x _ => ?_
  rw [Bool.and_eq_true, Bool.and_eq_true, decide_eq_true_iff, decide_eq_true_iff, not_and, and_imp, not_and_or, not_lt,
    not_lt, or_comm]

/-- The place of a cell fits its module (R81 checks 4 and 5). -/
theorem placeFits {e : Module} {row last : Nat} {rest : List (Bool × Answer)}
    (fits : e.state ≠ .unconfigured ∧ row ≤ e.rows ∧ last ≤ e.columns) :
    firstRefusal ((!e.configured, .outOfRange) :: (decide (e.rows < row) || decide (e.columns < last), .outOfRange) :: rest) =
      firstRefusal rest := by
  obtain ⟨configured, rows, columns⟩ := fits
  rw [firstRefusal_pass (configured_eq_false.mpr configured), firstRefusal_pass]
  rw [decide_eq_false (Nat.not_lt.mpr rows), decide_eq_false (Nat.not_lt.mpr columns)]
  rfl

theorem placeMisses {e : Module} {row last : Nat} {rest : List (Bool × Answer)}
    (misses : ¬ (e.state ≠ .unconfigured ∧ row ≤ e.rows ∧ last ≤ e.columns)) :
    firstRefusal ((!e.configured, .outOfRange) :: (decide (e.rows < row) || decide (e.columns < last), .outOfRange) :: rest) =
      some .outOfRange := by
  by_cases configured : e.state ≠ .unconfigured
  · rw [firstRefusal_pass (configured_eq_false.mpr configured), firstRefusal_fail]
    rw [Bool.or_eq_true, decide_eq_true_iff, decide_eq_true_iff]
    by_contra inside
    rw [not_or, not_lt, not_lt] at inside
    exact misses ⟨configured, inside⟩
  · exact firstRefusal_fail (eq_true_of_ne_false (mt configured_eq_false.mp configured))

/-! ### REMOVE CELL -/

theorem badCellIndex_iff {ops : List Word} : (decide (ops.length ≠ 1) || decide (Config.cellCount ≤ operand ops 0)) = false ↔
    ops.length = 1 ∧ operand ops 0 ≤ 4095 := by
  rw [Bool.or_eq_false_iff, decide_eq_false_iff_not, decide_eq_false_iff_not, ne_eq, not_not, not_le]
  exact and_congr_right fun _ => Nat.lt_succ_iff

theorem removeCellCheck_malformed {ops : List Word} {s : State} (bad : ¬ (ops.length = 1 ∧ operand ops 0 ≤ 4095)) :
    removeCellCheck ops s = some .malformed := firstRefusal_fail (eq_true_of_ne_false (mt badCellIndex_iff.mp bad))

theorem removeCellCheck_of_formed {ops : List Word} {s : State} (words : ops.length = 1) (index : operand ops 0 ≤ 4095) :
    removeCellCheck ops s = firstRefusal [(!(s.display.cell (operand ops 0)).bound, .notPresent)] :=
  firstRefusal_pass (badCellIndex_iff.mpr ⟨words, index⟩)

/-- R83: what the board's tables are after a cell is taken out. -/
theorem unbind_leaves (d : Display) (head : Option Nat) (c : Nat) : let t := d.unbind head c
    t.cell c = ⟨false, 0, 1, 1, 1, .instrument .symbol 0, .right, false, none, false, none⟩ ∧
    (∀ b, d.before head c = some b → b ≠ c → t.cell b = { d.cell b with next := (d.cell c).next }) ∧
    (∀ x, x ≠ c → d.before head c ≠ some x → t.cell x = d.cell x) ∧
    (∀ b, d.before head c = some b → b ∈ d.bindingList head ∧ (d.cell b).next = some c) ∧
    (d.before head c = none → ∀ b ∈ d.bindingList head, (d.cell b).next ≠ some c) ∧
    t.highlights = d.highlights.filter (· ≠ c) ∧
    (∀ l, d.linkOf c = some l → t.queue l = (d.queue l).filter (· ≠ c)) ∧
    (∀ l, d.linkOf c ≠ some l → t.queue l = d.queue l) ∧
    t.panels = d.panels ∧ t.links = d.links ∧ t.deviceHead = d.deviceHead := by
  dsimp only
  refine ⟨?_, fun b before other => d.before_eq_some_cell before other, fun x other away => ?_, fun b => Display.before_some,
    Display.before_none, ?_, fun l on => ?_, fun l off => ?_, ?_⟩
  · rw [Display.unbind_cell, if_pos rfl]
    rfl
  · rw [Display.unbind_cell, if_neg other, if_neg away]
  · rw [Display.unbind_frame]
    exact setErase_eq c d.highlights
  · rw [Display.unbind_queue, if_pos on, setErase_eq]
  · rw [Display.unbind_queue, if_neg off]
  · rw [Display.unbind_frame]
    exact ⟨rfl, rfl, rfl⟩

theorem Display.bind_of_dark {d : Display} {c : Nat} {v : Cell} (dark : (d.setCell c v).isDark c = true) :
    d.bind c v = d.setCell c v := if_pos dark

theorem Display.bind_of_lit {d : Display} {c : Nat} {v : Cell} (lit : (d.setCell c v).isDark c = false) :
    d.bind c v = (d.setCell c v).enqueue c := if_neg (by rw [lit]; nofun)

/-- Settles O34: DEFINE CELL and REMOVE CELL by their checks; the tables from `unbind_leaves`, the lists from
`Display.walk_next`. -/
theorem cellRequests : Obligations.CellRequests := by
  refine ⟨fun s p w ops received => ⟨fun bad => ?_, fun f j onChange formed => ⟨fun absent => ?_, fun panel present => ?define⟩⟩,
    fun d c v => ⟨Display.bind_of_dark, Display.bind_of_lit⟩, fun s p w ops received => ⟨fun bad => ?_, fun words index =>
      ⟨fun bound => ?_, fun free => ?_⟩⟩, unbind_leaves, fun d head => ⟨d.walk_head _ _, d.length_walk _ _, fun k b lt => ?_⟩,
    cellField_ofCode_iff, justification_ofCode_iff, flagOperand_iff, fun s f h => ⟨?_, fun other => ?_⟩⟩
  · exact Request.exec_checked_refused received rfl (defineCellCheck_malformed bad)
  · exact Request.exec_checked_refused received rfl (defineCellCheck_absent formed absent)
  case define =>
    have check := defineCellCheck_of_formed formed present
    refine ⟨fun bound => ?_, fun free misses => ?_, fun free fits meet => ?_, fun free fits clear => ?_⟩
    · exact Request.exec_checked_refused received rfl (check.trans (firstRefusal_fail bound))
    · refine Request.exec_checked_refused received rfl (check.trans ?_)
      rw [firstRefusal_pass free, placeMisses misses]
    · refine Request.exec_checked_refused received rfl (check.trans ?_)
      rw [firstRefusal_pass free, placeFits fits, firstRefusal_fail (eq_true_of_ne_false (mt cellOverlap_eq_false.mp meet))]
    · refine Request.exec_done received (defineCellEngine_acts formed (check.trans ?_))
      rw [firstRefusal_pass free, placeFits fits, firstRefusal_pass (cellOverlap_eq_false.mpr clear)]
      rfl
  · exact Request.exec_checked_refused received rfl (removeCellCheck_malformed bad)
  · refine Request.exec_checked_done received rfl ((removeCellCheck_of_formed words index).trans ?_) rfl
    rw [firstRefusal_pass (by rw [bound]; rfl)]
    rfl
  · refine Request.exec_checked_refused received rfl ((removeCellCheck_of_formed words index).trans ?_)
    exact firstRefusal_fail (by rw [free]; rfl)
  · exact d.walk_next (Nat.succ_lt_succ lt)
  · rintro x i rfl
    exact ⟨rfl, rfl⟩
  · cases f with
    | instrument x i => exact absurd rfl (other x i)
    | clock => exact ⟨rfl, rfl⟩
    | market => exact ⟨rfl, rfl⟩
    | tapeState n => exact ⟨rfl, rfl⟩

end Sys2Proof.Machine
end

section
/-! What the board engine does with a cell, and its events (R77, R87 to R90, R94). -/

namespace Sys2Proof.Machine

/-! ### The panel of a cell -/

section Panels

variable {d : Display} (panels : Table.wf Panel.absent d.panels = true) (c : Nat)
include panels

theorem Display.panel_of_panelOf {p : Panel} (h : d.panelOf c = some p) : ∃ n, d.panel n = p ∧ p.covers c = true := by
  obtain ⟨⟨n, q⟩, found, same⟩ := Option.map_eq_some_iff.mp h
  cases same
  refine ⟨n, Table.get_of_mem Panel.absent panels (List.mem_of_find?_eq_some found), ?_⟩
  exact List.find?_some (p := fun e : Nat × Panel => e.2.covers c) found

omit panels in
theorem Display.not_covers_of_panelOf (h : d.panelOf c = none) (n : Nat) : (d.panel n).covers c = false := by
  obtain absent | mem := Table.get_mem Panel.absent d.panels n
  · rw [Display.panel, absent]
    rfl
  · have none_ := List.find?_eq_none.mp (Option.map_eq_none_iff.mp h) _ mem
    exact eq_false_of_ne_true none_

end Panels

theorem Display.isDark_iff (d : Display) (c : Nat) : d.isDark c = true ↔ ∃ p, d.panelOf c = some p ∧ p.dark = true := by
  unfold Display.isDark
  cases panel : d.panelOf c <;> simp

theorem Display.onModule_iff (d : Display) (l m c : Nat) :
    d.onModule l m c = true ↔ d.linkOf c = some l ∧ (d.cell c).address = m := by
  rw [Display.onModule, Bool.and_eq_true, decide_eq_true_iff, decide_eq_true_iff]

/-! ### One cell -/

theorem Display.highlight_eq (d : Display) (t : Time) (c : Nat) : d.highlight t c =
    { d.setCell c { d.cell c with expiry := some t } with highlights := d.highlights.filter (· ≠ c) ++ [c] } := by
  rw [Display.highlight, setErase_eq]

section Cell

variable {d : Display} {c : Nat} {p : Panel}

theorem Display.isDark_of_panelOf (panel : d.panelOf c = some p) : d.isDark c = p.dark := by
  rw [Display.isDark, panel]

theorem Display.enqueue_of_paintable (panel : d.panelOf c = some p) (paintable : d.paintable c = true)
    (free : (d.cell c).queued = false) : d.enqueue c =
      (d.setCell c { d.cell c with queued := true }).setQueue p.link (d.queue p.link ++ [c]) := by
  rw [Display.enqueue, panel]
  exact if_pos (by rw [paintable, free]; rfl)

theorem Display.enqueue_of_not (h : d.paintable c = false ∨ (d.cell c).queued = true) : d.enqueue c = d := by
  unfold Display.enqueue
  split
  · rfl
  · refine if_neg ?_
    obtain h | h := h <;> simp [h]

theorem CellField.shows_instrument (fields : List Field) (f : Field) (i : Nat) :
    (CellField.instrument f i).shows fields = true ↔ f ∈ fields := List.contains_iff_mem

section Change

variable {fields : List Field} {f : Field} {i : Nat} {expiry : Option Time} (field : (d.cell c).field = .instrument f i)
include field

/-- R88 step 1: a cell passed over. -/
theorem Display.showChange_of_passed (passed : f ∉ fields ∨ d.isDark c = true) : d.showChange fields expiry c = d := by
  refine if_pos ?_
  rw [Bool.or_eq_true, Bool.not_eq_true', field]
  exact passed.imp_left fun h => eq_false_of_ne_true (mt (CellField.shows_instrument fields f i).mp h)

/-- R88, R89: a cell met. -/
theorem Display.showChange_of_met (shown : f ∈ fields) (lit : d.isDark c = false) : d.showChange fields expiry c =
    if d.paintable c then
      match expiry with
      | some t => if (d.cell c).onChange then (d.enqueue c).highlight t c else d.enqueue c
      | none => d.enqueue c
    else d := by
  unfold Display.showChange
  rw [field, (CellField.shows_instrument fields f i).mpr shown, lit]
  rfl

end Change

end Cell

/-- Settles O35. -/
theorem repaintQueueAppends : Obligations.RepaintQueueAppends := by
  refine ⟨fun d panels cells c => ⟨fun p h => ?_, fun h n => ?_, rfl, d.isDark_iff c, Display.mem_boundCells_of_wf cells c,
    fun l m => d.onModule_iff l m c⟩, fun d c cs t => ⟨rfl, rfl, d.highlight_eq t c⟩, fun d c p panel =>
    ⟨?paintable, fun paintable free => ?appended, Display.enqueue_of_not, fun fields f i expiry field => ?change⟩⟩
  · obtain ⟨n, same, covers⟩ := Display.panel_of_panelOf panels c h
    exact ⟨n, same, Panel.covers_iff.mp covers⟩
  · rw [← Panel.covers_iff, Display.not_covers_of_panelOf c h n]
    nofun
  case paintable => simp [Display.paintable_iff, panel]
  case appended =>
    rw [Display.enqueue_of_paintable panel paintable free]
    exact ⟨Display.queue_setQueue_self _ _ _, Display.cell_setCell_self _ _ _, fun x other => Display.cell_setCell_ne _ _ other,
      fun l other => Display.queue_setQueue_ne _ _ other, rfl, rfl, rfl, rfl⟩
  case change =>
    have dark_iff := Display.isDark_of_panelOf panel
    refine ⟨fun passed => Display.showChange_of_passed field (by rwa [dark_iff]), fun shown lit unpaintable => ?_,
      fun shown lit plain => ?_, fun t shown lit paintable eligible onChange => ?_⟩
    · rw [Display.showChange_of_met field shown (dark_iff.trans lit), if_neg (by rw [unpaintable]; nofun)]
    · rw [Display.showChange_of_met field shown (dark_iff.trans lit)]
      cases paintable : d.paintable c with
      | false => exact (Display.enqueue_of_not (.inl paintable)).symm
      | true =>
        rw [if_pos rfl]
        obtain rfl | fixed := plain
        · rfl
        · cases expiry with
          | none => rfl
          | some t => exact if_neg (by rw [fixed]; nofun)
    · have met : d.showChange fields expiry c = (d.enqueue c).highlight t c := by
        rw [Display.showChange_of_met field shown (dark_iff.trans lit), if_pos paintable, eligible]
        exact if_pos onChange
      rw [met, Display.highlight_eq]
      refine ⟨rfl, ?_, ?_⟩
      · exact congrArg Cell.expiry (Display.cell_setCell_self (d.enqueue c) c _)
      · rw [Display.enqueue_highlights]

/-! ### The events of the board engine -/

section Events

variable {d : Display} {c : Nat} {rest : List Nat} {now : Time}

theorem Display.expire_of_none (h : d.expired now = none) : d.expire now = d := by
  rw [Display.expire, h]

theorem Display.expired_of_empty (h : d.highlights = []) : d.expired now = none := by
  rw [Display.expired, h]

theorem Display.expired_of_due {t : Time} (h : d.highlights = c :: rest) (expiry : (d.cell c).expiry = some t)
    (due : reached t now = true) : d.expired now = some c := by
  simp only [Display.expired, h, expiry, if_pos due]

theorem Display.expired_of_early (h : d.highlights = c :: rest)
    (early : ∀ t, (d.cell c).expiry = some t → reached t now = false) : d.expired now = none := by
  cases expiry : (d.cell c).expiry with
  | none => simp only [Display.expired, h, expiry]
  | some t => simp [Display.expired, h, expiry, early t expiry]

/-- R94: what the head of the highlight list leaves when it runs out. -/
theorem Display.expire_of_due {t : Time} (h : d.highlights = c :: rest) (expiry : (d.cell c).expiry = some t)
    (due : reached t now = true) : d.expire now = (d.unhighlight c).enqueue c := by
  rw [Display.expire, Display.expired_of_due h expiry due]

theorem Display.showsTape_eq (joined : Bool) (r : Nat) (f : CellField) : f.showsTape joined r =
    match f with
    | .tapeState n => joined || decide (n = r)
    | _ => false := by
  cases f <;> rfl

/-- The meaning of an action at the board depends on the function at the tables alone. -/
theorem State.onBoard_congr {s : State} {f g : Display → Display} (same : f s.display = g s.display) :
    s.onBoard f = s.onBoard g := by
  unfold State.onBoard
  rw [same]

end Events

theorem reached_iff (t now : Time) : reached t now = true ↔ (now - t).toNat < 2147483648 := by
  rw [reached, decide_eq_true_iff]
  rfl

/-- Settles O36: each event takes the oldest of what is on its way. -/
theorem boardEngineEvents : Obligations.BoardEngineEvents := by
  refine ⟨fun t now ms => ⟨rfl, reached_iff t now⟩, fun s => ⟨fun b rest h => ?_, fun n h => ?_, fun n h => ?_,
    fun r rest h => ?_, fun c rest t h expiry due => ?_, fun h => ?_, fun c rest h early => ?_, fun h => ?_, fun h => ?_,
    fun h => ?_, fun h => ?_⟩⟩
  · change execBoardHandoff s = _
    unfold execBoardHandoff
    rw [h]
    rfl
  · change execMinuteChange s = _
    unfold execMinuteChange
    rw [h]
    rfl
  · change execSessionChange s = _
    unfold execSessionChange
    rw [h]
    rfl
  · change execTapeStateChange s = _
    unfold execTapeStateChange
    rw [h]
    refine congrArg Host.Outcome.next (State.onBoard_congr ?_)
    simp only [Display.deviceChange, Display.showsTape_eq] <;> rfl
  · refine congrArg Host.Outcome.next (State.onBoard_congr ((Display.expire_of_due h expiry due).trans ?_))
    rw [Display.unhighlight_eq]
  · exact congrArg Host.Outcome.next (State.onBoard_same (Display.expire_of_none (Display.expired_of_empty h)))
  · exact congrArg Host.Outcome.next (State.onBoard_same (Display.expire_of_none (Display.expired_of_early h early)))
  · change execBoardHandoff s = _
    unfold execBoardHandoff
    rw [h]
  · change execMinuteChange s = _
    unfold execMinuteChange
    rw [h]
  · change execSessionChange s = _
    unfold execSessionChange
    rw [h]
  · change execTapeStateChange s = _
    unfold execTapeStateChange
    rw [h]

end Sys2Proof.Machine
end

section
/-! The link arbiter (R101, R104) and the frames (R171). -/

namespace Sys2Proof.Machine

/-! ### The first entry of a table -/

section First

variable {α : Type} [DecidableEq α] {d : α} {q : α → Bool} {t : Table α}

theorem Table.rising (wf : Table.wf d t = true) : t.Pairwise fun a b => a.1 < b.1 := by
  have keys := (Table.keys_pairwise d (fun _ _ => true) wf).1
  rwa [Table.keys, List.filter_true, List.pairwise_map] at keys

theorem Table.first_eq_none_iff (wf : Table.wf d t = true) (hd : q d = false) :
    Table.first q t = none ↔ ∀ k, q (Table.get d t k) = false := by
  unfold Table.first
  rw [List.find?_eq_none]
  constructor
  · intro h k
    obtain absent | mem := Table.get_mem d t k
    · rw [absent, hd]
    · exact eq_false_of_ne_true (h _ mem)
  · intro h e mem
    rw [← Table.get_of_mem d wf mem, h]
    nofun

theorem Table.first_spec (wf : Table.wf d t = true) (hd : q d = false) {m : Nat} {e : α}
    (found : Table.first q t = some (m, e)) :
    Table.get d t m = e ∧ q e = true ∧ ∀ k, k < m → q (Table.get d t k) = false := by
  obtain ⟨holds, front, back, split, misses⟩ := List.find?_eq_some_iff_append.mp found
  refine ⟨Table.get_of_mem d wf (List.mem_of_find?_eq_some found), holds, fun k lt => ?_⟩
  obtain absent | mem := Table.get_mem d t k
  · rw [absent, hd]
  · have rising := Table.rising wf
    rw [split, List.pairwise_append, List.pairwise_cons] at rising
    obtain ⟨-, ⟨above, -⟩, -⟩ := rising
    generalize Table.get d t k = x at mem ⊢
    rw [split, List.mem_append, List.mem_cons] at mem
    obtain before | same | after := mem
    · simpa using misses _ before
    · exact absurd (congrArg Prod.fst same) lt.ne
    · exact absurd (above _ after) (Nat.not_lt.mpr lt.le)

/-- The lowest key whose entry satisfies `q`. -/
theorem Table.first_eq_some_iff (wf : Table.wf d t = true) (hd : q d = false) (m : Nat) (e : α) :
    Table.first q t = some (m, e) ↔
      Table.get d t m = e ∧ q e = true ∧ ∀ k, k < m → q (Table.get d t k) = false := by
  refine ⟨Table.first_spec wf hd, ?_⟩
  rintro ⟨rfl, holds, below⟩
  cases found : Table.first q t with
  | none =>
    rw [(Table.first_eq_none_iff wf hd).mp found m] at holds
    cases holds
  | some x =>
    obtain ⟨k, y⟩ := x
    obtain ⟨rfl, here, before⟩ := Table.first_spec wf hd found
    obtain lt | rfl | gt := Nat.lt_trichotomy k m
    · rw [below k lt] at here
      cases here
    · rfl
    · rw [before m gt] at holds
      cases holds

end First

/-! ### What the classes offer -/

theorem Module.keepAliveDue_iff (hold : Nat) (now : Time) (e : Module) : e.keepAliveDue hold now = true ↔
    e.state = .up ∧ ∃ t, e.lastSent = some t ∧ hold * 500 ≤ (now - t).toNat := by
  unfold Module.keepAliveDue Module.isUp elapsed
  cases e.lastSent <;> simp

theorem Module.probeDue_iff (probe : Nat) (now : Time) (e : Module) : e.probeDue probe now = true ↔
    e.state = .down ∧ e.owed = .nothing ∧ ∃ t, e.lastSent = some t ∧ probe * 1000 ≤ (now - t).toNat := by
  unfold Module.probeDue elapsed
  cases e.lastSent <;> simp [and_assoc]

theorem Module.toProbe_iff (probe : Nat) (now : Time) (e : Module) :
    e.toProbe probe now = true ↔ e.restartPending = true ∨ e.probeDue probe now = true :=
  Bool.or_eq_true_iff

theorem Owed.message_isSome (o : Owed) : o.message.isSome = true ↔ o ≠ .nothing := by cases o <;> simp [Owed.message]

theorem Link.mayChoose_iff (v : Link) : v.mayChoose = true ↔
    v.line = .free ∧ (v.state = .settling none ∨ v.state = .running ∨ ∃ x, v.state = .test x) := by
  rw [Link.mayChoose, Bool.and_eq_true, decide_eq_true_iff]
  refine and_congr_right fun _ => ?_
  cases v.state <;> simp

theorem keepAliveMessage_eq (st : LinkState) (e : Module) : keepAliveMessage st e =
    match e.owed, st with
    | .blank, _ => .blank
    | .pattern x, _ => .pattern x
    | .nothing, .test x => .pattern x
    | .nothing, _ => .hold := by
  unfold keepAliveMessage
  cases e.owed <;> cases st <;> rfl

/-! ### The choice -/

section Choice

variable {d : Display} {render : Renderer} {now : Time} {probe l : Nat}

theorem Display.arbitrate_of_not (h : (d.link l).mayChoose = false) : d.arbitrate render now probe l = d :=
  if_neg (by rw [h]; nofun)

variable (may : (d.link l).mayChoose = true)
include may

theorem Display.arbitrate_keepAlive {m : Nat} {e : Module}
    (keep : Table.first (Module.keepAliveDue (d.link l).holdSeconds now) (d.link l).modules = some (m, e)) :
    d.arbitrate render now probe l = d.send l m (keepAliveMessage (d.link l).state e) .keepAlive := by
  simp only [Display.arbitrate, may, if_true, keep]

variable (noKeep : Table.first (Module.keepAliveDue (d.link l).holdSeconds now) (d.link l).modules = none)
include noKeep

theorem Display.arbitrate_probe {m : Nat} {e : Module}
    (seek : Table.first (Module.toProbe probe now) (d.link l).modules = some (m, e)) :
    d.arbitrate render now probe l = d.send l m .hold .probe := by
  simp only [Display.arbitrate, may, if_true, noKeep, seek]

variable (noSeek : Table.first (Module.toProbe probe now) (d.link l).modules = none)
include noSeek

theorem Display.arbitrate_owed {m : Nat} {e : Module}
    (owed : Table.first (fun e => e.owed.message.isSome) (d.link l).modules = some (m, e)) :
    d.arbitrate render now probe l =
      d.send l m (e.owed.message.getD .blank) (owedPurpose (d.link l).state e.owed) := by
  simp only [Display.arbitrate, may, if_true, noKeep, noSeek, owed]

variable (noOwed : Table.first (fun e => e.owed.message.isSome) (d.link l).modules = none)
include noOwed

theorem Display.arbitrate_repaint : d.arbitrate render now probe l = d.sendCell render l := by
  simp only [Display.arbitrate, may, if_true, noKeep, noSeek, noOwed]

end Choice

section Repaint

variable {d : Display} {render : Renderer} {l : Nat}

theorem Display.sendCell_of_not (h : (d.link l).state ≠ .running) : d.sendCell render l = d := if_neg h

theorem Display.sendCell_of_empty (running : (d.link l).state = .running) (empty : d.queue l = []) :
    d.sendCell render l = d := by
  simp only [Display.sendCell, running, if_true, Display.takeHead, empty]

theorem Display.sendCell_of_cons {c : Nat} {rest : List Nat} (running : (d.link l).state = .running)
    (queue : d.queue l = c :: rest) : d.sendCell render l =
      ((d.setCell c { d.cell c with queued := false }).setQueue l rest).send l (d.cell c).address
        (.write (d.cell c).row (d.cell c).column (render (d.isDark c) (d.cell c)).2 (render (d.isDark c) (d.cell c)).1)
        .write := by
  simp only [Display.sendCell, running, if_true, Display.takeHead, queue]

theorem Display.cellInTurn_iff (d : Display) (now : Time) (probe l c : Nat) : d.cellInTurn now probe l = some c ↔
    (d.link l).mayChoose = true ∧
    Table.first (Module.keepAliveDue (d.link l).holdSeconds now) (d.link l).modules = none ∧
    Table.first (Module.toProbe probe now) (d.link l).modules = none ∧
    Table.first (fun e => e.owed.message.isSome) (d.link l).modules = none ∧
    (d.link l).state = .running ∧ ∃ rest, d.queue l = c :: rest := by
  unfold Display.cellInTurn
  simp only [Option.ite_none_right_eq_some, Bool.and_eq_true, decide_eq_true_eq, Option.isNone_iff_eq_none,
    List.head?_eq_some_iff]
  tauto

end Repaint

/-! ### Sending -/

/-- The module table entry after a message is sent (R101). -/
def Module.afterSend (purpose : Purpose) (e : Module) : Module :=
  { e with
    owed := if purpose = .write ∨ purpose = .probe then e.owed else .nothing
    restartPending := if purpose = .probe then false else e.restartPending }

theorem Display.send_eq (d : Display) (l m : Nat) (x : Message) (purpose : Purpose) : d.send l m x purpose =
    d.setLink l { (d.link l).setModule m (((d.link l).module m).afterSend purpose) with
      line := .sending ⟨m, x, purpose, ((d.link l).module m).isUp⟩ } := by
  cases purpose <;> rfl

theorem Display.module_send (d : Display) (l m : Nat) (x : Message) (purpose : Purpose) :
    ((d.send l m x purpose).link l).module m = ((d.link l).module m).afterSend purpose := by
  rw [Display.send_eq, Display.link_setLink_self]
  exact Link.module_setModule_self _ _ _

/-- R101: what sending leaves. -/
theorem send_leaves (d : Display) (l m : Nat) (x : Message) (purpose : Purpose) :
    (∃ e : Module, d.send l m x purpose = d.setLink l
        { (d.link l).setModule m e with line := .sending ⟨m, x, purpose, ((d.link l).module m).isUp⟩ } ∧
      e = { (d.link l).module m with owed := e.owed, restartPending := e.restartPending } ∧
      (purpose = .probe ∨ purpose = .write → e.owed = ((d.link l).module m).owed) ∧
      (purpose ≠ .probe → e.restartPending = ((d.link l).module m).restartPending)) ∧
    ((d.send l m x purpose).link l).line = .sending ⟨m, x, purpose, ((d.link l).module m).isUp⟩ ∧
    (purpose = .probe → (((d.send l m x purpose).link l).module m).restartPending = false) ∧
    (purpose ≠ .probe → purpose ≠ .write → (((d.send l m x purpose).link l).module m).owed = .nothing) ∧
    ∀ k, k ≠ l → (d.send l m x purpose).link k = d.link k := by
  refine ⟨⟨_, d.send_eq l m x purpose, rfl, fun keeps => if_pos keeps.symm, fun other => if_neg other⟩, ?_, fun probe => ?_,
    fun notProbe notWrite => ?_, fun k other => ?_⟩
  · rw [Display.send_eq, Display.link_setLink_self]
  · rw [Display.module_send]
    exact if_pos probe
  · rw [Display.module_send]
    exact if_neg (not_or.mpr ⟨notWrite, notProbe⟩)
  · rw [Display.send_eq, Display.link_setLink_ne _ _ other]

/-! ### Frames -/

theorem toNat_foldl_add (bytes : List Byte) (b : Byte) :
    (bytes.foldl (· + ·) b).toNat = (b.toNat + (bytes.map (·.toNat)).sum) % 256 := by
  induction bytes generalizing b with
  | nil => simp [Nat.mod_eq_of_lt b.isLt]
  | cons c bytes ih =>
    rw [List.foldl_cons, ih, BitVec.toNat_add, List.map_cons, List.sum_cons]
    omega

/-- R101: the check byte is the sum modulo 256. -/
theorem checkByte_eq (bytes : List Byte) : checkByte bytes = BitVec.ofNat 8 (bytes.map (·.toNat)).sum := by
  apply BitVec.eq_of_toNat_eq
  rw [checkByte, toNat_foldl_add, BitVec.toNat_ofNat]
  simp

theorem closeFrame_eq (bytes : List Byte) :
    closeFrame bytes = bytes ++ [BitVec.ofNat 8 (bytes.map (·.toNat)).sum] := by
  rw [closeFrame, checkByte_eq]

theorem attribute_byte (a : Attribute) : a.byte = BitVec.ofNat 8 (a.highlight.toNat + 2 * a.blink.toNat) := by
  cases a with
  | mk highlight blink => cases highlight <;> cases blink <;> rfl

/-- The operands of a message after the module address (R101, R171). -/
theorem boardFrame_eq (address : Nat) (x : Message) : boardFrame address x =
    closeFrame (BitVec.ofNat 8 address :: match x with
      | .write row column attr text =>
        [0x01, BitVec.ofNat 8 row, BitVec.ofNat 8 column, BitVec.ofNat 8 (attr.highlight.toNat + 2 * attr.blink.toNat),
          BitVec.ofNat 8 text.length] ++ text
      | .hold => [0x02]
      | .blank => [0x03]
      | .pattern y => [0x04, match y with
        | .allLit => 0
        | .alternate => 1
        | .address => 2
        | .charset => 3]) := by
  cases x with
  | write row column attr text => rw [boardFrame, attribute_byte]; rfl
  | hold => rfl
  | blank => rfl
  | pattern y => cases y <;> rfl

theorem Link.frameOut_of_idle {v : Link} (h : ∀ x, v.line ≠ .sending x) : v.frameOut = [] := by
  unfold Link.frameOut
  cases line : v.line with
  | free => rfl
  | sending x => exact absurd line (h x)
  | inFlight x t => rfl

theorem Link.frameOut_of_sending {v : Link} {x : Sent} (h : v.line = .sending x) :
    v.frameOut = boardFrame x.address x.message := by rw [Link.frameOut, h]

/-- Settles O37. -/
theorem arbiterChoosesByClass : Obligations.ArbiterChoosesByClass := by
  refine ⟨fun d render now probe l => ⟨Link.mayChoose_iff _, fun e => ⟨e.keepAliveDue_iff _ now, e.probeDue_iff probe now,
      e.toProbe_iff probe now, e.owed.message_isSome⟩, d.cellInTurn_iff now probe l, Display.arbitrate_of_not, fun may =>
      ⟨fun m e keep => ?_, fun m e noKeep => Display.arbitrate_probe may noKeep, fun m e noKeep noSeek owed => ?_,
        fun noKeep noSeek noOwed still => ?_, fun noKeep noSeek noOwed running empty => ?_,
        fun c rest noKeep noSeek noOwed running queue => ?_⟩⟩,
    send_leaves, fun v q now probe wf which => ?first, fun v => ⟨Link.frameOut_of_idle, fun x line => ?frame⟩,
    fun s l m => ⟨fun due => ?_, fun due => ?_, fun early => ?_, fun early => ?_⟩⟩
  · rw [Display.arbitrate_keepAlive may keep, keepAliveMessage_eq] <;> rfl
  · have chosen := Display.arbitrate_owed (render := render) may noKeep noSeek owed
    refine ⟨chosen, fun x pattern => chosen.trans ?_, fun t blank settling => chosen.trans ?_,
      fun blank other => chosen.trans ?_⟩
    · rw [pattern]
      rfl
    · rw [blank, settling]
      rfl
    · rw [blank]
      cases state : (d.link l).state with
      | settling t => exact absurd state (other t)
      | off => rfl
      | running => rfl
      | test x => rfl
  · exact (Display.arbitrate_repaint may noKeep noSeek noOwed).trans (Display.sendCell_of_not still)
  · exact (Display.arbitrate_repaint may noKeep noSeek noOwed).trans (Display.sendCell_of_empty running empty)
  · exact (Display.arbitrate_repaint may noKeep noSeek noOwed).trans (Display.sendCell_of_cons running queue)
  case first =>
    have vacant : q Module.reset = false := by
      obtain rfl | rfl | rfl := which <;> rfl
    exact ⟨Table.first_eq_some_iff wf vacant, Table.first_eq_none_iff wf vacant⟩
  case frame => exact (Link.frameOut_of_sending line).trans ((boardFrame_eq _ _).trans (closeFrame_eq _))
  · exact congrArg Host.Outcome.next (if_pos due)
  · exact congrArg Host.Outcome.next (if_pos due)
  · exact congrArg Host.Outcome.next (if_neg (by rw [early]; nofun))
  · exact congrArg Host.Outcome.next (if_neg (by rw [early]; nofun))

end Sys2Proof.Machine
end

section
/-! The sweeps and the drop of a board link (R95). -/

namespace Sys2Proof.Machine

/-- Cells have been appended to the repaint queue of a link, and nothing else has changed (R87, R95). -/
structure Display.QueuedOn (d t : Display) (l : Nat) (cs : List Nat) : Prop where
  queue : t.queue l = d.queue l ++ cs
  others : ∀ k, k ≠ l → t.queue k = d.queue k
  cells : ∀ c, t.cell c = { d.cell c with queued := (d.cell c).queued || decide (c ∈ cs) }
  panels : t.panels = d.panels
  links : t.links = d.links
  highlights : t.highlights = d.highlights
  deviceHead : t.deviceHead = d.deviceHead

namespace Display.QueuedOn

variable {d e t : Display} {l : Nat}

theorem refl (d : Display) (l : Nat) : d.QueuedOn d l [] where
  queue := (List.append_nil _).symm
  others _ _ := rfl
  cells c := by simp
  panels := rfl
  links := rfl
  highlights := rfl
  deviceHead := rfl

theorem trans {as bs : List Nat} (h : d.QueuedOn e l as) (h' : e.QueuedOn t l bs) : d.QueuedOn t l (as ++ bs) where
  queue := by rw [h'.queue, h.queue, List.append_assoc]
  others k hk := (h'.others k hk).trans (h.others k hk)
  cells c := by rw [h'.cells, h.cells]; simp [Bool.or_assoc]
  panels := h'.panels.trans h.panels
  links := h'.links.trans h.links
  highlights := h'.highlights.trans h.highlights
  deviceHead := h'.deviceHead.trans h.deviceHead

theorem enqueue {c : Nat} (on : d.linkOf c = some l) (paintable : d.paintable c = true)
    (free : (d.cell c).queued = false) : d.QueuedOn (d.enqueue c) l [c] := by
  obtain ⟨p, panel, rfl⟩ := Option.map_eq_some_iff.mp on
  rw [Display.enqueue_of_paintable panel paintable free]
  refine ⟨Display.queue_setQueue_self _ _ _, fun k hk => Display.queue_setQueue_ne _ _ hk, fun x => ?_, rfl, rfl, rfl, rfl⟩
  refine (Display.cell_setCell d c x _).trans ?_
  by_cases same : x = c
  · subst same
    simp
  · simp [same]

theorem linkOf (h : d.QueuedOn t l cs) (c : Nat) : t.linkOf c = d.linkOf c := by
  unfold Display.linkOf Display.panelOf
  rw [h.panels]

theorem paintable (h : d.QueuedOn t l cs) (c : Nat) : t.paintable c = d.paintable c := by
  unfold Display.paintable Display.panelOf Display.link
  rw [h.panels, h.links, h.cells]

/-- R95: a sweep over cells of one link appends those that are paintable and not queued. -/
theorem enqueueAll {xs : List Nat} (once : xs.Nodup) (on : ∀ c ∈ xs, d.linkOf c = some l) :
    d.QueuedOn (d.enqueueAll xs) l (xs.filter fun c => d.paintable c && !(d.cell c).queued) := by
  induction xs generalizing d with
  | nil => exact .refl d l
  | cons x xs ih =>
    obtain ⟨new, rest⟩ := List.nodup_cons.mp once
    by_cases good : (d.paintable x && !(d.cell x).queued) = true
    · obtain ⟨paints, free⟩ := Bool.and_eq_true_iff.mp good
      have first := enqueue (on x List.mem_cons_self) paints (by simpa using free)
      have next := ih (d := d.enqueue x) rest fun c hc => (first.linkOf c).trans (on c (List.mem_cons_of_mem _ hc))
      have same : xs.filter (fun c => (d.enqueue x).paintable c && !((d.enqueue x).cell c).queued) =
          xs.filter fun c => d.paintable c && !(d.cell c).queued := by
        refine List.filter_congr fun c hc => ?_
        have other : c ≠ x := fun e => new (e ▸ hc)
        rw [first.paintable, first.cells]
        simp [other]
      rw [List.filter_cons, if_pos good]
      exact first.trans (same ▸ next)
    · rw [List.filter_cons, if_neg good]
      have stays : d.enqueue x = d := Display.enqueue_of_not (by
        rw [Bool.and_eq_true, not_and_or, Bool.not_eq_true', Bool.not_eq_true, Bool.not_eq_false] at good
        exact good)
      change d.QueuedOn ((d.enqueue x).enqueueAll xs) l _
      rw [stays]
      exact ih rest fun c hc => on c (List.mem_cons_of_mem _ hc)

end Display.QueuedOn

/-- R95: a sweep over the cells of a link that satisfy `q`. -/
theorem Display.sweep {d : Display} {l : Nat} (wf : Table.wf Cell.vacant d.cells = true) {q : Nat → Bool}
    (on : ∀ c, q c = true → d.linkOf c = some l) : ∃ cs : List Nat, cs.Pairwise (· < ·) ∧
      (∀ c, c ∈ cs ↔ q c = true ∧ d.paintable c = true ∧ (d.cell c).queued = false) ∧
      d.QueuedOn (d.enqueueAll (d.boundCells.filter q)) l cs := by
  have rising := (Display.boundCells_pairwise wf).filter q
  refine ⟨_, rising.filter _, fun c => ?_, .enqueueAll (rising.imp fun h => h.ne) fun c hc => on c (List.mem_filter.mp hc).2⟩
  rw [List.mem_filter, List.mem_filter, Display.mem_boundCells_of_wf wf, Bool.and_eq_true, Bool.not_eq_true']
  constructor
  · rintro ⟨⟨-, on⟩, paints, free⟩
    exact ⟨on, paints, free⟩
  · rintro ⟨on, paints, free⟩
    exact ⟨⟨Display.bound_of_paintable paints, on⟩, paints, free⟩

/-- R95: what the module drop leaves. -/
theorem moduleDrop_leaves (d : Display) (l m : Nat) : let t := d.moduleDrop l m
    t.queue l = (d.queue l).filter (fun c => (d.cell c).address ≠ m) ∧
    (∀ k, k ≠ l → t.queue k = d.queue k) ∧
    (∀ c, c ∈ d.queue l → (d.cell c).address = m → t.cell c = { d.cell c with queued := false }) ∧
    (∀ c, c ∉ d.queue l ∨ (d.cell c).address ≠ m → t.cell c = d.cell c) ∧
    t.panels = d.panels ∧ t.links = d.links ∧ t.highlights = d.highlights ∧ t.deviceHead = d.deviceHead := by
  refine ⟨?_, fun k other => ?_, fun c mem at_ => ?_, fun c away => ?_, ?_⟩
  · rw [Display.moduleDrop_queue, if_pos rfl]
    exact List.filter_congr fun c _ => (decide_not (p := (d.cell c).address = m)).symm
  · rw [Display.moduleDrop_queue, if_neg other]
  · rw [Display.moduleDrop_cell, if_pos ⟨mem, at_⟩]
  · rw [Display.moduleDrop_cell, if_neg fun h => away.elim (fun out => out h.1) fun other => other h.2]
  · rw [Display.moduleDrop_rest]
    exact ⟨rfl, rfl, rfl, rfl⟩

end Sys2Proof.Machine
end

section
/-! The events of a board link (R93, R101 to R106). -/

namespace Sys2Proof.Machine

/-! ### Acknowledgements -/

@[simp] theorem checkByte_singleton (b : Byte) : checkByte [b] = b := by
  rw [checkByte_eq]
  simp

theorem ackAddress_eq_some {ack check : Byte} {a : Nat} :
    ackAddress ack check = some a ↔ check = ack ∧ ack = BitVec.ofNat 8 (128 + a) ∧ a ≤ 31 := by
  unfold ackAddress
  rw [checkByte_singleton]
  constructor
  · intro h
    split at h
    next good =>
      obtain ⟨same, low, high⟩ := good
      obtain rfl := Option.some.inj h
      have value : 128 + (ack.toNat - 128) = ack.toNat := Nat.add_sub_cancel' low
      refine ⟨same, ?_, Nat.sub_le_iff_le_add.mpr high⟩
      rw [value, BitVec.ofNat_toNat, BitVec.setWidth_eq]
    next => cases h
  · rintro ⟨rfl, rfl, le⟩
    have value : (BitVec.ofNat 8 (128 + a)).toNat = 128 + a := by rw [BitVec.toNat_ofNat]; omega
    have high : 128 + a ≤ 159 := Nat.add_le_add_left le 128
    simp [value, high]

section Completion

variable {s : State} {l : Fin 4} {x : Sent} {deadline : Time}

theorem Link.inFlight_eq_none {v : Link} (h : ∀ x deadline, v.line ≠ .inFlight x deadline) : v.inFlight = none := by
  unfold Link.inFlight
  cases line : v.line with
  | free => rfl
  | sending x => rfl
  | inFlight x t => exact absurd line (h x t)

theorem Link.inFlight_eq_some {v : Link} (line : v.line = .inFlight x deadline) : v.inFlight = some (x, deadline) := by
  rw [Link.inFlight, line]

theorem Sent.recordsDown_iff (x : Sent) : x.recordsDown = true ↔ x.toUp = true ∨ x.purpose ≠ .probe := by
  rw [Sent.recordsDown, Bool.or_eq_true, Bool.not_eq_true', decide_eq_false_iff_not]

/-- R102: what an acknowledgement does with a message in flight. -/
theorem exec_moduleAcknowledgement (line : (s.display.link l).line = .inFlight x deadline) (ack check : Byte) :
    exec (.moduleAcknowledgement l ack check) s =
      .next (if ackAddress ack check = some x.address ∧ reached deadline s.now = false then
        s.onLink l fun d => d.acknowledged l x else s) := by
  change execModuleAcknowledgement l ack check s = _
  rw [execModuleAcknowledgement, Link.inFlight_eq_some line]

/-- R103: what a timeout does with a message in flight. -/
theorem exec_moduleAckTimeout (line : (s.display.link l).line = .inFlight x deadline) :
    exec (.moduleAckTimeout l) s = .next (if reached deadline s.now then
      (if x.recordsDown then (s.onLink l fun d => d.timedOut l x).record .supervisor .moduleDown
        else s.onLink l fun d => d.timedOut l x) else s) := by
  change execModuleAckTimeout l s = _
  rw [execModuleAckTimeout, Link.inFlight_eq_some line]

end Completion

/-! ### Handoffs that a link would overtake -/

theorem BoardChange.names_iff (b : BoardChange) (f : CellField) :
    b.names f = true ↔ ∃ x ∈ b.fields, f = .instrument x b.index := by
  cases f with
  | instrument x i =>
    rw [BoardChange.names, Bool.and_eq_true, decide_eq_true_iff, List.contains_iff_mem]
    constructor
    · rintro ⟨rfl, mem⟩
      exact ⟨x, mem, rfl⟩
    · rintro ⟨y, mem, same⟩
      cases same
      exact ⟨rfl, mem⟩
  | clock => simp [BoardChange.names]
  | market => simp [BoardChange.names]
  | tapeState n => simp [BoardChange.names]

theorem State.overtakes_iff (s : State) (ks : List Nat) : s.overtakes ks = true ↔ ∃ k ∈ ks, ∃ c,
    s.display.cellInTurn s.now s.items.probeSeconds k = some c ∧ s.display.isDark c = false ∧
      ∃ b ∈ s.transit.boardChanges, ∃ x ∈ b.fields, (s.display.cell c).field = .instrument x b.index := by
  simp only [State.overtakes, List.any_eq_true, Option.any_eq_true, State.outstanding, Bool.and_eq_true,
    Bool.not_eq_true', BoardChange.names_iff]

theorem State.boardCaughtUp_of_none {s : State} (h : s.transit.boardChanges = []) : s.boardCaughtUp = s := by
  have transit : { s.transit with boardChanges := [] } = s.transit := by rw [← h]
  rw [State.boardCaughtUp, h, transit]
  rfl

theorem State.boardCaughtUp_of_cons {s : State} {b : BoardChange} {rest : List BoardChange}
    (h : s.transit.boardChanges = b :: rest) : s.boardCaughtUp = ({ s with
      transit := { s.transit with boardChanges := rest }
      display := (s.display.bindingList (s.instr b.index).bindHead).foldl (fun d c => d.showChange b.fields
        (if b.eligible then some (later s.now (s.items.highlightSeconds * 1000)) else none) c) s.display } :
          State).boardCaughtUp := by
  rw [State.boardCaughtUp, h]
  rfl

theorem wakes_iff (a b : List Nat) : (a.isEmpty && !b.isEmpty) = true ↔ a = [] ∧ b ≠ [] := by
  rw [Bool.and_eq_true, Bool.not_eq_true', List.isEmpty_iff, List.isEmpty_eq_false_iff]

theorem Display.wake_eq (render : Renderer) (now : Time) (probe : Nat) (was is : Display) :
    Display.wake render now probe was is = [0, 1, 2, 3].foldl
      (fun d k => if was.queue k = [] ∧ is.queue k ≠ [] then d.arbitrate render now probe k else d) is := by
  simp only [Display.wake, wakes_iff]

theorem Display.woken_eq (was is : Display) :
    was.woken is = [0, 1, 2, 3].filter fun k => decide (was.queue k = [] ∧ is.queue k ≠ []) :=
  List.filter_congr fun k _ => by rw [Bool.eq_iff_iff, wakes_iff, decide_eq_true_iff]

theorem State.handoffsFirst_of_not {s : State} {ls : List Nat} (h : s.overtakes ls = false) : s.handoffsFirst ls = s := by
  obtain ⟨-, e⟩ | ⟨e, -⟩ := s.handoffsFirst_cases ls
  · exact e
  · rw [h] at e
    cases e

theorem State.handoffsFirst_of_overtakes {s : State} {ls : List Nat} (h : s.overtakes ls = true) :
    s.handoffsFirst ls = s.boardCaughtUp := by
  obtain ⟨e, -⟩ | ⟨-, e⟩ := s.handoffsFirst_cases ls
  · rw [h] at e
    cases e
  · exact e

section Actions

variable (s : State) (f : Display → Display) (l : Nat)

/-- R104: the choices that an action at a link or at the board brings. -/
theorem actions_choose :
    let t : State := { s with display := f s.display }
    let pick (d : Display) (k : Nat) : Display := d.arbitrate s.renderCell s.now s.items.probeSeconds k
    let wake (was is : Display) : Display := [0, 1, 2, 3].foldl
      (fun d k => if was.queue k = [] ∧ is.queue k ≠ [] then pick d k else d) is
    (t.overtakes [l] = false → s.onLink l f = { t with display := pick (f s.display) l }) ∧
    (t.overtakes [l] = true → s.onLink l f =
      { t.boardCaughtUp with display := pick (wake t.display t.boardCaughtUp.display) l }) ∧
    let woken := [0, 1, 2, 3].filter fun k => decide (s.display.queue k = [] ∧ t.display.queue k ≠ [])
    (t.overtakes woken = false → s.onBoard f = { t with display := wake s.display t.display }) ∧
    (t.overtakes woken = true → s.onBoard f =
      { t.boardCaughtUp with display := wake s.display t.boardCaughtUp.display }) := by
  intro t pick wake
  refine ⟨fun clear => ?_, fun overtaken => ?_, ?_⟩
  · have first := State.handoffsFirst_of_not clear
    simp only [t] at first
    simp only [State.onLink, first, Display.wake_self]
    rfl
  · have first := State.handoffsFirst_of_overtakes overtaken
    simp only [t] at first
    simp only [State.onLink, first, Display.wake_eq]
    rfl
  · intro woken
    refine ⟨fun clear => ?_, fun overtaken => ?_⟩
    · have first := State.handoffsFirst_of_not clear
      simp only [t, woken] at first
      simp only [State.onBoard, Display.woken_eq, first, Display.wake_eq]
      rfl
    · have first := State.handoffsFirst_of_overtakes overtaken
      simp only [t, woken] at first
      simp only [State.onBoard, Display.woken_eq, first, Display.wake_eq]
      rfl

end Actions

/-! ### Completion, by purpose -/

section Purposes

variable (d : Display) (l : Nat)

@[simp] theorem Display.module_release (m : Nat) : ((d.release l).link l).module m = (d.link l).module m := by
  rw [Display.release, Display.link_setLink_self]
  rfl

@[simp] theorem Display.state_release : ((d.release l).link l).state = (d.link l).state := by
  rw [Display.release, Display.link_setLink_self]

theorem owedAfterProbe_of_test (y : LampPattern) (o : Owed) : owedAfterProbe (.test y) o = .pattern y := rfl

theorem owedAfterProbe_of_not_test {st : LinkState} (h : ∀ y, st ≠ .test y) (o : Owed) : owedAfterProbe st o = o := by
  cases st with
  | test y => exact absurd rfl (h y)
  | off => rfl
  | settling t => rfl
  | running => rfl

theorem Link.settled_iff (v : Link) :
    v.settled = true ↔ (∃ t, v.state = .settling t) ∧ ∀ k ∈ v.modules, k.2.owed ≠ .blank := by
  unfold Link.settled
  rw [Bool.and_eq_true, Option.isNone_iff_eq_none, Table.first, List.find?_eq_none]
  refine and_congr ?_ ?_
  · cases v.state <;> simp
  · simp

theorem Display.endSettling_of_settled (settling : ∃ t, (d.link l).state = .settling t)
    (clear : ∀ k ∈ (d.link l).modules, k.2.owed ≠ .blank) :
    d.endSettling l = (d.setLink l { d.link l with state := .running }).linkSweep l :=
  if_pos ((Link.settled_iff _).mpr ⟨settling, clear⟩)

theorem Display.endSettling_of_not
    (h : (∀ t, (d.link l).state ≠ .settling t) ∨ ∃ k ∈ (d.link l).modules, k.2.owed = .blank) : d.endSettling l = d := by
  refine if_neg (mt (Link.settled_iff _).mp ?_)
  rintro ⟨⟨t, settling⟩, clear⟩
  obtain other | ⟨k, mem, blank⟩ := h
  · exact other t settling
  · exact clear k mem blank

/-- R105: every configured module of the link is owed BLANK when the settle wait ends. -/
theorem Display.settleEnd_owes : ∃ u : Link, d.settleEnd l = (d.setLink l u).endSettling l ∧
    u = { d.link l with state := .settling none, modules := u.modules } ∧
    (Table.wf Module.reset (d.link l).modules = true → ∀ m, u.module m =
      { (d.link l).module m with
        owed := if ((d.link l).module m).state = .unconfigured then ((d.link l).module m).owed else .blank }) := by
  refine ⟨_, rfl, rfl, fun wf m => ?_⟩
  refine (Table.get_mapValues Module.reset
    (f := fun e => if e.configured then { e with owed := .blank } else e) rfl wf m).trans ?_
  change (if ((d.link l).module m).configured then _ else (d.link l).module m) = _
  unfold Module.configured
  change (if _ then ({ (d.link l).module m with owed := .blank } : Module) else _) = _
  generalize (d.link l).module m = e
  by_cases off : e.state = .unconfigured
  · simp only [off, ne_eq, not_true_eq_false, decide_false, Bool.false_eq_true, if_false, if_true]
    rw [← off]
  · simp only [off, ne_eq, not_false_eq_true, decide_true, if_true, if_false]

/-- R102, R103: what each purpose leaves when its message completes. -/
theorem completions (x : Sent) : let free := d.setLink l { d.link l with line := .free }
    let v := d.link l
    let e := v.module x.address
    (x.purpose ≠ .probe → x.purpose ≠ .settleBlank → d.acknowledged l x = free) ∧
    (x.purpose = .settleBlank → d.acknowledged l x =
      (free.setLink l ((free.link l).setModule x.address { e with state := .up, owed := .nothing })).endSettling l) ∧
    (x.purpose = .probe →
      ∃ e', d.acknowledged l x = (free.setLink l ((free.link l).setModule x.address e')).moduleSweep l x.address ∧
        e' = { e with state := .up, owed := e'.owed } ∧ (∀ y, v.state = .test y → e'.owed = .pattern y) ∧
        ((∀ y, v.state ≠ .test y) → e'.owed = e.owed)) ∧
    (x.purpose = .probe → x.toUp = false → d.timedOut l x = free) ∧
    (x.purpose = .settleBlank → d.timedOut l x = free.endSettling l) ∧
    (x.purpose ≠ .settleBlank → x.purpose ≠ .probe ∨ x.toUp = true →
      d.timedOut l x = (free.setLink l ((free.link l).setModule x.address
        { e with state := .down, owed := .nothing })).moduleDrop l x.address) := by
  intro free v e
  have released : free = d.release l := rfl
  have same : ((d.release l).link l).module x.address = e := d.module_release l x.address
  rw [released]
  refine ⟨fun notProbe notSettle => ?_, fun settle => ?_, fun probe => ?_, fun probe down => ?_, fun settle => ?_,
    fun notSettle takes => ?_⟩
  · cases purpose : x.purpose with
    | probe => exact absurd purpose notProbe
    | settleBlank => exact absurd purpose notSettle
    | write => simp only [Display.acknowledged, purpose]
    | keepAlive => simp only [Display.acknowledged, purpose]
    | owedBlank => simp only [Display.acknowledged, purpose]
    | owedPattern => simp only [Display.acknowledged, purpose]
  · simp only [Display.acknowledged, settle, same]
  · refine ⟨{ e with state := .up, owed := owedAfterProbe v.state e.owed }, ?_, rfl, fun y test => ?_, fun other => ?_⟩
    · simp only [Display.acknowledged, probe, same, Display.state_release]
      rfl
    · rw [test]
      rfl
    · exact owedAfterProbe_of_not_test other _
  · simp [Display.timedOut, probe, down]
  · simp only [Display.timedOut, settle]
  · have down : (d.release l).takeDown l x.address = ((d.release l).setLink l (((d.release l).link l).setModule x.address
        { e with state := .down, owed := .nothing })).moduleDrop l x.address := by
      rw [Display.takeDown, same]
    rw [← down]
    cases purpose : x.purpose with
    | probe =>
      have up := takes.resolve_left (not_not.mpr purpose)
      simp [Display.timedOut, purpose, up]
    | settleBlank => exact absurd purpose notSettle
    | write => simp only [Display.timedOut, purpose]
    | keepAlive => simp only [Display.timedOut, purpose]
    | owedBlank => simp only [Display.timedOut, purpose]
    | owedPattern => simp only [Display.timedOut, purpose]

end Purposes

/-! ### The events -/

section Events

variable (s : State) (l : Fin 4)

/-- R101: the last byte of a frame stamps the module and starts the wait for its acknowledgement. -/
theorem exec_frameSent {x : Sent} (line : (s.display.link l).line = .sending x) :
    let v := s.display.link l
    let sent : Link := v.setModule x.address { v.module x.address with lastSent := some s.now }
    let waits : Link := { sent with line := .inFlight x (s.now + BitVec.ofNat 32 v.ackTimeout) }
    exec (.frameSent l) s = .next { s with display := s.display.setLink l waits } := by
  intro v sent waits
  change execFrameSent l s = _
  simp only [execFrameSent, line]
  rfl

theorem exec_frameSent_of_not_sending (h : ∀ x, (s.display.link l).line ≠ .sending x) :
    exec (.frameSent l) s = .next s := by
  change execFrameSent l s = _
  cases line : (s.display.link l).line with
  | free => simp only [execFrameSent, line]
  | sending x => exact absurd line (h x)
  | inFlight x t => simp only [execFrameSent, line]

theorem Link.settleExpiry_eq_some {v : Link} {t : Time} : v.settleExpiry = some t ↔ v.state = .settling (some t) := by
  unfold Link.settleExpiry
  cases v.state <;> simp

/-- R105: the end of the settle wait. -/
theorem exec_settleExpiry {t : Time} (settling : (s.display.link l).state = .settling (some t)) :
    exec (.settleExpiry l) s = .next (if reached t s.now then s.onLink l fun d => d.settleEnd l else s) := by
  change execSettleExpiry l s = _
  rw [execSettleExpiry, Link.settleExpiry_eq_some.mpr settling]

theorem exec_settleExpiry_early (h : ∀ t, (s.display.link l).state = .settling (some t) → reached t s.now = false) :
    exec (.settleExpiry l) s = .next s := by
  cases expiry : (s.display.link l).settleExpiry with
  | none =>
    change execSettleExpiry l s = _
    rw [execSettleExpiry, expiry]
  | some t =>
    have settling := Link.settleExpiry_eq_some.mp expiry
    rw [exec_settleExpiry s l settling, h t settling]
    rfl

end Events

/-- Settles O38: the events of a link, what each purpose leaves, the sweeps and the drop. -/
theorem linkEvents : Obligations.LinkEvents := by
  refine ⟨fun s l => ⟨fun x line => exec_frameSent s l line, fun x deadline line address => ⟨fun early => ?_,
    fun ack check wrong => ?_, fun late => ?_, fun late ack check => ?_, fun early => ?_⟩, fun h =>
    ⟨fun ack check => ?_, ?_⟩, exec_frameSent_of_not_sending s l, fun t settling late => ?_,
    exec_settleExpiry_early s l, s.overtakes_iff, State.boardCaughtUp_of_none, fun b rest h =>
    State.boardCaughtUp_of_cons h, fun f => actions_choose s f l⟩, fun d l x => ?_, fun d l wf => ⟨?_, fun m => ?_⟩,
    moduleDrop_leaves⟩
  · rw [exec_moduleAcknowledgement line, if_pos ⟨ackAddress_eq_some.mpr ⟨rfl, rfl, address⟩, early⟩]
  · rw [exec_moduleAcknowledgement line, if_neg]
    rintro ⟨names, -⟩
    obtain ⟨same, value, -⟩ := ackAddress_eq_some.mp names
    exact wrong.elim (fun other => other value) fun other => other same
  · rw [exec_moduleAckTimeout line, if_pos late]
    simp only [Sent.recordsDown_iff]
  · rw [exec_moduleAcknowledgement line, if_neg]
    rintro ⟨-, early⟩
    rw [late] at early
    cases early
  · rw [exec_moduleAckTimeout line, early]
    rfl
  · change execModuleAcknowledgement l ack check s = _
    rw [execModuleAcknowledgement, Link.inFlight_eq_none h]
  · change execModuleAckTimeout l s = _
    rw [execModuleAckTimeout, Link.inFlight_eq_none h]
  · rw [exec_settleExpiry s l settling, if_pos late]
  · obtain ⟨answered, settle, probe, quiet, settleOut, down⟩ := completions d l x
    exact ⟨answered, settle, probe, quiet, settleOut, down, d.settleEnd_owes l, d.endSettling_of_settled l,
      d.endSettling_of_not l⟩
  · obtain ⟨cs, rising, mem, h⟩ := Display.sweep wf (q := fun c => decide (d.linkOf c = some l)) fun c => of_decide_eq_true
    exact ⟨cs, rising, fun c => by rw [mem, decide_eq_true_iff], h.queue, h.others, h.cells, h.panels, h.links,
      h.highlights, h.deviceHead⟩
  · obtain ⟨cs, rising, mem, h⟩ := Display.sweep wf (q := fun c => d.onModule l m c)
      fun c on => ((d.onModule_iff l m c).mp on).1
    exact ⟨cs, rising, fun c => by rw [mem, d.onModule_iff], h.queue, h.others, h.cells, h.panels, h.links,
      h.highlights, h.deviceHead⟩

end Sys2Proof.Machine
end

section
/-! The requests on a board link: MODULE RESTART, the lamp tests, READ LINK (R108 to R112). -/

namespace Sys2Proof.Machine

theorem lampPattern_ofCode_iff (n : Nat) (x : LampPattern) : LampPattern.ofCode n = some x ↔
    (n, x) ∈ [(0, LampPattern.allLit), (1, .alternate), (2, .address), (3, .charset)] := by
  unfold LampPattern.ofCode
  split <;> simp_all [eq_comm]

theorem lampPattern_ofCode_le {n : Nat} : n ≤ 3 ↔ ∃ x, LampPattern.ofCode n = some x := by
  constructor
  · intro h
    interval_cases n <;> exact ⟨_, rfl⟩
  · rintro ⟨x, h⟩
    have := (lampPattern_ofCode_iff n x).mp h
    simp at this
    omega

/-! ### The checks of a link request -/

section Checks

variable {n : Nat} {bad : Bool} {ops : List Word} {s : State} {rest : List (Bool × Answer)}

theorem badLink_iff : (decide (ops.length ≠ n) || decide (3 < operand ops 0) || bad) = false ↔
    ops.length = n ∧ operand ops 0 ≤ 3 ∧ bad = false := by
  simp only [Bool.or_eq_false_iff, decide_eq_false_iff_not, ne_eq, not_not, not_lt, and_assoc]

theorem linkChecks_malformed (h : ¬ (ops.length = n ∧ operand ops 0 ≤ 3 ∧ bad = false)) :
    firstRefusal (linkChecks n bad ops s ++ rest) = some .malformed :=
  firstRefusal_fail (eq_true_of_ne_false (mt badLink_iff.mp h))

theorem linkChecks_notLive (formed : ops.length = n ∧ operand ops 0 ≤ 3 ∧ bad = false) (config : s.mode = .config) :
    firstRefusal (linkChecks n bad ops s ++ rest) = some .notLive :=
  (firstRefusal_pass (badLink_iff.mpr formed)).trans (firstRefusal_fail (decide_eq_true config))

theorem linkChecks_off (formed : ops.length = n ∧ operand ops 0 ≤ 3 ∧ bad = false) (live : s.mode = .live)
    (off : (s.display.link (operand ops 0)).state = .off) :
    firstRefusal (linkChecks n bad ops s ++ rest) = some .outOfRange :=
  (firstRefusal_pass (badLink_iff.mpr formed)).trans <| (firstRefusal_pass (not_config live)).trans
    (firstRefusal_fail (decide_eq_true off))

theorem linkChecks_pass (formed : ops.length = n ∧ operand ops 0 ≤ 3 ∧ bad = false) (live : s.mode = .live)
    (on : (s.display.link (operand ops 0)).state ≠ .off) :
    firstRefusal (linkChecks n bad ops s ++ rest) = firstRefusal rest :=
  (firstRefusal_pass (badLink_iff.mpr formed)).trans <| (firstRefusal_pass (not_config live)).trans
    (firstRefusal_pass (decide_eq_false on))

theorem Link.isSettling_iff (v : Link) : v.isSettling = true ↔ ∃ t, v.state = .settling t := by
  unfold Link.isSettling
  cases v.state <;> simp

theorem Link.isSettling_of_up {v : Link} (h : v.state = .running ∨ ∃ x, v.state = .test x) : v.isSettling = false := by
  unfold Link.isSettling
  obtain h | ⟨x, h⟩ := h <;> rw [h]

theorem settlingCheck_busy (settling : ∃ t, (s.display.link (operand ops 0)).state = .settling t) :
    firstRefusal (settlingCheck ops s) = some .busy := firstRefusal_fail ((Link.isSettling_iff _).mpr settling)

theorem settlingCheck_pass (up : (s.display.link (operand ops 0)).state = .running ∨
    ∃ x, (s.display.link (operand ops 0)).state = .test x) : firstRefusal (settlingCheck ops s) = none :=
  firstRefusal_pass (Link.isSettling_of_up up)

theorem Link.on_of_settling {v : Link} (h : ∃ t, v.state = .settling t) : v.state ≠ .off := by
  obtain ⟨t, h⟩ := h
  rw [h]
  nofun

theorem Link.on_of_up {v : Link} (h : v.state = .running ∨ ∃ x, v.state = .test x) : v.state ≠ .off := by
  obtain h | ⟨x, h⟩ := h <;> rw [h] <;> nofun

theorem Module.configured_eq_false {e : Module} : e.configured = false ↔ e.state = .unconfigured := by
  rw [Module.configured, decide_eq_false_iff_not, not_not]

end Checks

/-! ### MODULE RESTART and the lamp tests -/

section Requests

variable {s : State} {p : PortId} {w : Word} {ops : List Word}

theorem moduleRestartCheck_eq : moduleRestartCheck ops s =
    firstRefusal (linkChecks 2 (decide (31 < operand ops 1)) ops s ++
      ((!((s.display.link (operand ops 0)).module (operand ops 1)).configured, .outOfRange) :: settlingCheck ops s)) := by
  rw [moduleRestartCheck, List.append_assoc]
  rfl

/-- R108. -/
theorem moduleRestart_row (received : s.receives p w .moduleRestart ops) :
    let l := operand ops 0
    let v := s.display.link l
    let up : Prop := v.state = .running ∨ ∃ x, v.state = .test x
    let settling : Prop := ∃ t, v.state = .settling t
    let refuses (a : Answer) : Prop := exec (.moduleRestart p w .now) s = .next (s.answered p a [])
    let m := operand ops 1
    let formed : Prop := ops.length = 2 ∧ l ≤ 3 ∧ m ≤ 31
    let here : Prop := v.state ≠ .off ∧ (v.module m).state ≠ .unconfigured
    (¬ formed → refuses .malformed) ∧
    (formed → s.mode = .config → refuses .notLive) ∧
    (formed → s.mode = .live → ¬ here → refuses .outOfRange) ∧
    (formed → s.mode = .live → here → settling → refuses .busy) ∧
    (formed → s.mode = .live → here → up →
      exec (.moduleRestart p w .now) s = .next ((s.onLink l fun d => d.setLink l
        (v.setModule m { v.module m with restartPending := true })).answered p .done [])) := by
  intro l v up settling refuses m formed here
  have form : formed ↔ ops.length = 2 ∧ operand ops 0 ≤ 3 ∧ decide (31 < operand ops 1) = false := by
    rw [decide_eq_false_iff_not, not_lt]
  have refused {a : Answer} (h : moduleRestartCheck ops s = some a) : refuses a :=
    Request.exec_checked_refused received rfl h
  have present (h : here) : (!(v.module m).configured) = false := by
    rw [Bool.not_eq_false', ← Bool.not_eq_false, Module.configured_eq_false]
    exact h.2
  refine ⟨fun bad => refused ?_, fun good config => refused ?_, fun good live away => refused ?_,
    fun good live at_ waits => refused ?_, fun good live at_ rises => ?_⟩
  · rw [moduleRestartCheck_eq, linkChecks_malformed (mt form.mpr bad)]
  · rw [moduleRestartCheck_eq, linkChecks_notLive (form.mp good) config]
  · by_cases off : v.state = .off
    · rw [moduleRestartCheck_eq, linkChecks_off (form.mp good) live off]
    · have none : (v.module m).state = .unconfigured := not_not.mp fun other => away ⟨off, other⟩
      rw [moduleRestartCheck_eq, linkChecks_pass (form.mp good) live off,
        firstRefusal_fail (by rw [Module.configured_eq_false.mpr none]; rfl)]
  · rw [moduleRestartCheck_eq, linkChecks_pass (form.mp good) live at_.1, firstRefusal_pass (present at_),
      settlingCheck_busy waits]
  · refine (Request.exec_checked_done (t := s.onLink l fun d => d.setLink l ((d.link l).askRestart m)) received rfl ?_
      rfl).trans ?_
    · rw [moduleRestartCheck_eq, linkChecks_pass (form.mp good) live at_.1, firstRefusal_pass (present at_),
        settlingCheck_pass rises]
    · rfl

/-- R109. -/
theorem lampTestStart_row (received : s.receives p w .lampTestStart ops) :
    let l := operand ops 0
    let v := s.display.link l
    let up : Prop := v.state = .running ∨ ∃ x, v.state = .test x
    let settling : Prop := ∃ t, v.state = .settling t
    let refuses (a : Answer) : Prop := exec (.lampTestStart p w .now) s = .next (s.answered p a [])
    let formed (x : LampPattern) : Prop := ops.length = 2 ∧ l ≤ 3 ∧ LampPattern.ofCode (operand ops 1) = some x
    ((∀ x, ¬ formed x) → refuses .malformed) ∧
    ∀ x, formed x →
      (s.mode = .config → refuses .notLive) ∧
      (s.mode = .live → v.state = .off → refuses .outOfRange) ∧
      (s.mode = .live → settling → refuses .busy) ∧
      (s.mode = .live → up →
        exec (.lampTestStart p w .now) s = .next ((s.onLink l fun d => d.setLink l
          { v with
            state := .test x
            modules := Table.mapValues Module.reset
              (fun e => if e.state = .up then { e with owed := .pattern x } else e) v.modules }).answered
            p .done [])) := by
  intro l v up settling refuses formed
  have form : (∃ x, formed x) ↔ ops.length = 2 ∧ operand ops 0 ≤ 3 ∧ decide (3 < operand ops 1) = false := by
    rw [decide_eq_false_iff_not, not_lt, lampPattern_ofCode_le (n := operand ops 1), exists_and_left, exists_and_left]
  have refused {a : Answer} (h : lampTestStartCheck ops s = some a) : refuses a :=
    Request.exec_checked_refused received rfl h
  refine ⟨fun bad => refused (linkChecks_malformed (mt form.mpr (not_exists.mpr bad))), fun x good => ?_⟩
  have formed := form.mp ⟨x, good⟩
  refine ⟨fun config => refused (linkChecks_notLive formed config), fun live off => refused (linkChecks_off formed live off),
    fun live waits => refused ?_, fun live rises => ?_⟩
  · rw [lampTestStartCheck, linkChecks_pass formed live (Link.on_of_settling waits), settlingCheck_busy waits]
  · refine (Request.exec_checked_done (t := s.onLink l fun d => d.setLink l ((d.link l).startTest x)) (ws := [])
      received rfl ?_
      ?_).trans ?_
    · rw [lampTestStartCheck, linkChecks_pass formed live (Link.on_of_up rises), settlingCheck_pass rises]
    · dsimp only
      rw [good.2.2]
      rfl
    · have same : v.startTest x = { v with
          state := .test x
          modules := Table.mapValues Module.reset
            (fun e => if e.state = .up then { e with owed := .pattern x } else e) v.modules } := by
        simp only [Link.startTest, Link.owe, Module.isUp, decide_eq_true_eq]
      rw [← same]
      rfl

/-- R111. -/
theorem lampTestStop_row (received : s.receives p w .lampTestStop ops) :
    let l := operand ops 0
    let v := s.display.link l
    let settling : Prop := ∃ t, v.state = .settling t
    let refuses (a : Answer) : Prop := exec (.lampTestStop p w .now) s = .next (s.answered p a [])
    let formed : Prop := ops.length = 1 ∧ l ≤ 3
    (¬ formed → refuses .malformed) ∧
    (formed → s.mode = .config → refuses .notLive) ∧
    (formed → s.mode = .live → v.state = .off → refuses .outOfRange) ∧
    (formed → s.mode = .live → settling → refuses .busy) ∧
    (formed → s.mode = .live → v.state = .running → exec (.lampTestStop p w .now) s = .next (s.answered p .done [])) ∧
    ∀ x, formed → s.mode = .live → v.state = .test x →
      exec (.lampTestStop p w .now) s = .next ((s.onLink l fun d => (d.setLink l
        { v with
          state := .running
          modules := Table.mapValues Module.reset
            (fun e => if e.state = .up then { e with owed := .blank } else e) v.modules }).linkSweep l).answered
          p .done []) := by
  intro l v settling refuses formed
  have form (good : formed) : ops.length = 1 ∧ operand ops 0 ≤ 3 ∧ false = false := ⟨good.1, good.2, rfl⟩
  have refused {a : Answer} (h : lampTestStopCheck ops s = some a) : refuses a :=
    Request.exec_checked_refused received rfl h
  have passes (good : formed) (live : s.mode = .live) (up : v.state = .running ∨ ∃ x, v.state = .test x) :
      lampTestStopCheck ops s = none := by
    rw [lampTestStopCheck, linkChecks_pass (form good) live (Link.on_of_up up), settlingCheck_pass up]
  refine ⟨fun bad => refused (linkChecks_malformed fun good => bad ⟨good.1, good.2.1⟩),
    fun good config => refused (linkChecks_notLive (form good) config),
    fun good live off => refused (linkChecks_off (form good) live off), fun good live waits => refused ?_,
    fun good live runs => ?_, fun x good live test => ?_⟩
  · rw [lampTestStopCheck, linkChecks_pass (form good) live (Link.on_of_settling waits), settlingCheck_busy waits]
  · refine Request.exec_checked_done received rfl (passes good live (.inl runs)) ?_
    dsimp only
    rw [show (s.display.link (operand ops 0)).state = .running from runs]
    rfl
  · refine (Request.exec_checked_done (t := s.onLink l fun d => d.stopTest l) (ws := []) received rfl
      (passes good live (.inr ⟨x, test⟩)) ?_).trans ?_
    · dsimp only
      rw [show (s.display.link (operand ops 0)).state = .test x from test]
      rfl
    · have same : Link.owe Module.isUp .blank { v with state := .running } = { v with
          state := .running
          modules := Table.mapValues Module.reset
            (fun e => if e.state = .up then { e with owed := .blank } else e) v.modules } := by
        simp only [Link.owe, Module.isUp, decide_eq_true_eq]
      rw [← same]
      rfl

end Requests

/-! ### READ LINK -/

theorem Module.nibble_lt (e : Module) : e.nibble < 8 := by
  unfold Module.nibble bit
  cases e.state <;> cases e.restartPending <;> decide

theorem Module.nibble_restart (e : Module) : decide (e.nibble / 4 % 2 = 1) = e.restartPending := by
  unfold Module.nibble bit
  cases e.state <;> cases e.restartPending <;> rfl

theorem Module.nibble_state (e : Module) : e.nibble % 4 = match e.state with
    | .unconfigured => 0
    | .up => 1
    | .down => 2 := by
  unfold Module.nibble bit
  cases e.state <;> cases e.restartPending <;> rfl

/-- The nibble of the module at offset `j` within its word, the lowest address highest (R174). -/
theorem Link.nibbles_digit (v : Link) (k : Nat) {j : Nat} (h : j < 4) :
    v.nibbles k / 2 ^ (12 - 4 * j) % 16 = (v.module (4 * k + j)).nibble ∧ v.nibbles k < 65536 := by
  have a := (v.module (4 * k)).nibble_lt
  have b := (v.module (4 * k + 1)).nibble_lt
  have c := (v.module (4 * k + 2)).nibble_lt
  have d := (v.module (4 * k + 3)).nibble_lt
  unfold Link.nibbles
  interval_cases j
  · change _ / 2 ^ (12 - 4 * 0) % 16 = (v.module (4 * k)).nibble ∧ _
    omega
  all_goals omega

/-- The bits of a hexadecimal digit below 8 within a word. -/
theorem word_digit {n e : Nat} (small : n < 65536) (place : e ≤ 12) (low : n / 2 ^ e % 16 < 8) :
    (word n).getLsbD (e + 3) = false ∧ ((word n).extractLsb' e 2).toNat = n / 2 ^ e % 16 % 4 ∧
    (word n).getLsbD (e + 2) = decide (n / 2 ^ e % 16 / 4 % 2 = 1) := by
  have third : e + 3 < 16 := by omega
  have second : e + 2 < 16 := by omega
  rw [getLsbD_word, getLsbD_word, extractLsb'_word, Nat.mod_eq_of_lt small, Nat.pow_add, Nat.pow_add,
    ← Nat.div_div_eq_div_mul, ← Nat.div_div_eq_div_mul, decide_eq_true third, decide_eq_true second, Bool.true_and,
    Bool.true_and, decide_eq_false_iff_not, decide_eq_decide]
  omega

/-- R112: the three parts of a module's nibble. -/
theorem word_nibbles (v : Link) (k : Nat) {j : Nat} (h : j < 4) :
    (word (v.nibbles k)).getLsbD (15 - 4 * j) = false ∧
    (((word (v.nibbles k)).extractLsb' (12 - 4 * j) 2).toNat = match (v.module (4 * k + j)).state with
      | .unconfigured => 0
      | .up => 1
      | .down => 2) ∧
    (word (v.nibbles k)).getLsbD (14 - 4 * j) = (v.module (4 * k + j)).restartPending := by
  obtain ⟨digit, small⟩ := v.nibbles_digit k h
  have bound := (v.module (4 * k + j)).nibble_lt
  rw [← Module.nibble_state, ← Module.nibble_restart, ← digit, show 15 - 4 * j = 12 - 4 * j + 3 by omega,
    show 14 - 4 * j = 12 - 4 * j + 2 by omega]
  exact word_digit small (Nat.sub_le _ _) (digit.trans_lt bound)

theorem getD_linkWords (v : Link) {k : Nat} (h : k < 8) : (linkWords v).getD (k + 1) 0 = word (v.nibbles k) := by
  unfold linkWords
  interval_cases k <;> rfl

/-- R112: the first word. -/
theorem word_linkState (st : LinkState) : let x := word (linkStateWord st)
    (x.extractLsb' 0 2).toNat = (match st with
      | .off => 0
      | .settling _ => 1
      | .running => 2
      | .test _ => 3) ∧
    (∀ y, st = .test y → x.getLsbD 7 = true ∧ (x.extractLsb' 4 2).toNat = match y with
      | .allLit => 0
      | .alternate => 1
      | .address => 2
      | .charset => 3) ∧
    ((∀ y, st ≠ .test y) → ∀ k, 2 ≤ k → x.getLsbD k = false) ∧
    ∀ k, k = 2 ∨ k = 3 ∨ k = 6 ∨ 8 ≤ k → x.getLsbD k = false := by
  have high {n k m : Nat} (small : n < 2 ^ m) (le : m ≤ k) : (word n).getLsbD k = false := by
    rw [getLsbD_word, Nat.div_eq_of_lt (small.trans_le (Nat.pow_le_pow_right (by decide) le))]
    simp
  dsimp only
  cases st with
  | off => exact ⟨rfl, nofun, fun _ k le => high (m := 2) (by decide) le, fun k h => high (m := 2) (by decide) (by omega)⟩
  | settling t =>
    have small : linkStateWord (.settling t) < 2 ^ 2 := Nat.lt_of_sub_eq_succ rfl
    exact ⟨rfl, nofun, fun _ k le => high small le, fun k h => high small (by omega)⟩
  | running => exact ⟨rfl, nofun, fun _ k le => high (m := 2) (by decide) le, fun k h => high (m := 2) (by decide) (by omega)⟩
  | test y =>
    refine ⟨?_, fun z same => ?_, fun other => absurd rfl (other y), fun k h => ?_⟩
    · cases y <;> decide
    · cases same
      cases y <;> decide
    · obtain rfl | rfl | rfl | le := h
      · cases y <;> decide
      · cases y <;> decide
      · cases y <;> decide
      · exact high (m := 8) (by cases y <;> decide) le

/-- Settles O39: the requests on a link, by the checks of a link request. -/
theorem linkRequests : Obligations.LinkRequests := by
  refine ⟨lampPattern_ofCode_iff, fun s p w ops => ⟨moduleRestart_row, lampTestStart_row, lampTestStop_row,
    fun received bad => ?_, fun received words link => ?_⟩⟩
  · refine Request.exec_checked_refused received rfl (firstRefusal_fail ?_)
    rw [Bool.or_eq_true, decide_eq_true_iff, decide_eq_true_iff]
    omega
  · refine ⟨linkWords (s.display.link (operand ops 0)), Request.exec_checked_done received rfl ?_ rfl, rfl, ?_⟩
    · refine firstRefusal_pass ?_
      rw [Bool.or_eq_false_iff, decide_eq_false_iff_not, decide_eq_false_iff_not]
      omega
    · obtain ⟨state, test, other, unnamed⟩ := word_linkState (s.display.link (operand ops 0)).state
      refine ⟨state, test, other, unnamed, fun k j hk hj => ?_⟩
      rw [getD_linkWords _ hk]
      exact word_nibbles _ k hj

end Sys2Proof.Machine
end

section
/-! The requests on a ribbon: RIBBON RESTART, RIBBON RATE, READ RIBBON (R130, R131, R133). -/

namespace Sys2Proof.Machine

section Requests

variable {s : State} {p : PortId} {w : Word} {ops : List Word}

theorem Ribbon.pendingBlock_eq_some {v : Ribbon} {b : Text} : v.pendingBlock = some b ↔ v.state = .fault b := by
  unfold Ribbon.pendingBlock
  cases v.state <;> simp

theorem Ribbon.pendingBlock_isNone {v : Ribbon} : v.pendingBlock.isNone = true ↔ ∀ b, v.state ≠ .fault b := by
  rw [Option.isNone_iff_eq_none, Option.eq_none_iff_forall_ne_some]
  simp only [ne_eq, Ribbon.pendingBlock_eq_some]

/-- The form of a request that names a ribbon alone. -/
theorem badRibbon_iff : (decide (ops.length ≠ 1) || decide (1 < operand ops 0)) = false ↔
    ops.length = 1 ∧ operand ops 0 ≤ 1 := by
  simp only [Bool.or_eq_false_iff, decide_eq_false_iff_not, ne_eq, not_not, not_lt]

/-- R130. -/
theorem ribbonRestart_row (received : s.receives p w .ribbonRestart ops) :
    let r := operand ops 0
    let v := s.ribbon r
    let refuses (a : Answer) : Prop := exec (.ribbonRestart p w .now) s = .next (s.answered p a [])
    let formed : Prop := ops.length = 1 ∧ r ≤ 1
    (¬ formed → refuses .malformed) ∧
    (formed → s.mode = .config → refuses .notLive) ∧
    (formed → s.mode = .live → (∀ b, v.state ≠ .fault b) → refuses .outOfRange) ∧
    ∀ b, formed → s.mode = .live → v.state = .fault b →
      exec (.ribbonRestart p w .now) s = .next ((s.setRibbon r
        (if s.gate r then { v with state := .sending ⟨b, none, false, false⟩ }
        else { v with state := .waiting, outgoing := b :: v.outgoing })).answered p .done []) := by
  intro r v refuses formed
  have refused {a : Answer} (h : ribbonRestartCheck ops s = some a) : refuses a :=
    Request.exec_checked_refused received rfl h
  refine ⟨fun bad => refused ?_, fun good config => refused ?_, fun good live other => refused ?_, fun b good live fault => ?_⟩
  · exact firstRefusal_fail (eq_true_of_ne_false (mt badRibbon_iff.mp bad))
  · rw [ribbonRestartCheck, firstRefusal_pass (badRibbon_iff.mpr good), firstRefusal_fail (decide_eq_true config)]
  · rw [ribbonRestartCheck, firstRefusal_pass (badRibbon_iff.mpr good), firstRefusal_pass (not_config live),
      firstRefusal_fail (Ribbon.pendingBlock_isNone.mpr other)]
  · have pending : (s.ribbon (operand ops 0)).pendingBlock = some b := Ribbon.pendingBlock_eq_some.mpr fault
    refine Request.exec_checked_done received rfl ?_ ?_
    · rw [ribbonRestartCheck, firstRefusal_pass (badRibbon_iff.mpr good), firstRefusal_pass (not_config live),
        firstRefusal_pass (by rw [pending]; rfl), firstRefusal_nil]
    · dsimp only
      rw [pending]
      rfl

theorem badRate_iff : (decide (ops.length ≠ 2) || decide (1 < operand ops 0) || !isCharacterPeriod (operand ops 1)) = false ↔
    ops.length = 2 ∧ operand ops 0 ≤ 1 ∧ operand ops 1 ∈ [50, 60, 75, 80, 100, 120] := by
  simp only [Bool.or_eq_false_iff, decide_eq_false_iff_not, ne_eq, not_not, not_lt, Bool.not_eq_false', isCharacterPeriod,
    List.contains_iff_mem, and_assoc]

/-- R131. -/
theorem ribbonRate_row (received : s.receives p w .ribbonRate ops) :
    let r := operand ops 0
    let v := s.ribbon r
    let refuses (a : Answer) : Prop := exec (.ribbonRate p w .now) s = .next (s.answered p a [])
    let formed : Prop := ops.length = 2 ∧ r ≤ 1 ∧ operand ops 1 ∈ [50, 60, 75, 80, 100, 120]
    (¬ formed → refuses .malformed) ∧
    (formed → s.mode = .config → refuses .notLive) ∧
    (formed → s.mode = .live → v.state = .off → refuses .outOfRange) ∧
    (formed → s.mode = .live → v.state ≠ .off →
      exec (.ribbonRate p w .now) s = .next ((s.setRibbon r { v with period := operand ops 1 }).answered p .done [])) := by
  intro r v refuses formed
  have refused {a : Answer} (h : ribbonRateCheck ops s = some a) : refuses a :=
    Request.exec_checked_refused received rfl h
  refine ⟨fun bad => refused ?_, fun good config => refused ?_, fun good live off => refused ?_, fun good live on => ?_⟩
  · exact firstRefusal_fail (eq_true_of_ne_false (mt badRate_iff.mp bad))
  · rw [ribbonRateCheck, firstRefusal_pass (badRate_iff.mpr good), firstRefusal_fail (decide_eq_true config)]
  · rw [ribbonRateCheck, firstRefusal_pass (badRate_iff.mpr good), firstRefusal_pass (not_config live)]
    exact firstRefusal_fail (decide_eq_true off)
  · refine Request.exec_checked_done received rfl ?_ rfl
    rw [ribbonRateCheck, firstRefusal_pass (badRate_iff.mpr good), firstRefusal_pass (not_config live),
      firstRefusal_pass (Ribbon.isOff_eq_false.mpr on), firstRefusal_nil]

end Requests

/-! ### READ RIBBON -/

theorem RibbonState.code_lt (x : RibbonState) : x.code < 8 := by
  cases x <;> exact Nat.lt_of_sub_eq_succ rfl

theorem LateMode.code_lt (x : LateMode) : x.code < 4 := by
  cases x <;> decide

/-- The first word of the READ RIBBON reply (R174). -/
theorem ribbonWord (joined owed : Bool) {st late : Nat} (hs : st < 8) (hl : late < 4) :
    let x := word (st + bit 16 joined + 64 * late + bit 256 owed)
    (x.extractLsb' 0 4).toNat = st ∧ x.getLsbD 4 = joined ∧ (x.extractLsb' 6 2).toNat = late ∧ x.getLsbD 8 = owed ∧
    ∀ k, k = 3 ∨ k = 5 ∨ 9 ≤ k → x.getLsbD k = false := by
  have hj := joined.toNat_lt
  have ho := owed.toNat_lt
  have flag (b : Bool) : b = decide (b.toNat = 1) := by cases b <;> rfl
  rw [bit_eq, bit_eq]
  refine ⟨?_, ?_, ?_, ?_, fun k unnamed => ?_⟩
  · rw [extractLsb'_word]
    omega
  · conv_rhs => rw [flag joined]
    rw [getLsbD_word, decide_eq_true (by decide : 4 < 16), Bool.true_and, decide_eq_decide]
    omega
  · rw [extractLsb'_word]
    omega
  · conv_rhs => rw [flag owed]
    rw [getLsbD_word, decide_eq_true (by decide : 8 < 16), Bool.true_and, decide_eq_decide]
    omega
  · rw [getLsbD_word, Bool.and_eq_false_iff, decide_eq_false_iff_not, decide_eq_false_iff_not]
    right
    obtain rfl | rfl | le := unnamed
    · omega
    · omega
    · rw [Nat.div_eq_of_lt (lt_of_lt_of_le (by omega : _ < 2 ^ 9) (Nat.pow_le_pow_right (by decide) le))]
      decide

theorem operand_word {n : Nat} (ws : List Word) (small : n < 65536) : operand (word n :: ws) 0 = n :=
  (BitVec.toNat_ofNat n 16).trans (Nat.mod_eq_of_lt small)

/-- A device time in two words, high word first (R174). -/
theorem operandPair_time (t : Time) (ws : List Word) :
    operandPair (t.extractLsb' 16 16 :: t.extractLsb' 0 16 :: ws) 0 = t.toNat := by
  have := t.isLt
  change 65536 * (t.extractLsb' 16 16).toNat + (t.extractLsb' 0 16).toNat = t.toNat
  rw [BitVec.extractLsb'_toNat, BitVec.extractLsb'_toNat, Nat.shiftRight_eq_div_pow, Nat.shiftRight_zero]
  omega

/-- Settles O44: the requests on a ribbon. -/
theorem ribbonRequests : Obligations.RibbonRequests := by
  refine fun s p w ops => ⟨ribbonRestart_row, ribbonRate_row, fun received bad => ?_,
    fun received words ribbon queue period => ?_⟩
  · exact Request.exec_checked_refused received rfl (firstRefusal_fail (eq_true_of_ne_false (mt badRibbon_iff.mp bad)))
  · refine ⟨ribbonWords s.items.joined (s.ribbon (operand ops 0)), Request.exec_checked_done received rfl
      (firstRefusal_pass (badRibbon_iff.mpr ⟨words, ribbon⟩)) rfl, rfl, ?_⟩
    obtain ⟨state, joined, late, owed, unnamed⟩ := ribbonWord s.items.joined (s.ribbon (operand ops 0)).lateOwed
      (s.ribbon (operand ops 0)).state.code_lt (s.ribbon (operand ops 0)).lateMode.code_lt
    exact ⟨state, joined, late, owed, unnamed, operand_word [] queue, operand_word [] period, operandPair_time _ []⟩

end Sys2Proof.Machine
end

section
/-! The block of a PRINT entry and its departed copies (R116, R123 to R125). -/

namespace Sys2Proof.Machine

section Block

variable {s : State}

theorem shortens_iff {mode : LateMode} {reference : Option Nat} {price : Nat} :
    shortens mode reference price = true ↔
      mode ≠ .normal ∧ ∃ x, reference = some x ∧ price / 256 / 10 = x / 10 := by
  unfold shortens
  cases reference <;> simp

theorem State.showsSize_iff {mode : LateMode} {v : Instrument} {size : Nat} : s.showsSize mode v size = true ↔
    mode ≠ .digitsVolumeDeleted ∨ v.blockThreshold.getD s.items.blockThreshold ≤ size := by
  rw [State.showsSize, Bool.or_eq_true, decide_eq_true_iff, decide_eq_true_iff]
  rfl

theorem State.faceOf_of_print {i n : Nat} {p : Print} (h : (s.instr i).print n = some p) :
    s.faceOf i n none = p.face := by
  rw [State.faceOf, h]

/-- R123: the size text of a block with the space before it. -/
theorem spacedSize_eq {shows : Bool} {size : Nat} : (if shows then spaced (sizeText size) else []) =
    if size ≠ 100 ∧ shows = true then ascii " " ++ sizeText size else [] := by
  rw [spaced_sizeText]
  by_cases hundred : size = 100
  · simp [hundred]
  · cases shows with
    | false => simp
    | true => exact (if_neg hundred).trans (if_pos (And.intro hundred rfl)).symm

theorem State.entryQuote_of_short {r i n : Nat} {mode : LateMode} {stamp : Time} {copy : Option PrintFace}
    (h : shortens mode ((s.instr i).digitRef r) (s.faceOf i n copy).price = true) :
    s.entryQuote r mode (.print i n stamp copy) = s.quote := if_pos h

theorem State.entryQuote_of_full {r i n : Nat} {mode : LateMode} {stamp : Time} {copy : Option PrintFace}
    (h : ¬ shortens mode ((s.instr i).digitRef r) (s.faceOf i n copy).price = true) :
    s.entryQuote r mode (.print i n stamp copy) =
      (s.setInstr i ((s.instr i).setDigitRef r (some ((s.faceOf i n copy).price / 256)))).quote := if_neg h

end Block

/-! ### Departed copies -/

theorem TapeEntry.depart_same (d : Departure) (stamp : Time) (copy : Option PrintFace) :
    TapeEntry.depart d (.print d.index d.number stamp copy) = .print d.index d.number stamp (some d.face) := by
  rw [TapeEntry.depart, if_pos ⟨rfl, rfl⟩]

theorem TapeEntry.depart_other {d : Departure} {e : TapeEntry}
    (h : ∀ stamp copy, e ≠ .print d.index d.number stamp copy) : TapeEntry.depart d e = e := by
  cases e with
  | notice => rfl
  | print i n stamp copy =>
    rw [TapeEntry.depart, if_neg]
    rintro ⟨rfl, rfl⟩
    exact h stamp copy rfl

/-- R116: what a departed copy does to a tape queue. -/
theorem departed_queue (d : Departure) (q : List TapeEntry) : let t := q.map (TapeEntry.depart d)
    t.length = q.length ∧ ∀ (k : Nat) (e : TapeEntry), q[k]? = some e →
      (∀ stamp copy, e = .print d.index d.number stamp copy → t[k]? = some (.print d.index d.number stamp (some d.face))) ∧
      ((∀ stamp copy, e ≠ .print d.index d.number stamp copy) → t[k]? = some e) := by
  refine ⟨List.length_map _, fun k e here => ⟨fun stamp copy same => ?_, fun other => ?_⟩⟩
  · rw [List.getElem?_map, here, same, Option.map_some, TapeEntry.depart_same]
  · rw [List.getElem?_map, here, Option.map_some, TapeEntry.depart_other other]

/-- Settles O43: a PRINT entry's block by the branches of its rendering, and the departed copies entry by entry. -/
theorem printsOnTheTape : Obligations.PrintsOnTheTape := by
  refine ⟨fun s r i n mode stamp copy hr => ?_, fun s => ⟨fun none => ?_, fun d rest departs => ?_⟩⟩
  · intro v f w reference short sized
    have isShort : shortens mode (v.digitRef r) f.price = true ↔ short := shortens_iff
    refine ⟨fun c departed => ?_, fun p listed found => ?_, ⟨if sized then ascii " " ++ sizeText f.size else [],
      if short then shortPrice f.price else priceText f.price, ?_, fun h => if_pos h, fun h => if_neg h,
      fun h => if_neg h, fun h => if_pos h⟩, fun whole => ?_, fun h => State.entryQuote_of_short (isShort.mpr h),
      fun h => ?_, fun text index => ⟨rfl, rfl⟩⟩
    · subst departed
      rfl
    · subst listed
      exact State.faceOf_of_print found
    · have size : (if s.showsSize mode v f.size then spaced (sizeText f.size) else []) =
          if sized then ascii " " ++ sizeText f.size else [] := by
        rw [spacedSize_eq]
        simp only [State.showsSize_iff]
        rfl
      have price : (if shortens mode (v.digitRef r) f.price then shortPrice f.price else priceText f.price) =
          if short then shortPrice f.price else priceText f.price := by
        simp only [isShort]
      rw [← size, ← price]
      rfl
    · exact if_neg fun h => whole h.1
    · rw [State.entryQuote_of_full (mt isShort.mp h)]
      rfl
  · change execDepartedCopyHandoff s = _
    rw [execDepartedCopyHandoff, none]
  · have taken : exec .departedCopyHandoff s = .next { s with
        transit := { s.transit with departures := rest }
        tape :=
          { s.tape with
            ribbon0 := { s.tape.ribbon0 with queue := s.tape.ribbon0.queue.map (TapeEntry.depart d) }
            ribbon1 := { s.tape.ribbon1 with queue := s.tape.ribbon1.queue.map (TapeEntry.depart d) } } } := by
      change execDepartedCopyHandoff s = _
      rw [execDepartedCopyHandoff, departs]
    refine ⟨_, taken, rfl, fun r hr => ?_⟩
    obtain rfl | rfl := Nat.le_one_iff_eq_zero_or_eq_one.mp hr
    · exact departed_queue d _
    · exact departed_queue d _

end Sys2Proof.Machine
end

section
/-! The events of the ribbons, their gates and their links (R117, R118, R122, R127 to R129, R132). -/

namespace Sys2Proof.Machine

/-! ### Frames and gates -/

theorem Ribbon.frameOut_of_sending {v : Ribbon} {b : Block} (h : v.state = .sending b) :
    v.frameOut = if b.deadline = none then blockFrame b.text else [] := by
  rw [Ribbon.frameOut, h]

theorem Ribbon.frameOut_of_not_sending {v : Ribbon} (h : ∀ b, v.state ≠ .sending b) : v.frameOut = [] := by
  unfold Ribbon.frameOut
  cases state : v.state with
  | sending b => exact absurd state (h b)
  | off => rfl
  | idle => rfl
  | pacing => rfl
  | waiting => rfl
  | fault t => rfl

theorem isRibbonAck_iff {ack check : Byte} : isRibbonAck ack check = true ↔ ack = 0x06 ∧ check = 0x06 := by
  rw [isRibbonAck, decide_eq_true_iff, checkByte_singleton]
  constructor <;> rintro ⟨rfl, rfl⟩ <;> exact ⟨rfl, rfl⟩

/-! ### A block in flight -/

section Flight

variable {s : State} {b : Block}

theorem Ribbon.inFlight_eq_some {v : Ribbon} : v.inFlight = some b ↔ v.state = .sending b := by
  unfold Ribbon.inFlight
  cases v.state <;> simp

theorem Ribbon.inFlight_eq_none {v : Ribbon} : v.inFlight = none ↔ ∀ b, v.state ≠ .sending b := by
  rw [Option.eq_none_iff_forall_ne_some]
  simp only [ne_eq, Ribbon.inFlight_eq_some]

theorem exec_blockFrameSent {r : Fin 2} (h : (s.ribbon r).state = .sending b) : exec (.blockFrameSent r) s = .next
    (if b.deadline.isSome then s else s.setRibbon r { s.ribbon r with
      state := .sending { b with deadline := some (later s.now (s.ribbon r).ackTimeout) } }) := by
  change execBlockFrameSent r s = _
  simp only [execBlockFrameSent, Ribbon.inFlight_eq_some.mpr h]

theorem exec_ribbonAckTimeout {r : Fin 2} {t : Time} (h : (s.ribbon r).state = .sending b) (deadline : b.deadline = some t) :
    exec (.ribbonAckTimeout r) s = .next (if reached t s.now then
      (s.setRibbon r { s.ribbon r with state := .fault b.text }).record .supervisor .ribbonFault else s) := by
  change execRibbonAckTimeout r s = _
  simp only [execRibbonAckTimeout, Ribbon.inFlight_eq_some.mpr h, deadline]

theorem exec_ribbonAckTimeout_going {r : Fin 2} (h : (s.ribbon r).state = .sending b) (going : b.deadline = none) :
    exec (.ribbonAckTimeout r) s = .next s := by
  change execRibbonAckTimeout r s = _
  simp only [execRibbonAckTimeout, Ribbon.inFlight_eq_some.mpr h, going]

/-- R127: what an acknowledgement frame does to a block whose deadline is set. -/
theorem exec_ribbonAcknowledgement {u : Fin 2} {t : Time} (ack check : Byte)
    (h : (s.ribbon (s.servedBy u)).state = .sending b) (deadline : b.deadline = some t) :
    exec (.ribbonAcknowledgement u ack check) s = .next (if isRibbonAck ack check && !reached t s.now then
      s.setRibbon (s.servedBy u) ((s.ribbon (s.servedBy u)).acknowledged s.items.joined (s.servedBy u) u b) else s) := by
  change execRibbonAcknowledgement u ack check s = _
  simp only [execRibbonAcknowledgement, Ribbon.inFlight_eq_some.mpr h, deadline]

/-- An acknowledgement that comes with nothing to acknowledge, late, or wrong is ignored (R127). -/
theorem exec_ribbonAcknowledgement_ignored {u : Fin 2} {ack check : Byte} (h : (ack ≠ 0x06 ∨ check ≠ 0x06) ∨
    ∀ b, (s.ribbon (s.servedBy u)).state = .sending b → ∀ t, b.deadline = some t → reached t s.now = true) :
    exec (.ribbonAcknowledgement u ack check) s = .next s := by
  cases flight : (s.ribbon (s.servedBy u)).inFlight with
  | none =>
    change execRibbonAcknowledgement u ack check s = _
    simp only [execRibbonAcknowledgement, flight]
  | some b =>
    have sends := Ribbon.inFlight_eq_some.mp flight
    cases deadline : b.deadline with
    | none =>
      change execRibbonAcknowledgement u ack check s = _
      simp only [execRibbonAcknowledgement, flight, deadline]
    | some t =>
      rw [exec_ribbonAcknowledgement ack check sends deadline, if_neg]
      rw [Bool.and_eq_true, isRibbonAck_iff, Bool.not_eq_true']
      rintro ⟨⟨rfl, rfl⟩, early⟩
      obtain (wrong | wrong) | late := h
      · exact wrong rfl
      · exact wrong rfl
      · rw [late b sends t deadline] at early
        cases early

/-- The unit's flag and the flag of the other unit in the frame's acknowledgements. -/
theorem Block.complete_acknowledge (joined : Bool) (u : Fin 2) (b : Block) :
    (b.acknowledge u).complete joined (if joined then 0 else u) = true ↔
      joined = false ∨ (if u = 0 then b.acked1 else b.acked0) = true := by
  fin_cases u <;> cases joined <;> simp [Block.complete, Block.acknowledge]

theorem Block.acknowledge_unit (u : Fin 2) (b : Block) :
    b.acknowledge u = if u = 0 then { b with acked0 := true } else { b with acked1 := true } := by
  fin_cases u <;> rfl

theorem Ribbon.acknowledged_last {v : Ribbon} {joined : Bool} {r u : Nat} (h : (b.acknowledge u).complete joined r = true) :
    v.acknowledged joined r u b = { v with state := .pacing, pacing := (b.text.length + 2) * v.period } := if_pos h

theorem Ribbon.acknowledged_first {v : Ribbon} {joined : Bool} {r u : Nat} (h : ¬ (b.acknowledge u).complete joined r = true) :
    v.acknowledged joined r u b = { v with state := .sending (b.acknowledge u) } := if_neg h

end Flight

/-! ### The READY inputs -/

theorem Tape.setReady_unit (u : Fin 2) (level : Bool) (t : Tape) :
    t.setReady u level = if u = 0 then { t with ready0 := level } else { t with ready1 := level } := by
  fin_cases u <;> rfl

/-- R118: a gate that rises frees a WAITING ribbon. -/
theorem exec_readyRise (s : State) (u : Fin 2) :
    let r := s.servedBy u
    let up : State := { s with tape := if u = 0 then { s.tape with ready0 := true } else { s.tape with ready1 := true } }
    exec (.readyRise u) s =
      .next (if s.gate r = false ∧ up.gate r = true ∧ (s.ribbon r).state = .waiting then up.freed r else up) := by
  intro r up
  have raised : { s with tape := s.tape.setReady u true } = up := by rw [Tape.setReady_unit]
  change execReadyRise u s = _
  simp only [execReadyRise, raised, Bool.and_eq_true, Bool.not_eq_true', decide_eq_true_iff, and_assoc]
  rfl

/-- Settles O45: the events of the ribbons by the state that each finds. -/
theorem ribbonEvents : Obligations.RibbonEvents := by
  refine ⟨fun s u => ⟨fun joined => ?_, fun apart => ?_⟩, fun s => ⟨fun joined => ?_, fun apart => ?_, ?_⟩,
    fun v => ⟨fun b h => ⟨fun going => ?_, fun gone => ?_⟩, Ribbon.frameOut_of_not_sending⟩, fun s => ?_⟩
  · rw [State.ribbonLinkOut, State.servedBy, joined]
    rfl
  · rw [State.ribbonLinkOut, State.servedBy, apart]
    rfl
  · simp [State.gate, joined]
  · simp [State.gate, apart]
  · simp [State.gate]
  · rw [Ribbon.frameOut_of_sending h, if_pos going, blockFrame, closeFrame_eq]
  · rw [Ribbon.frameOut_of_sending h, if_neg gone]
  refine ⟨fun r b sends => ⟨fun going => ?_, fun gone => ?_, fun t deadline late => ?_, fun early => ?_⟩, fun r free => ⟨?_, ?_⟩,
    fun u b t sends deadline early => ⟨fun last => ?_, fun joined other => ?_⟩, fun u ack check h => ?_,
    fun r paces ended => congrArg Host.Outcome.next (if_pos ⟨paces, ended⟩), fun r h => ?_, fun u => ⟨fun low high waits => ?_, fun h => ?_, ?_⟩,
    fun r t expiry => ⟨fun late => ?_, fun early => ?_⟩, fun r none => ?_, fun r hr => ⟨fun b bs => State.freed_of_outgoing,
    fun e rest => State.freed_of_queue, State.freed_of_nothing⟩⟩
  · rw [exec_blockFrameSent sends, going]
    rfl
  · rw [exec_blockFrameSent sends, if_pos (Option.isSome_iff_ne_none.mpr gone)]
  · rw [exec_ribbonAckTimeout sends deadline, if_pos late]
  · cases deadline : b.deadline with
    | none => exact exec_ribbonAckTimeout_going sends deadline
    | some t =>
      rw [exec_ribbonAckTimeout sends deadline, early t deadline]
      rfl
  · change execBlockFrameSent r s = _
    simp only [execBlockFrameSent, Ribbon.inFlight_eq_none.mpr free]
  · change execRibbonAckTimeout r s = _
    simp only [execRibbonAckTimeout, Ribbon.inFlight_eq_none.mpr free]
  · have complete := (Block.complete_acknowledge s.items.joined u b).mpr last
    rw [exec_ribbonAcknowledgement 0x06 0x06 sends deadline, early]
    exact congrArg (fun v => Host.Outcome.next (s.setRibbon _ v)) (Ribbon.acknowledged_last complete)
  · have waits : ¬ (b.acknowledge u).complete s.items.joined (s.servedBy u) = true := by
      refine mt (Block.complete_acknowledge s.items.joined u b).mp ?_
      rintro (apart | last)
      · rw [joined] at apart
        cases apart
      · rw [other] at last
        cases last
    rw [exec_ribbonAcknowledgement 0x06 0x06 sends deadline, early, ← Block.acknowledge_unit]
    exact congrArg (fun v => Host.Outcome.next (s.setRibbon _ v)) (Ribbon.acknowledged_first waits)
  · exact exec_ribbonAcknowledgement_ignored h
  · exact congrArg Host.Outcome.next (if_neg fun both => h.elim (fun other => other both.1) fun other => other both.2)
  · exact (exec_readyRise s u).trans (congrArg Host.Outcome.next (if_pos ⟨low, high, waits⟩))
  · refine (exec_readyRise s u).trans (congrArg Host.Outcome.next (if_neg ?_))
    rintro ⟨low, high, waits⟩
    obtain was | stays | other := h
    · exact Bool.false_ne_true (low.symm.trans was)
    · exact Bool.false_ne_true (Eq.trans (Eq.symm stays) high)
    · exact other waits
  · exact congrArg (fun t => Host.Outcome.next { s with tape := t }) (Tape.setReady_unit u false s.tape)
  · change execLateNoticeExpiry r s = _
    simp only [execLateNoticeExpiry, expiry, if_pos late]
    rfl
  · change execLateNoticeExpiry r s = _
    simp only [execLateNoticeExpiry, expiry, early]
    rfl
  · change execLateNoticeExpiry r s = _
    simp only [execLateNoticeExpiry, none]

end Sys2Proof.Machine
end

section
/-! The stores of the page engine (R136 to R138) and the notice unit (R153 to R157). -/

namespace Sys2Proof.Machine

/-! ### Requests taken in LIVE alone -/

section LiveOnly

variable {check : List Word → State → Option Answer} {act body : Engine} {ops ws : List Word} {s t : State} {a : Answer}
  {r : Request} {p : PortId} {w : Word}

theorem liveOnly_of_config (config : s.mode = .config) : liveOnly body ops s = refuse .notLive s := if_pos config

theorem liveOnly_of_live (live : s.mode = .live) : liveOnly body ops s = body ops s :=
  if_neg (by rw [live]; nofun)

theorem Request.exec_notLive (received : s.receives p w r ops) (e : engineOf p r = liveOnly body)
    (config : s.mode = .config) : exec (r.row p w .now) s = .next (s.answered p .notLive []) :=
  Request.exec_refused received (e ▸ liveOnly_of_config config)

theorem Request.exec_live (received : s.receives p w r ops) (e : engineOf p r = liveOnly body) (live : s.mode = .live)
    (h : body ops s = refuse a s) : exec (r.row p w .now) s = .next (s.answered p a []) :=
  Request.exec_refused received (e ▸ (liveOnly_of_live live).trans h)

theorem Request.exec_live_done (received : s.receives p w r ops) (e : engineOf p r = liveOnly body) (live : s.mode = .live)
    (h : body ops s = doneWith ws t) : exec (r.row p w .now) s = .next (t.answered p .done ws) :=
  Request.exec_done received (e ▸ (liveOnly_of_live live).trans h)

theorem badTerminal_iff : badTerminal ops = false ↔ operand ops 0 ≤ 63 := by
  rw [badTerminal, decide_eq_false_iff_not, not_le]
  exact Nat.lt_succ_iff

end LiveOnly

/-! ### The stores -/

theorem State.line_setLine_self (s : State) (n : Nat) (c : Option LineContent) : (s.setLine n c).line n = c :=
  Table.get_put_self _ _ _ _

theorem State.line_setLine_ne (s : State) {n m : Nat} (c : Option LineContent) (h : m ≠ n) :
    (s.setLine n c).line m = s.line m := Table.get_put_ne _ _ _ h

theorem lineFormat_ofCode_iff (n : Nat) (f : LineFormat) :
    LineFormat.ofCode n = some f ↔ (n, f) ∈ [(0, LineFormat.full), (1, .quote), (2, .range)] := by
  unfold LineFormat.ofCode
  split <;> simp_all [eq_comm]

/-- R172: the line contents that three operands give. -/
theorem contentOperand_iff (ops : List Word) (i : Nat) (c : Option LineContent) : contentOperand ops i = some c ↔
    operand ops i = 0 ∧ c = none ∨
    operand ops i = 1 ∧ operand ops (i + 1) ≤ 2047 ∧ ∃ f, c = some ⟨operand ops (i + 1), f⟩ ∧
      (operand ops (i + 2), f) ∈ [(0, LineFormat.full), (1, .quote), (2, .range)] := by
  simp only [← lineFormat_ofCode_iff]
  unfold contentOperand
  have bound : operand ops (i + 1) < Config.instrumentCount ↔ operand ops (i + 1) ≤ 2047 := Nat.lt_succ_iff
  split
  next blank => simp [blank, eq_comm]
  next shown =>
    rw [shown]
    cases LineFormat.ofCode (operand ops (i + 2)) with
    | none => simp
    | some f => simp [bound, eq_comm]
  next other shown => exact iff_of_false nofun fun h => h.elim (fun h => other h.1) fun h => shown h.1

theorem contentOperand_isNone (ops : List Word) (i : Nat) : (contentOperand ops i).isNone = true ↔
    ¬ (operand ops i = 0 ∨ operand ops i = 1 ∧ operand ops (i + 1) ≤ 2047 ∧ operand ops (i + 2) ≤ 2) := by
  rw [Option.isNone_iff_eq_none, Option.eq_none_iff_forall_ne_some, ← not_exists, not_iff_not]
  simp only [contentOperand_iff]
  constructor
  · rintro ⟨c, ⟨blank, -⟩ | ⟨shown, index, f, -, code⟩⟩
    · exact .inl blank
    · refine .inr ⟨shown, index, ?_⟩
      simp at code
      omega
  · rintro (blank | ⟨shown, index, code⟩)
    · exact ⟨none, .inl ⟨blank, rfl⟩⟩
    · have listed : ∃ f, (operand ops (i + 2), f) ∈ [(0, LineFormat.full), (1, .quote), (2, .range)] := by
        interval_cases operand ops (i + 2)
        · exact ⟨.full, by simp⟩
        · exact ⟨.quote, by simp⟩
        · exact ⟨.range, by simp⟩
      obtain ⟨f, code⟩ := listed
      exact ⟨_, .inr ⟨shown, index, f, rfl, code⟩⟩

section Stores

variable {s : State} {p : PortId} {w : Word} {ops : List Word}

/-- R137 check 1: the operands that WRITE DESCRIPTOR takes. -/
theorem badDescriptor_iff : badDescriptor ops = false ↔ operand ops 0 ≤ 1023 ∧ operand ops 1 ≤ 2 ∧ operand ops 2 ≤ 1 ∧
    (operand ops 1 ≠ 0 → operand ops 3 ≤ 2 ∧ 1 ≤ operand ops 5 ∧ operand ops 5 ≤ 16) ∧
    (operand ops 1 = 1 → operand ops 4 ≤ 4095) ∧ (operand ops 1 = 2 → operand ops 4 ≤ 1023) := by
  have slots : Config.slotCount = 1024 := rfl
  have lines : Config.lineCount = 4096 := rfl
  unfold badDescriptor
  match code : operand ops 1 with
  | 0 =>
    simp only [DescriptorKind.ofCode, Bool.or_eq_false_iff, decide_eq_false_iff_not, flagOperand_isNone, slots]
    omega
  | 1 =>
    simp only [DescriptorKind.ofCode, Bool.or_eq_false_iff, decide_eq_false_iff_not, flagOperand_isNone, slots, lines,
      eq_self, true_imp_iff]
    omega
  | 2 =>
    simp only [DescriptorKind.ofCode, Bool.or_eq_false_iff, decide_eq_false_iff_not, flagOperand_isNone, slots,
      eq_self, true_imp_iff]
    omega
  | n + 3 => simp [DescriptorKind.ofCode]

theorem writeDescriptorCheck_malformed (bad : ¬ (ops.length = 6 ∧ badDescriptor ops = false)) :
    writeDescriptorCheck ops = some .malformed :=
  firstRefusal_fail (eq_true_of_ne_false fun good => bad
    ⟨not_not.mp (of_decide_eq_false (Bool.or_eq_false_iff.mp good).1), (Bool.or_eq_false_iff.mp good).2⟩)

/-- The checks of WRITE DESCRIPTOR after its operands' ranges (R137). -/
theorem writeDescriptorCheck_of_formed (words : ops.length = 6) (formed : badDescriptor ops = false) :
    writeDescriptorCheck ops = firstRefusal
      [(decide (kindOperand ops = .localTable) && decide (128 ≤ operand ops 0), .wrongKind),
       (descriptorOut (kindOperand ops) (operand ops 4) (operand ops 5), .outOfRange)] :=
  firstRefusal_pass (Bool.or_eq_false_iff.mpr ⟨decide_eq_false (not_not.mpr words), formed⟩)

/-- WRITE DESCRIPTOR writes a descriptor at its slot, and nothing else. -/
theorem exec_writeDescriptor (received : s.receives p w .writeDescriptor ops) (passes : writeDescriptorCheck ops = none) :
    ∃ t : State, exec (.writeDescriptor p w .now) s = .next (t.answered p .done []) ∧
      t = { s with pages := { s.pages with descriptors := t.pages.descriptors } } ∧
      t.descriptor (operand ops 0) = writtenDescriptor ops ∧
      ∀ n, n ≠ operand ops 0 → t.descriptor n = s.descriptor n :=
  ⟨_, Request.exec_checked_done received rfl passes rfl, rfl, Table.get_put_self _ _ _ _,
    fun _ other => Table.get_put_ne _ _ _ other⟩

theorem flagOperand_getD (flag : operand ops 2 ≤ 1) : (flagOperand ops 2).getD false = decide (operand ops 2 = 1) := by
  unfold flagOperand
  interval_cases operand ops 2 <;> rfl

theorem badLine_iff : (decide (ops.length ≠ 4) || decide (Config.lineCount ≤ operand ops 0) ||
      (contentOperand ops 1).isNone) = false ↔ ops.length = 4 ∧ operand ops 0 ≤ 4095 ∧
      (operand ops 1 = 0 ∨ operand ops 1 = 1 ∧ operand ops 2 ≤ 2047 ∧ operand ops 3 ≤ 2) := by
  have lines : ¬ Config.lineCount ≤ operand ops 0 ↔ operand ops 0 ≤ 4095 := by rw [not_le]; exact Nat.lt_succ_iff
  rw [Bool.or_eq_false_iff, Bool.or_eq_false_iff, decide_eq_false_iff_not, decide_eq_false_iff_not, not_not, lines,
    and_assoc, ← Bool.not_eq_true, contentOperand_isNone, not_not]

end Stores

/-- Settles O46: the two writes of the supervisor, by the kind of descriptor written. -/
theorem descriptorAndLineWrites : Obligations.DescriptorAndLineWrites := by
  refine fun s p w ops => ⟨fun received bad => ?_, fun received bad => ?_, fun received words slot flag =>
    ⟨fun invalid => ?_, fun page rank one limit base => ?_, fun table rank one limit base => ?_⟩,
    fun received words line c content => ?_⟩
  · refine Request.exec_checked_refused received rfl (writeDescriptorCheck_malformed fun good => bad ?_)
    exact ⟨good.1, badDescriptor_iff.mp good.2⟩
  · exact Request.exec_checked_refused received rfl (firstRefusal_fail (eq_true_of_ne_false (mt badLine_iff.mp bad)))
  · have kind : kindOperand ops = .invalid := by rw [kindOperand, invalid]; rfl
    have passes : writeDescriptorCheck ops = none := by
      rw [writeDescriptorCheck_of_formed words (badDescriptor_iff.mpr (by omega)), kind]
      rfl
    obtain ⟨t, acts, frame, here, rest⟩ := exec_writeDescriptor received passes
    refine ⟨t, acts, frame, here.trans ?_, rest⟩
    rw [writtenDescriptor, kind] <;> rfl
  · have kind : kindOperand ops = .page := by rw [kindOperand, page]; rfl
    have formed : badDescriptor ops = false := badDescriptor_iff.mpr (by omega)
    have check : writeDescriptorCheck ops = if 4096 < operand ops 4 + operand ops 5 then some .outOfRange else none := by
      rw [writeDescriptorCheck_of_formed words formed, kind, firstRefusal_pass (by rfl), firstRefusal_cons]
      simp only [descriptorOut, decide_eq_true_iff]
      rfl
    refine ⟨fun inside => ?_, fun out => Request.exec_checked_refused received rfl (check.trans (if_pos out))⟩
    obtain ⟨t, acts, frame, here, rest⟩ := exec_writeDescriptor received (check.trans (if_neg (Nat.not_lt.mpr inside)))
    refine ⟨t, acts, frame, here.trans ?_, rest⟩
    rw [writtenDescriptor, kind, ← flagOperand_getD flag]
  · have kind : kindOperand ops = .localTable := by rw [kindOperand, table]; rfl
    have formed : badDescriptor ops = false := badDescriptor_iff.mpr (by omega)
    have out : descriptorOut .localTable (operand ops 4) (operand ops 5) = true ↔
        operand ops 4 < 128 ∨ 1024 < operand ops 4 + operand ops 5 := by
      rw [descriptorOut, Bool.or_eq_true, decide_eq_true_iff, decide_eq_true_iff]
      rfl
    have check : writeDescriptorCheck ops = if 127 < operand ops 0 then some .wrongKind else
        if operand ops 4 < 128 ∨ 1024 < operand ops 4 + operand ops 5 then some .outOfRange else none := by
      rw [writeDescriptorCheck_of_formed words formed, kind, firstRefusal_cons, firstRefusal_cons, firstRefusal_nil]
      simp only [out, decide_true, Bool.true_and, decide_eq_true_iff, Nat.succ_le_iff]
    refine ⟨fun high => Request.exec_checked_refused received rfl (check.trans (if_pos high)), fun low away =>
      Request.exec_checked_refused received rfl ((check.trans (if_neg (Nat.not_lt.mpr low))).trans (if_pos away)),
      fun low above inside => ?_⟩
    obtain ⟨t, acts, frame, here, rest⟩ := exec_writeDescriptor received
      ((check.trans (if_neg (Nat.not_lt.mpr low))).trans (if_neg (by omega)))
    refine ⟨t, acts, frame, here.trans ?_, rest⟩
    rw [writtenDescriptor, kind, ← flagOperand_getD flag]
  · have shows : contentOperand ops 1 = some c := by
      rw [contentOperand_iff]
      obtain ⟨none_, blank⟩ | ⟨shown, index, f, some_, code⟩ := content
      · exact .inl ⟨blank, none_⟩
      · refine .inr ⟨shown, index, f, some_, ?_⟩
        rw [show operand ops (1 + 2) = _ from code]
        cases f <;> simp
    have formed : (decide (ops.length ≠ 4) || decide (Config.lineCount ≤ operand ops 0) ||
        (contentOperand ops 1).isNone) = false := by
      rw [badLine_iff]
      exact ⟨words, line, not_not.mp (mt (contentOperand_isNone ops 1).mpr (by rw [shows]; nofun))⟩
    refine ⟨s.setLine (operand ops 0) c, Request.exec_checked_done received rfl (firstRefusal_pass formed) ?_, rfl,
      s.line_setLine_self _ _, fun n other => s.line_setLine_ne _ other⟩
    rw [shows]
    rfl

end Sys2Proof.Machine
end

section
/-! The notice unit (R153 to R157). -/

namespace Sys2Proof.Machine

section Unit

variable {n : Notices} {t m : Nat}

/-! ### Raises -/

theorem Notices.raise_of_known (h : t ∈ n.queue ∨ t ∈ n.waiting) : n.raise t = n := by
  rw [Notices.raise, if_pos]
  rwa [Bool.or_eq_true, List.contains_iff_mem, List.contains_iff_mem]

theorem Notices.raise_of_new (queue : t ∉ n.queue) (waiting : t ∉ n.waiting) : n.raise t =
    if n.masked t then { n with waiting := setInsert t n.waiting } else { n with queue := n.queue ++ [t] } := by
  rw [Notices.raise, if_neg]
  rw [Bool.or_eq_true, List.contains_iff_mem, List.contains_iff_mem]
  exact fun h => h.elim queue waiting

theorem Notices.masked_iff : n.masked t = true ↔ n.globalMask = true ∨ n.mask t = true := by
  rw [Notices.masked, Bool.or_eq_true]

/-! ### Masks -/

/-- R155: an entry mask set or cleared, all other masks as they are. -/
theorem Notices.setEntry_masks (t : Nat) (value : Bool) (n : Notices) :
    (n.setEntry t value).mask t = value ∧ (∀ m, m ≠ t → (n.setEntry t value).mask m = n.mask m) ∧
    (n.setEntry t value).globalMask = n.globalMask := by
  have put : ∀ k : Notices, k.masks = Table.put false n.masks t value →
      k.mask t = value ∧ ∀ m, m ≠ t → k.mask m = n.mask m := fun k same => by
    unfold Notices.mask
    rw [same]
    exact ⟨Table.get_put_self _ _ _ _, fun m other => Table.get_put_ne _ _ _ other⟩
  unfold Notices.setEntry
  split
  next same => exact ⟨same, fun _ _ => rfl, rfl⟩
  next =>
    dsimp only
    split
    · exact ⟨(put _ rfl).1, (put _ rfl).2, rfl⟩
    · exact ⟨(put _ rfl).1, (put _ rfl).2, rfl⟩

/-- R156: the clearing of an entry mask releases a pending terminal that it leaves unmasked. -/
theorem Notices.setEntry_releases {value : Bool} (clears : value = false) (was : n.mask t = true)
    (global : n.globalMask = false) (pending : t ∈ n.waiting) :
    (n.setEntry t value).queue = n.queue ++ [t] ∧ (n.setEntry t value).waiting = n.waiting.filter (· ≠ t) := by
  subst clears
  have moves : ¬ n.mask t = false := by rw [was]; nofun
  have released : (!false && !n.globalMask && n.waiting.contains t) = true := by
    rw [global, List.contains_iff_mem.mpr pending]
    rfl
  unfold Notices.setEntry
  rw [if_neg moves]
  dsimp only
  rw [if_pos released]
  exact ⟨rfl, setErase_eq _ _⟩

theorem Notices.setEntry_keeps {value : Bool}
    (h : value = true ∨ n.mask t = false ∨ n.globalMask = true ∨ t ∉ n.waiting) :
    (n.setEntry t value).queue = n.queue ∧ (n.setEntry t value).waiting = n.waiting := by
  unfold Notices.setEntry
  split
  next => exact ⟨rfl, rfl⟩
  next moves =>
    have stays : ¬ (!value && !n.globalMask && n.waiting.contains t) = true := by
      rw [Bool.and_eq_true, Bool.and_eq_true, Bool.not_eq_true', Bool.not_eq_true', List.contains_iff_mem]
      rintro ⟨⟨clears, unmasked⟩, pending⟩
      obtain sets | was | global | free := h
      · exact Bool.false_ne_true (clears.symm.trans sets)
      · exact moves (was.trans clears.symm)
      · exact Bool.false_ne_true (unmasked.symm.trans global)
      · exact free pending
    dsimp only
    rw [if_neg stays]
    exact ⟨rfl, rfl⟩

/-- R155, R156: the global mask set or cleared. -/
theorem Notices.setGlobal_leaves (value : Bool) (n : Notices) : let v := n.setGlobal value
    v.globalMask = value ∧ v.masks = n.masks ∧
    (value = true ∨ n.globalMask = false → v.queue = n.queue ∧ v.waiting = n.waiting) ∧
    (value = false → n.globalMask = true → v.queue = n.queue ++ n.waiting.filter (fun m => !n.mask m) ∧
      v.waiting = n.waiting.filter fun m => n.mask m) := by
  intro v
  by_cases same : n.globalMask = value
  · have stays : v = n := if_pos same
    rw [stays]
    exact ⟨same, rfl, fun _ => ⟨rfl, rfl⟩, fun clears set => absurd (set.symm.trans (same.trans clears)) nofun⟩
  · cases value with
    | true =>
      have sets : v = { n with globalMask := true } := if_neg same
      rw [sets]
      exact ⟨rfl, rfl, fun _ => ⟨rfl, rfl⟩, nofun⟩
    | false =>
      have clears : v = { n with
          globalMask := false
          waiting := n.waiting.filter fun t => n.mask t
          queue := n.queue ++ n.waiting.filter fun t => !n.mask t } := if_neg same
      rw [clears]
      exact ⟨rfl, rfl, fun h => h.elim nofun fun was => absurd was same, fun _ _ => ⟨rfl, rfl⟩⟩

end Unit

/-! ### The requests -/

section Requests

variable {s : State} {p : PortId} {w : Word} {ops : List Word}

theorem badMask_iff : badMask ops = false ↔
    ops.length = 3 ∧ operand ops 2 ≤ 1 ∧ (operand ops 0 = 0 ∧ operand ops 1 ≤ 63 ∨ operand ops 0 = 1) := by
  have terminal : (decide (Config.terminalCount ≤ operand ops 1) = false) ↔ operand ops 1 ≤ 63 := by
    rw [decide_eq_false_iff_not, not_le]
    exact Nat.lt_succ_iff
  have flag : decide (1 < operand ops 2) = false ↔ operand ops 2 ≤ 1 := by rw [decide_eq_false_iff_not, not_lt]
  rw [badMask, Bool.or_eq_false_iff, Bool.or_eq_false_iff, decide_eq_false_iff_not, not_not, flagOperand_isNone, flag,
    and_assoc]
  refine and_congr_right fun _ => and_congr_right fun _ => ?_
  cases target : flagOperand ops 0 with
  | none =>
    have := flagOperand_isNone ops 0
    rw [target] at this
    have large := of_decide_eq_true this.symm
    exact iff_of_false nofun (by omega)
  | some b =>
    obtain ⟨entry, rfl⟩ | ⟨global, rfl⟩ := (flagOperand_iff ops 0 b).mp target
    · simp only [terminal]
      omega
    · exact iff_of_true rfl (.inr global)

theorem exec_setNoticeMask (received : s.receives p w .setNoticeMask ops) (live : s.mode = .live)
    (formed : badMask ops = false) : exec (.setNoticeMask p w .now) s =
      .next ({ s with notices := s.notices.setMask ops }.answered p .done
        [BitVec.ofNat 16 (s.notices.setMask ops).queue.length]) :=
  Request.exec_live_done received rfl live ((checked_of_none (firstRefusal_pass formed)).trans rfl)

theorem engineOf_takeNotice (live : s.mode = .live) {x : Result} (takes : s.takeHead = x) : engineOf p .takeNotice [] s = x :=
  (liveOnly_of_live live).trans takes

end Requests

/-- Settles O51: raises, masks and taken notices, by the notice unit's own operations. -/
theorem noticesRaiseMaskAndTake : Obligations.NoticesRaiseMaskAndTake := by
  refine ⟨fun s p w ops r which received => ⟨fun config => ?_, fun live bad => ?_⟩, fun s => ⟨fun none => ?_,
    fun n rest raises => ⟨s.notices.raise n, ?_, Notices.raise_of_known, fun queue waiting global mask => ?_,
      fun queue waiting masked => ?_⟩, fun p w ops received live words flag => ?_,
    fun p w received live => ⟨fun empty => ?_, fun n rest head => ?_⟩⟩⟩
  · obtain rfl | rfl := which
    · exact Request.exec_notLive received rfl config
    · exact Request.exec_notLive received rfl config
  · obtain rfl | rfl := which
    · exact Request.exec_live received rfl live
        (checked_of_some (firstRefusal_fail (eq_true_of_ne_false (mt badMask_iff.mp bad))))
    · exact Request.exec_live received rfl live
        (checked_of_some (firstRefusal_fail (decide_eq_true (mt List.length_eq_zero_iff.mp bad))))
  · change execNoticeRaise s = _
    rw [execNoticeRaise, none]
  · change execNoticeRaise s = _
    rw [execNoticeRaise, raises]
  · rw [Notices.raise_of_new queue waiting, if_neg]
    rw [Notices.masked, global, mask]
    nofun
  · rw [Notices.raise_of_new queue waiting, if_pos (Notices.masked_iff.mpr masked)]
    exact ⟨rfl, fun m => mem_setInsert n m _⟩
  · intro n set target
    have formed : badMask ops = false := badMask_iff.mpr ⟨words, flag, target⟩
    have value : (flagOperand ops 2).getD false = set := flagOperand_getD flag
    refine ⟨s.notices.setMask ops, exec_setNoticeMask received live formed, fun entry => ?_, fun global => ?_⟩
    · have acts : s.notices.setMask ops = s.notices.setEntry n set := by
        rw [Notices.setMask, value, (flagOperand_iff ops 0 false).mpr (.inl ⟨entry, rfl⟩)]
        rfl
      rw [acts]
      obtain ⟨self, others, same⟩ := Notices.setEntry_masks n set s.notices
      exact ⟨self, others, same, Notices.setEntry_keeps, Notices.setEntry_releases⟩
    · have acts : s.notices.setMask ops = s.notices.setGlobal set := by
        rw [Notices.setMask, value, (flagOperand_iff ops 0 true).mpr (.inr ⟨global, rfl⟩)]
        rfl
      rw [acts]
      exact Notices.setGlobal_leaves set s.notices
  · refine Request.exec_refused received (engineOf_takeNotice live ?_)
    rw [State.takeHead, empty]
  · refine Request.exec_done received (engineOf_takeNotice live ?_)
    rw [State.takeHead, head]
    rfl

end Sys2Proof.Machine
end

section
/-! Selectors and WRITE PAGE LINE (R139, R146). -/

namespace Sys2Proof.Machine

section Selectors

variable {s : State} {t : Nat} {x : Selector} {c : LocalTable} {ops : List Word} {k : Nat}

theorem selectorOperand_global (table : operand ops k = 0) (index : operand ops (k + 1) ≤ 127) :
    selectorOperand ops k = some ⟨false, operand ops (k + 1)⟩ := by
  rw [selectorOperand, table]
  exact if_pos (Nat.lt_succ_of_le index)

theorem selectorOperand_local (table : operand ops k = 1) (index : operand ops (k + 1) ≤ 15) :
    selectorOperand ops k = some ⟨true, operand ops (k + 1)⟩ := by
  rw [selectorOperand, table]
  exact if_pos index

theorem selectorOperand_none (h : operand ops k = 0 ∧ 127 < operand ops (k + 1) ∨
    operand ops k = 1 ∧ 15 < operand ops (k + 1) ∨ 1 < operand ops k) : selectorOperand ops k = none := by
  obtain ⟨table, out⟩ | ⟨table, out⟩ | unknown := h
  · rw [selectorOperand, table]
    exact if_neg (Nat.not_lt.mpr out)
  · rw [selectorOperand, table]
    exact if_neg (Nat.not_le.mpr out)
  · unfold selectorOperand
    split
    next table _ => omega
    next table _ => omega
    next => rfl

theorem Selector.slot_of_global {d : Context} (table : x.isLocal = false) : x.slot d = .ok x.index := by
  rw [Selector.slot, table]
  rfl

theorem Selector.slot_of_uncached {d : Context} (table : x.isLocal = true) (uncached : d.localTable = none) :
    x.slot d = .error .noLocalTable := by
  rw [Selector.slot, table, uncached]
  rfl

theorem Selector.slot_of_cached {d : Context} (table : x.isLocal = true) (cached : d.localTable = some c) :
    x.slot d = if c.limit ≤ x.index then .error .outOfRange else .ok (c.base + x.index) := by
  rw [Selector.slot, table, cached]
  rfl

/-- R139 steps 5 and 6. -/
theorem Descriptor.asPage_eq (d : Descriptor) : d.asPage =
    if d.present = false then .error .notPresent else if d.kind ≠ .page then .error .wrongKind else .ok d := by
  unfold Descriptor.asPage
  rw [ite_not]
  simp only [Bool.not_eq_true']

theorem State.resolve_of_refused {a : Answer} (h : x.slot (s.context t) = .error a) : s.resolve t (some x) = .error a := by
  rw [State.resolve, h]

theorem State.resolve_of_slot {slot : Nat} (h : x.slot (s.context t) = .ok slot) :
    s.resolve t (some x) = (s.descriptor slot).asPage := by
  rw [State.resolve, h]

end Selectors

/-! ### WRITE PAGE LINE -/

section WritePageLine

variable {s : State} {p : PortId} {w : Word} {ops : List Word} {x : Selector} {d : Descriptor}

theorem badPageLine_iff : badPageLine ops = false ↔
    ops.length = 7 ∧ operand ops 0 ≤ 63 ∧ operand ops 3 ≤ 15 ∧ (contentOperand ops 4).isSome = true := by
  simp only [badPageLine, Bool.or_eq_false_iff, decide_eq_false_iff_not, ne_eq, not_not, not_lt, badTerminal_iff,
    Option.isNone_eq_false_iff, and_assoc]

theorem cacheRankLow_iff {k : Context} : cacheRankLow k x = true ↔
    x.isLocal = true ∧ ∃ t, k.localTable = some t ∧ t.rank < 2 := by
  rw [cacheRankLow, Bool.and_eq_true, Option.any_eq_true]
  simp only [decide_eq_true_iff]
  rfl

/-- The checks of WRITE PAGE LINE at a page (R146). -/
theorem pageLineCheck_eq {k : Context} : pageLineCheck ops k x d =
    if d.limit ≤ operand ops 3 then some .outOfRange
    else if d.rank < 2 ∨ x.isLocal = true ∧ ∃ t, k.localTable = some t ∧ t.rank < 2 then some .rank else none := by
  rw [pageLineCheck, firstRefusal_cons, firstRefusal_cons, firstRefusal_nil]
  simp only [Bool.or_eq_true, decide_eq_true_iff, cacheRankLow_iff]
  rfl

theorem writePageLine_unresolved (live : s.mode = .live) (formed : badPageLine ops = false) {a : Answer}
    (h : s.resolve (operand ops 0) (selectorOperand ops 1) = .error a) : writePageLineEngine ops s = refuse a s := by
  rw [writePageLineEngine, liveOnly_of_live live, formed, h]
  cases selectorOperand ops 1 <;> rfl

section Resolved

variable (live : s.mode = .live) (formed : badPageLine ops = false) (names : selectorOperand ops 1 = some x)
  (page : s.resolve (operand ops 0) (some x) = .ok d)
include live formed names page

theorem writePageLine_outOfRange (out : d.limit ≤ operand ops 3) : writePageLineEngine ops s = refuse .outOfRange s := by
  rw [writePageLineEngine, liveOnly_of_live live, formed, names, page]
  simp only [pageLineCheck_eq, if_pos out]
  rfl

/-- R146 check 4: a refusal RANK is recorded. -/
theorem writePageLine_rank (inside : operand ops 3 < d.limit)
    (low : d.rank < 2 ∨ x.isLocal = true ∧ ∃ t, (s.context (operand ops 0)).localTable = some t ∧ t.rank < 2) :
    writePageLineEngine ops s = refuse .rank (s.record .terminal .rank) := by
  rw [writePageLineEngine, liveOnly_of_live live, formed, names, page]
  simp only [pageLineCheck_eq, if_neg (Nat.not_le.mpr inside), if_pos low]
  rfl

theorem writePageLine_done (inside : operand ops 3 < d.limit)
    (high : ¬ (d.rank < 2 ∨ x.isLocal = true ∧ ∃ t, (s.context (operand ops 0)).localTable = some t ∧ t.rank < 2))
    {c : Option LineContent} (content : contentOperand ops 4 = some c) :
    writePageLineEngine ops s = done (s.setLine (d.base + operand ops 3) c) := by
  rw [writePageLineEngine, liveOnly_of_live live, formed, names, page]
  simp only [pageLineCheck_eq, if_neg (Nat.not_le.mpr inside), if_neg high, content]
  rfl

end Resolved

end WritePageLine

/-- Settles O47: a selector by the steps of its resolution, WRITE PAGE LINE by its checks. -/
theorem linesAreWrittenThroughSelectors : Obligations.LinesAreWrittenThroughSelectors := by
  refine ⟨fun s p w ops received => ⟨fun config => ?_, fun live bad => ?_, fun live none_ => ?_⟩, contentOperand_iff,
    fun s t => ⟨rfl, fun x table uncached => ?_, fun x c table cached out => ?_, fun x slot which => ?_, fun ops k =>
      ⟨selectorOperand_global, selectorOperand_local, selectorOperand_none⟩⟩,
    fun s p w ops x d c received words terminal offset content live names => ?_⟩
  · exact Request.exec_notLive received rfl config
  · exact Request.exec_live received rfl live (if_pos (eq_true_of_ne_false (mt badPageLine_iff.mp bad)))
  · cases bad : badPageLine ops with
    | true => exact Request.exec_live received rfl live (if_pos bad)
    | false =>
      refine Request.exec_refused received (writePageLine_unresolved live bad ?_)
      rw [none_]
      rfl
  · exact State.resolve_of_refused (Selector.slot_of_uncached table uncached)
  · exact State.resolve_of_refused ((Selector.slot_of_cached table cached).trans (if_pos out))
  · rw [← Descriptor.asPage_eq]
    refine State.resolve_of_slot ?_
    obtain ⟨table, rfl⟩ | ⟨table, c, cached, inside, rfl⟩ := which
    · exact Selector.slot_of_global table
    · exact (Selector.slot_of_cached table cached).trans (if_neg (Nat.not_le.mpr inside))
  · have formed : badPageLine ops = false :=
      badPageLine_iff.mpr ⟨words, terminal, offset, Option.isSome_iff_exists.mpr ⟨c, content⟩⟩
    refine ⟨fun a refused => ?_, fun page => ⟨fun out => ?_, fun inside low => ?_, fun inside high =>
      ⟨s.setLine (d.base + operand ops 3) c, ?_, rfl, s.line_setLine_self _ _, fun n other => s.line_setLine_ne _ other⟩⟩⟩
    · exact Request.exec_refused received (writePageLine_unresolved live formed (by rwa [names]))
    · exact Request.exec_refused received (writePageLine_outOfRange live formed names page out)
    · exact Request.exec_row_now received (writePageLine_rank live formed names page inside low)
    · exact Request.exec_done received (writePageLine_done live formed names page inside high content)

end Sys2Proof.Machine
end

section
/-! SET LOCAL TABLE, OPEN PAGE, CLOSE PAGE and the viewer sets (R141 to R145). -/

namespace Sys2Proof.Machine

/-! ### What opening and closing can change -/

/-- Records, contexts and raises have changed, and nothing else. -/
def State.onlyPages (s t : State) : Prop := t = { s with
  quote := { s.quote with instruments := t.quote.instruments }
  pages := { s.pages with contexts := t.pages.contexts }
  transit := { s.transit with raises := t.transit.raises } }

theorem State.onlyPages.refl (s : State) : s.onlyPages s := rfl

theorem State.onlyPages.trans {s t u : State} (h : s.onlyPages t) (h' : t.onlyPages u) : s.onlyPages u := by
  unfold State.onlyPages at h h' ⊢
  rw [h', h]

theorem State.onlyPages.setInstr (s : State) (i : Nat) (v : Instrument) : s.onlyPages (s.setInstr i v) := rfl

theorem State.onlyPages.setContext (s : State) (n : Nat) (c : Context) : s.onlyPages (s.setContext n c) := rfl

theorem State.onlyPages.tell (s : State) (ns : List Nat) : s.onlyPages (s.tell ns) := rfl

theorem State.onlyPages.changeViewers (f : List Nat → List Nat) (is : List Nat) (s : State) :
    s.onlyPages (s.changeViewers f is) := by
  induction is generalizing s with
  | nil => exact .refl s
  | cons i is ih => exact (State.onlyPages.setInstr s i _).trans (ih _)

theorem State.onlyPages.closePage (n : Nat) (s : State) : s.onlyPages (s.closePage n) := by
  unfold State.closePage
  split
  · exact .refl s
  · exact (State.onlyPages.changeViewers _ _ s).trans (.setContext _ n _)

theorem State.onlyPages.openPage (n : Nat) (x : Selector) (d : Descriptor) (s : State) : s.onlyPages (s.openPage n x d) := by
  have opened (c : Context) := ((State.onlyPages.closePage n s).trans (.changeViewers _ _ _)).trans
    (.setContext ((s.closePage n).changeViewers (setInsert n) (namedIndices (s.pageLines d))) n c)
  unfold State.openPage
  dsimp only
  split
  · exact opened _
  · exact (opened _).trans (.tell _ _)

/-! ### Viewer sets -/

theorem State.instr_changeViewers (f : List Nat → List Nat) (is : List Nat) (s : State) (i : Nat) :
    (s.changeViewers f is).instr i = { s.instr i with viewers := ((s.changeViewers f is).instr i).viewers } := by
  induction is generalizing s with
  | nil => rfl
  | cons j is ih =>
    refine (ih _).trans ?_
    by_cases same : i = j
    · subst same
      rw [State.instr_setInstr_self]
      rfl
    · rw [State.instr_setInstr_ne _ _ same]
      rfl

section Pages

variable {s : State} {n i : Nat} {q : OpenPage}

theorem State.context_closePage_self (s : State) (n : Nat) :
    (s.closePage n).context n = { s.context n with page := none } := by
  unfold State.closePage
  split
  next closed => rw [← closed]
  next => exact State.context_setContext_self _ _ _

theorem State.context_closePage_ne (s : State) {n m : Nat} (other : m ≠ n) :
    (s.closePage n).context m = s.context m := by
  unfold State.closePage
  split
  · rfl
  · rw [State.context_setContext_ne _ _ other, State.context_changeViewers]

/-- R145: closing takes the terminal out of the viewer sets of the instruments that its page named. -/
theorem State.instr_closePage (s : State) (n i : Nat) :
    (s.closePage n).instr i = { s.instr i with viewers := ((s.closePage n).instr i).viewers } ∧
    ∀ m, m ∈ ((s.closePage n).instr i).viewers ↔ m ∈ (s.instr i).viewers ∧
      (m = n → ∀ q, (s.context n).page = some q → ¬ ∃ f, some ⟨i, f⟩ ∈ q.snapshot) := by
  unfold State.closePage
  split
  next closed =>
    refine ⟨rfl, fun m => ?_⟩
    simp [closed]
  next q opened =>
    refine ⟨State.instr_changeViewers _ _ s i, fun m => ?_⟩
    rw [State.instr_setContext, State.viewers_changeViewers (setErase_setErase n)]
    simp only [opened, Option.some.injEq, forall_eq', ← mem_namedIndices]
    split
    next named => simp [named]
    next unnamed => simp [unnamed]

theorem State.pageLines_eq (s : State) (d : Descriptor) :
    s.pageLines d = (List.range d.limit).map fun k => s.line (d.base + k) := rfl

theorem State.writtenOffsets_pageLines (s : State) (d : Descriptor) : writtenOffsets (s.pageLines d) =
    (List.range d.limit).filter fun k => (s.line (d.base + k)).isSome := by
  have length : (s.pageLines d).length = d.limit := by rw [State.pageLines_eq, List.length_map, List.length_range]
  rw [writtenOffsets, length]
  refine List.filter_congr fun k hk => ?_
  have inside := List.mem_range.mp hk
  rw [State.pageLines_eq, List.getD_eq_getElem?_getD, List.getElem?_map, List.getElem?_range inside]
  rfl

/-- R143: a page opened at a terminal. -/
theorem State.openPage_leaves (s : State) (n : Nat) (x : Selector) (d : Descriptor) :
    let lines := (List.range d.limit).map fun k => s.line (d.base + k)
    let dirty := (List.range d.limit).filter fun k => (s.line (d.base + k)).isSome
    let named (lines : List (Option LineContent)) (i : Nat) : Prop := ∃ f, some ⟨i, f⟩ ∈ lines
    let t := s.openPage n x d
    t.context n = { s.context n with page := some ⟨x, lines, dirty⟩ } ∧
    (∀ m, m ≠ n → t.context m = s.context m) ∧
    (∀ i, t.instr i = { s.instr i with viewers := (t.instr i).viewers } ∧
      ∀ m, m ∈ (t.instr i).viewers ↔ if m = n
        then named lines i ∨ n ∈ (s.instr i).viewers ∧ ∀ q, (s.context n).page = some q → ¬ named q.snapshot i
        else m ∈ (s.instr i).viewers) ∧
    t.transit.raises = s.transit.raises ++ if dirty = [] then [] else [n] := by
  intro lines dirty named t
  have offsets : writtenOffsets lines = dirty := s.writtenOffsets_pageLines d
  let joined := (s.closePage n).changeViewers (setInsert n) (namedIndices lines)
  let opened := joined.setContext n { (s.closePage n).context n with page := some ⟨x, lines, writtenOffsets lines⟩ }
  have t_eq : t = if (writtenOffsets lines).isEmpty then opened else opened.tell [n] := rfl
  have context (m : Nat) : t.context m = opened.context m := by rw [t_eq]; split <;> rfl
  have instr (m : Nat) : t.instr m = joined.instr m := by rw [t_eq]; split <;> rfl
  refine ⟨?_, fun m other => ?_, fun i => ⟨?_, fun m => ?_⟩, ?_⟩
  · rw [context, State.context_setContext_self, State.context_closePage_self, offsets]
  · rw [context, State.context_setContext_ne _ _ other, State.context_changeViewers, State.context_closePage_ne _ other]
  · rw [instr, State.instr_changeViewers, (s.instr_closePage n i).1]
  · rw [instr, State.viewers_changeViewers (setInsert_setInsert n)]
    have closed := (s.instr_closePage n i).2 m
    have names : i ∈ namedIndices lines ↔ named lines i := mem_namedIndices
    by_cases same : m = n
    · subst same
      rw [if_pos rfl]
      split
      next here => simp [← names, here]
      next away =>
        exact closed.trans ⟨fun h => .inr ⟨h.1, h.2 rfl⟩,
          fun h => h.elim (fun here => absurd (names.mpr here) away) fun h => ⟨h.1, fun _ => h.2⟩⟩
    · rw [if_neg same]
      split
      next here => simp [same, closed]
      next away => simp [same, closed]
  · have kept : opened.transit = s.transit := by simp [opened, joined]
    rw [t_eq, offsets]
    by_cases clean : dirty = []
    · rw [if_pos (by rw [clean]; rfl), if_pos clean, kept, List.append_nil]
    · rw [if_neg (mt List.isEmpty_iff.mp clean), if_neg clean, ← kept]
      rfl

end Pages

/-! ### The requests -/

section Requests

variable {s : State} {p : PortId} {w : Word} {ops : List Word}

theorem badClose_iff : (decide (ops.length ≠ 1) || badTerminal ops) = false ↔ ops.length = 1 ∧ operand ops 0 ≤ 63 := by
  rw [Bool.or_eq_false_iff, decide_eq_false_iff_not, not_not, badTerminal_iff]

theorem badOpen_iff : (decide (ops.length ≠ 3) || badTerminal ops) = false ↔ ops.length = 3 ∧ operand ops 0 ≤ 63 := by
  rw [Bool.or_eq_false_iff, decide_eq_false_iff_not, not_not, badTerminal_iff]

theorem badLocalTable_iff : (decide (ops.length ≠ 2) || badTerminal ops || decide (Config.globalSlots ≤ operand ops 1)) = false ↔
    ops.length = 2 ∧ operand ops 0 ≤ 63 ∧ operand ops 1 ≤ 127 := by
  have slot : ¬ Config.globalSlots ≤ operand ops 1 ↔ operand ops 1 ≤ 127 := by rw [not_le]; exact Nat.lt_succ_iff
  rw [Bool.or_eq_false_iff, Bool.or_eq_false_iff, decide_eq_false_iff_not, decide_eq_false_iff_not, not_not,
    badTerminal_iff, slot, and_assoc]

/-- A request that the port unit takes is permitted at its port (R162). -/
theorem State.permits_of_portCheck {head : Word} {r : Request} (h : s.portCheck p head = .ok r) : r.permits p = true := by
  unfold State.portCheck at h
  split at h
  · cases h
  split at h
  · cases h
  split_ifs at h with long permits
  cases h
  exact permits

/-- CLOSE PAGE is a request of the T-port and of the S-port (R144). -/
theorem closePage_port (received : s.receives p w .closePage ops) : p = .terminal ∨ p = .supervisor := by
  obtain ⟨-, head, -, check⟩ := received
  cases p with
  | terminal => exact .inl rfl
  | supervisor => exact .inr rfl
  | feed => exact absurd (State.permits_of_portCheck check) nofun

/-- CLOSE PAGE where its port takes it: at the S-port in either mode, at the T-port in LIVE (R144). -/
theorem closePageEngine_of_taken (received : s.receives p w .closePage ops) (taken : s.mode = .live ∨ p = .supervisor) :
    closePageEngine p ops s = closePageBody ops s := by
  obtain rfl | rfl := closePage_port received
  · exact liveOnly_of_live (taken.resolve_right nofun)
  · rfl

theorem openPageEngine_of_error (live : s.mode = .live) (formed : (decide (ops.length ≠ 3) || badTerminal ops) = false)
    {a : Answer} (h : s.resolve (operand ops 0) (selectorOperand ops 1) = .error a) :
    openPageEngine ops s = refuse a s := by
  rw [openPageEngine, liveOnly_of_live live, formed, h]
  cases selectorOperand ops 1 <;> rfl

theorem openPageEngine_of_ok (live : s.mode = .live) (formed : (decide (ops.length ≠ 3) || badTerminal ops) = false)
    {x : Selector} {d : Descriptor} (h : s.resolve (operand ops 0) (selectorOperand ops 1) = .ok d)
    (names : selectorOperand ops 1 = some x) : openPageEngine ops s = done (s.openPage (operand ops 0) x d) := by
  rw [names] at h
  rw [openPageEngine, liveOnly_of_live live, formed, names, h]
  rfl

end Requests

/-- Settles O48: opening and closing by what they leave of contexts and viewer sets. -/
theorem pagesOpenAndClose : Obligations.PagesOpenAndClose := by
  refine ⟨fun s p w ops r which received => ⟨fun config notBoth => ?_, fun taken bad => ?_⟩, fun s p w ops => ?_⟩
  · obtain rfl | rfl | rfl := which
    · exact Request.exec_notLive received rfl config
    · exact Request.exec_notLive received rfl config
    · obtain rfl : p = .terminal := (closePage_port received).resolve_right fun same => notBoth ⟨rfl, same⟩
      exact Request.exec_notLive received rfl config
  · obtain rfl | rfl | rfl := which
    · have live := taken.resolve_right fun both => absurd both.1 nofun
      refine Request.exec_live received rfl live (checked_of_some (firstRefusal_fail (eq_true_of_ne_false fun good => bad ?_)))
      obtain ⟨words, terminal, slot⟩ := badLocalTable_iff.mp good
      exact ⟨terminal, fun _ => ⟨words, slot⟩, nofun, nofun⟩
    · have live := taken.resolve_right fun both => absurd both.1 nofun
      refine Request.exec_live received rfl live (if_pos (eq_true_of_ne_false fun good => bad ?_))
      obtain ⟨words, terminal⟩ := badOpen_iff.mp good
      exact ⟨terminal, nofun, fun _ => words, nofun⟩
    · refine Request.exec_refused received ((closePageEngine_of_taken received (taken.imp_right And.right)).trans
        (checked_of_some (firstRefusal_fail (eq_true_of_ne_false fun good => bad ?_))))
      obtain ⟨words, terminal⟩ := badClose_iff.mp good
      exact ⟨terminal, nofun, nofun, fun _ => words⟩
  intro n old named onlyPages terminal
  refine ⟨fun received words slot live => ?_, fun received words live => ⟨fun a refused => ?_, fun d x page names => ?_⟩,
    fun received words taken => ?_⟩
  · intro d
    have check : setLocalTableCheck ops s =
        if d.present = false then some .notPresent else if d.kind ≠ .localTable then some .wrongKind else none := by
      rw [setLocalTableCheck, firstRefusal_pass (badLocalTable_iff.mpr ⟨words, terminal, slot⟩), firstRefusal_cons,
        firstRefusal_cons, firstRefusal_nil]
      simp only [Bool.not_eq_true', decide_eq_true_iff]
      rfl
    refine ⟨fun absent => ?_, fun present other => ?_, fun present table => ?_⟩
    · exact Request.exec_live received rfl live (checked_of_some (check.trans (if_pos absent)))
    · refine Request.exec_live received rfl live (checked_of_some (check.trans ?_))
      rw [if_neg (by rw [present]; nofun), if_pos other]
    · refine Request.exec_live_done received rfl live ((checked_of_none (check.trans ?_)).trans rfl)
      rw [if_neg (by rw [present]; nofun), if_neg (not_not.mpr table)]
  · exact Request.exec_refused received (openPageEngine_of_error live (badOpen_iff.mpr ⟨words, terminal⟩) refused)
  · exact ⟨s.openPage n x d,
      Request.exec_done received (openPageEngine_of_ok live (badOpen_iff.mpr ⟨words, terminal⟩) page names),
      State.onlyPages.openPage n x d s, s.openPage_leaves n x d⟩
  · refine ⟨s.closePage n, Request.exec_done received ((closePageEngine_of_taken received taken.symm).trans
      ((checked_of_none (firstRefusal_pass (badClose_iff.mpr ⟨words, terminal⟩))).trans rfl)),
      State.onlyPages.closePage n s,
      s.context_closePage_self n, fun m other => s.context_closePage_ne other, fun i => s.instr_closePage n i,
      congrArg Transit.raises (s.closePage_transit n)⟩

end Sys2Proof.Machine
end

section
/-! PAGE_HANDOFF: the marks at the open pages that show a changed field (R147, R154). -/

namespace Sys2Proof.Machine

/-! ### Marks -/

/-- R147: a line is marked where it names the instrument and its format shows a changed field. -/
theorem LineContent.marked_iff {b : PageChange} {c : LineContent} :
    c.marked b = true ↔ c.index = b.index ∧ ∃ x ∈ c.format.fields, x ∈ b.fields := by
  rw [LineContent.marked, Bool.and_eq_true, decide_eq_true_iff, List.any_eq_true]
  simp only [List.contains_iff_mem]

/-- A snapshot line that a change marks, as the obligations write it. -/
def OpenPage.marks (q : OpenPage) (k : Nat) (b : PageChange) : Prop := ∃ f field,
  q.snapshot[k]? = some (some ⟨b.index, f⟩) ∧ field ∈ b.fields ∧ field ∈ (match f with
    | .full => [.symbol, .last, .netChange, .tick, .volume, .status]
    | .quote => [.symbol, .bid, .ask, .bidSize, .askSize, .status]
    | .range => [.symbol, .opening, .high, .low, .status] : List Field)

theorem OpenPage.marks_iff {q : OpenPage} {k : Nat} {b : PageChange} :
    ((q.snapshot.getD k none).any fun c => c.marked b) = true ↔ q.marks k b := by
  rw [Option.any_eq_true, List.getD_eq_getElem?_getD]
  simp only [LineContent.marked_iff]
  constructor
  · rintro ⟨c, line, index, x, shows, changed⟩
    have here : q.snapshot[k]? = some (some c) := by
      cases found : q.snapshot[k]? with
      | none => rw [found] at line; cases line
      | some y => rw [found] at line; exact congrArg some line
    refine ⟨c.format, x, by rw [here, ← index], changed, ?_⟩
    cases format : c.format <;> rw [format] at shows <;> exact shows
  · rintro ⟨f, x, here, changed, shows⟩
    refine ⟨⟨b.index, f⟩, by rw [here]; rfl, rfl, x, ?_, changed⟩
    cases f <;> exact shows

theorem OpenPage.mem_markedDirty {q : OpenPage} {k : Nat} {b : PageChange} :
    k ∈ q.markedDirty b ↔ k < q.snapshot.length ∧ (k ∈ q.dirty ∨ q.marks k b) := by
  rw [OpenPage.markedDirty, List.mem_filter, List.mem_range, Bool.or_eq_true, List.contains_iff_mem, OpenPage.marks_iff]

/-! ### One terminal -/

section Mark

variable (b : PageChange)

/-- A context whose open page has taken a handoff's marks (R147). -/
def Context.marked (c : Context) : Context :=
  match c.page with
  | none => c
  | some q => { c with page := some { q with dirty := q.markedDirty b } }

/-- The notice unit is told of the terminal: its dirty set was empty and is not (R147). -/
def Context.wakes (c : Context) : Bool :=
  match c.page with
  | none => false
  | some q => q.dirty.isEmpty && !(q.markedDirty b).isEmpty

theorem Context.marked_of_closed {c : Context} (h : c.page = none) : c.marked b = c := by rw [Context.marked, h]

theorem Context.marked_of_open {c : Context} {q : OpenPage} (h : c.page = some q) :
    c.marked b = { c with page := some { q with dirty := q.markedDirty b } } := by rw [Context.marked, h]

theorem State.context_markTerminal (s : State) (n m : Nat) :
    (s.markTerminal b n).context m = if m = n then (s.context n).marked b else s.context m := by
  unfold State.markTerminal
  split
  next closed =>
    rw [Context.marked_of_closed b closed]
    split
    next same => rw [same]
    next => rfl
  next q opened =>
    rw [Context.marked_of_open b opened]
    have wrote (c : Context) : (s.setContext n c).context m = if m = n then c else s.context m := by
      split
      next same => rw [same, State.context_setContext_self]
      next other => rw [State.context_setContext_ne _ _ other]
    dsimp only
    split <;> exact wrote _

theorem State.raises_markTerminal (s : State) (n : Nat) : (s.markTerminal b n).transit.raises =
    s.transit.raises ++ if (s.context n).wakes b then [n] else [] := by
  unfold State.markTerminal Context.wakes
  split
  next closed => simp [closed]
  next q opened =>
    simp only [opened]
    split
    · rfl
    · rw [List.append_nil]
      rfl

/-! ### Every terminal of a viewer set -/

theorem State.context_markTerminals {ns : List Nat} (once : ns.Nodup) (s : State) (m : Nat) :
    (ns.foldl (State.markTerminal b) s).context m = if m ∈ ns then (s.context m).marked b else s.context m := by
  induction ns generalizing s with
  | nil => rfl
  | cons n ns ih =>
    obtain ⟨new, rest⟩ := List.nodup_cons.mp once
    rw [List.foldl_cons, ih rest, State.context_markTerminal]
    by_cases same : m = n
    · subst same
      simp [new]
    · simp [same]

theorem State.raises_markTerminals {ns : List Nat} (once : ns.Nodup) (s : State) :
    (ns.foldl (State.markTerminal b) s).transit.raises =
      s.transit.raises ++ ns.filter fun n => (s.context n).wakes b := by
  induction ns generalizing s with
  | nil => simp
  | cons n ns ih =>
    obtain ⟨new, rest⟩ := List.nodup_cons.mp once
    have still : ns.filter (fun m => ((s.markTerminal b n).context m).wakes b) = ns.filter fun m => (s.context m).wakes b :=
      List.filter_congr fun m hm => by
        have other : m ≠ n := fun same => new (same ▸ hm)
        rw [State.context_markTerminal, if_neg other]
    rw [List.foldl_cons, ih rest, State.raises_markTerminal, still, List.filter_cons, List.append_assoc]
    split <;> rfl

end Mark

/-- Settles O50: the marks terminal by terminal, each standing once in the viewer set. -/
theorem pageHandoffMarksLines : Obligations.PageHandoffMarksLines := by
  refine fun s => ⟨fun none => ?_, fun b rest changes once => ?_⟩
  · change execPageHandoff s = _
    rw [execPageHandoff, none]
  · let u : State := { s with transit := { s.transit with pageChanges := rest } }
    have context (n : Nat) : (u.takePageChange b).context n =
        if n ∈ (s.instr b.index).viewers then (s.context n).marked b else s.context n :=
      State.context_markTerminals b once u n
    have acts : exec .pageHandoff s = .next (u.takePageChange b) := by
      change execPageHandoff s = _
      rw [execPageHandoff, changes]
    refine ⟨u.takePageChange b, acts, State.takePageChange_frame b u, fun n away => ?_, fun n q views opened => ?_, ?_⟩
    · rw [context]
      split
      next views => rw [Context.marked_of_closed b (away.resolve_left (not_not.mpr views))]
      next => rfl
    · exact ⟨q.markedDirty b, by rw [context, if_pos views, Context.marked_of_open b opened],
        fun k => OpenPage.mem_markedDirty⟩
    · refine (State.raises_markTerminals b once u).trans (congrArg (s.transit.raises ++ ·) (List.filter_congr fun n views => ?_))
      rw [context, if_pos views]
      change (s.context n).wakes b = _
      unfold Context.wakes Context.marked
      cases opened : (s.context n).page with
      | none => simp
      | some q => rfl

end Sys2Proof.Machine
end

section
/-! READ CHANGED LINE and READ LINE (R148, R149, R151). -/

namespace Sys2Proof.Machine

/-! ### Handoffs taken one after another -/

section CaughtUp

variable {s : State} {b : PageChange} {rest : List PageChange} {n : Nat}

theorem State.pagesCaughtUp_of_none (h : s.transit.pageChanges = []) : s.pagesCaughtUp = s := by
  rw [State.pagesCaughtUp, h]
  rfl

/-- R147: a handoff takes no other from its way. -/
theorem State.pageChanges_takePageChange (s : State) (b : PageChange) :
    (s.takePageChange b).transit.pageChanges = s.transit.pageChanges := by rw [State.takePageChange_frame]

theorem State.pagesCaughtUp_of_cons (h : s.transit.pageChanges = b :: rest) : s.pagesCaughtUp =
    (State.takePageChange b { s with transit := { s.transit with pageChanges := rest } }).pagesCaughtUp := by
  rw [State.pagesCaughtUp, h, State.takePageChanges]
  conv_rhs => rw [State.pagesCaughtUp, State.pageChanges_takePageChange]

theorem State.exec_pageHandoff (h : s.transit.pageChanges = b :: rest) : exec .pageHandoff s =
    .next (State.takePageChange b { s with transit := { s.transit with pageChanges := rest } }) := by
  change execPageHandoff s = _
  rw [execPageHandoff, h]

theorem State.pageChanges_takePageChanges (bs : List PageChange) (s : State) (h : s.transit.pageChanges = bs) :
    (s.takePageChanges bs).transit.pageChanges = [] := by
  induction bs generalizing s with
  | nil => exact h
  | cons b bs ih => exact ih _ (State.pageChanges_takePageChange _ b)

/-- The terminal's open page shows its line `k` dirty, in one snapshot. -/
def State.dirtyAt (s : State) (n k : Nat) : Prop := ∃ q, (s.context n).page = some q ∧ k < q.snapshot.length ∧ k ∈ q.dirty

/-- A handoff leaves a dirty line dirty (R147). -/
theorem State.dirtyAt.markTerminal {k : Nat} (h : s.dirtyAt n k) (b : PageChange) (m : Nat) :
    (s.markTerminal b m).dirtyAt n k := by
  obtain ⟨q, opened, inside, dirty⟩ := h
  rw [State.dirtyAt, State.context_markTerminal]
  by_cases same : n = m
  · subst same
    rw [if_pos rfl, Context.marked_of_open b opened]
    exact ⟨_, rfl, inside, OpenPage.mem_markedDirty.mpr ⟨inside, .inl dirty⟩⟩
  · rw [if_neg same]
    exact ⟨q, opened, inside, dirty⟩

theorem State.dirtyAt.takePageChange {k : Nat} (h : s.dirtyAt n k) (b : PageChange) : (s.takePageChange b).dirtyAt n k := by
  unfold State.takePageChange
  generalize (s.instr b.index).viewers = ms
  induction ms generalizing s with
  | nil => exact h
  | cons m ms ih => exact ih (h.markTerminal b m)

theorem State.dirtyAt.takePageChanges {k : Nat} (h : s.dirtyAt n k) (bs : List PageChange) :
    (s.takePageChanges bs).dirtyAt n k := by
  induction bs generalizing s with
  | nil => exact h
  | cons b bs ih =>
    exact ih (State.dirtyAt.takePageChange (s := { s with transit := { s.transit with pageChanges := bs } }) h b)

theorem State.dirtyAt.dirty_cons {k : Nat} (h : s.dirtyAt n k) :
    ∃ q k' rest, (s.context n).page = some q ∧ q.dirty = k' :: rest := by
  obtain ⟨q, opened, -, dirty⟩ := h
  obtain ⟨k', rest, shape⟩ := List.exists_cons_of_ne_nil (List.ne_nil_of_mem dirty)
  exact ⟨q, k', rest, opened, shape⟩

end CaughtUp

/-! ### Reading -/

section Reading

variable {s : State} {n k : Nat} {q : OpenPage} {rest : List Nat}

theorem State.readOvertakes_iff (opened : (s.context n).page = some q) (dirty : q.dirty = k :: rest) :
    s.readOvertakes n = true ↔ ∃ b ∈ s.transit.pageChanges, q.marks k b := by
  simp only [← OpenPage.marks_iff]
  rw [State.readOvertakes, opened, Option.any_some, dirty, List.head?_cons, Option.any_some]
  cases q.snapshot.getD k none <;> simp

theorem State.takeLine_of_dirty (opened : (s.context n).page = some q) (dirty : q.dirty = k :: rest) : s.takeLine n =
    some (doneWith (s.lineWords q k rest.length)
      (s.setContext n { s.context n with page := some { q with dirty := rest } })) := by
  rw [State.takeLine, opened]
  simp only [dirty]

theorem State.takeLine_of_clean
    (h : (s.context n).page = none ∨ ∃ q, (s.context n).page = some q ∧ q.dirty = []) : s.takeLine n = none := by
  obtain closed | ⟨q, opened, clean⟩ := h
  · rw [State.takeLine, closed]
  · rw [State.takeLine, opened]
    simp only [clean]

theorem State.readOvertakes_of_clean
    (h : (s.context n).page = none ∨ ∃ q, (s.context n).page = some q ∧ q.dirty = []) : s.readOvertakes n = false := by
  obtain closed | ⟨q, opened, clean⟩ := h
  · rw [State.readOvertakes, closed]
    rfl
  · rw [State.readOvertakes, opened, Option.any_some, clean]
    rfl

theorem State.readChanged_of_clean
    (h : (s.context n).page = none ∨ ∃ q, (s.context n).page = some q ∧ q.dirty = []) :
    s.readChanged n = refuse .noLine s := by
  rw [State.readChanged, State.readOvertakes_of_clean h, if_neg Bool.false_ne_true, State.takeLine_of_clean h]
  rfl

theorem State.readChanged_of_first (first : s.readOvertakes n = false) (opened : (s.context n).page = some q)
    (dirty : q.dirty = k :: rest) : s.readChanged n = doneWith (s.lineWords q k rest.length)
      (s.setContext n { s.context n with page := some { q with dirty := rest } }) := by
  rw [State.readChanged, first, if_neg Bool.false_ne_true, State.takeLine_of_dirty opened dirty]
  rfl

theorem State.readOvertakes_of_none (none : s.transit.pageChanges = []) (opened : (s.context n).page = some q)
    (dirty : q.dirty = k :: rest) : s.readOvertakes n = false := by
  rw [← Bool.not_eq_true, State.readOvertakes_iff opened dirty, none]
  exact fun ⟨_, mem, _⟩ => List.not_mem_nil mem

/-- R151: a read that would overtake a handoff reads once the handoffs are taken. -/
theorem State.readChanged_of_overtakes (overtakes : s.readOvertakes n = true) {u : State} (caught : s.pagesCaughtUp = u)
    (opened : (u.context n).page = some q) (dirty : q.dirty = k :: rest) :
    s.readChanged n = doneWith (u.lineWords q k rest.length)
      (u.setContext n { u.context n with page := some { q with dirty := rest } }) := by
  rw [State.readChanged, overtakes, if_pos rfl, caught, State.takeLine_of_dirty opened dirty]
  rfl

end Reading

/-! ### The requests -/

section Requests

variable {s : State} {p : PortId} {w : Word} {ops : List Word}

theorem badReadLine_iff : (decide (ops.length ≠ 2) || badTerminal ops || decide (15 < operand ops 1)) = false ↔
    ops.length = 2 ∧ operand ops 0 ≤ 63 ∧ operand ops 1 ≤ 15 := by
  rw [Bool.or_eq_false_iff, Bool.or_eq_false_iff, decide_eq_false_iff_not, decide_eq_false_iff_not, not_not, not_lt,
    badTerminal_iff, and_assoc]

theorem readChangedLineEngine_eq (live : s.mode = .live) (words : ops.length = 1) (terminal : operand ops 0 ≤ 63) :
    readChangedLineEngine ops s = s.readChanged (operand ops 0) :=
  (liveOnly_of_live live).trans (checked_of_none (firstRefusal_pass (badClose_iff.mpr ⟨words, terminal⟩)))

theorem readLineEngine_of_closed (live : s.mode = .live)
    (formed : (decide (ops.length ≠ 2) || badTerminal ops || decide (15 < operand ops 1)) = false)
    (closed : (s.context (operand ops 0)).page = none) : readLineEngine ops s = refuse .notPresent s := by
  rw [readLineEngine, liveOnly_of_live live, checked_of_none (firstRefusal_pass formed), closed]

theorem readLineEngine_of_open (live : s.mode = .live)
    (formed : (decide (ops.length ≠ 2) || badTerminal ops || decide (15 < operand ops 1)) = false) {q : OpenPage}
    (opened : (s.context (operand ops 0)).page = some q) : readLineEngine ops s =
      if q.snapshot.length ≤ operand ops 1 then refuse .outOfRange s
      else doneWith (s.lineWords q (operand ops 1) q.dirty.length) s := by
  rw [readLineEngine, liveOnly_of_live live, checked_of_none (firstRefusal_pass formed), opened]

end Requests

/-- Settles O49: the two reads of a terminal by its open page, and the handoffs that a read would overtake. -/
theorem linesAreRead : Obligations.LinesAreRead := by
  refine ⟨fun s p w ops r n which received => ⟨fun config => ?_, fun live bad => ?_⟩, fun b c bs => ⟨rfl, rfl, ?_, ?_⟩,
    fun s p w ops => ?_⟩
  · obtain ⟨rfl, -⟩ | ⟨rfl, -⟩ := which
    · exact Request.exec_notLive received rfl config
    · exact Request.exec_notLive received rfl config
  · obtain ⟨rfl, rfl⟩ | ⟨rfl, rfl⟩ := which
    · refine Request.exec_live received rfl live (checked_of_some (firstRefusal_fail (eq_true_of_ne_false fun good => bad ?_)))
      obtain ⟨words, terminal⟩ := badClose_iff.mp good
      exact ⟨words, terminal, nofun⟩
    · refine Request.exec_live received rfl live (checked_of_some (firstRefusal_fail (eq_true_of_ne_false fun good => bad ?_)))
      obtain ⟨words, terminal, offset⟩ := badReadLine_iff.mp good
      exact ⟨words, terminal, fun _ => offset⟩
  · exact hiByte_wordOf b c
  · exact loByte_wordOf b c
  intro n reply terminal live
  refine ⟨State.pagesCaughtUp_of_none, fun u some_ taken => ?_, fun received words => ⟨fun clean => ?_,
    fun q k rest opened dirty => ?_⟩, fun received words offset => ?_⟩
  · obtain ⟨b, rest, changes⟩ := List.exists_cons_of_ne_nil some_
    rw [State.exec_pageHandoff changes] at taken
    cases taken
    exact State.pagesCaughtUp_of_cons changes
  · exact Request.exec_refused received ((readChangedLineEngine_eq live words terminal).trans (State.readChanged_of_clean clean))
  · intro onItsWay
    have overtakes : s.readOvertakes n = true ↔ onItsWay := State.readOvertakes_iff opened dirty
    refine ⟨fun first => ?_, fun late => ?_⟩
    · exact Request.exec_done received ((readChangedLineEngine_eq live words terminal).trans
        (State.readChanged_of_first (eq_false_of_ne_true (mt overtakes.mp first)) opened dirty))
    · intro u
      obtain ⟨pages, transit, frame⟩ : ∃ pages transit, u = { s with pages := pages, transit := transit } :=
        ⟨_, _, State.takePageChanges_frame _ s⟩
      have none : u.transit.pageChanges = [] := State.pageChanges_takePageChanges _ s rfl
      have line : s.dirtyAt n k := by
        obtain ⟨b, -, f, x, here, -⟩ := late
        exact ⟨q, opened, (List.getElem?_eq_some_iff.mp here).1, by rw [dirty]; exact List.mem_cons_self⟩
      obtain ⟨q', k', rest', opened', dirty'⟩ := (line.takePageChanges s.transit.pageChanges).dirty_cons
      have received' : u.receives p w .readChangedLine ops := by rw [frame]; exact received
      have live' : u.mode = .live := by rw [frame]; exact live
      have now := State.readChanged_of_overtakes (overtakes.mpr late) rfl opened' dirty'
      have later := State.readChanged_of_first (State.readOvertakes_of_none none opened' dirty') opened' dirty'
      refine ⟨received', live', none, ⟨q', k', rest', opened', dirty'⟩, ?_⟩
      calc exec (.readChangedLine p w .now) s
        _ = _ := Request.exec_done received ((readChangedLineEngine_eq live words terminal).trans now)
        _ = exec (.readChangedLine p w .now) u :=
          (Request.exec_done received' ((readChangedLineEngine_eq live' words terminal).trans later)).symm
  · have formed := badReadLine_iff.mpr ⟨words, terminal, offset⟩
    refine ⟨fun closed => Request.exec_refused received (readLineEngine_of_closed live formed closed), fun q opened =>
      ⟨fun out => Request.exec_refused received ((readLineEngine_of_open live formed opened).trans (if_pos out)),
        fun inside => Request.exec_done received ((readLineEngine_of_open live formed opened).trans
          (if_neg (Nat.not_le.mpr inside)))⟩⟩

end Sys2Proof.Machine
end

section
/-! The timebase and device reset (R128, R180 to R182). -/

namespace Sys2Proof.Machine

/-! ### Seconds and the day clock -/

section Clock

variable (s : State) (n value : Nat)

/-- R181: the day clock with the minute change that it hands on. -/
theorem State.setDayClock_eq : s.setDayClock value = { s with
    timebase := { s.timebase with dayClock := value }
    transit := { s.transit with minuteChanges :=
      s.transit.minuteChanges + if value / 60 = s.timebase.dayClock / 60 then 0 else 1 } } := by
  unfold State.setDayClock
  split <;> rfl

theorem State.setDayClock_setSeconds : (s.setSeconds n).setDayClock value = (s.setDayClock value).setSeconds n := by
  rw [State.setDayClock_eq, State.setDayClock_eq]
  rfl

/-- The seconds still to take play no part in an advance. -/
theorem State.advance_setSeconds (k : Nat) : (s.setSeconds k).advance n = (s.advance n).setSeconds k := by
  induction n generalizing s with
  | zero => rfl
  | succ n ih =>
    change ((s.setSeconds k).setDayClock (nextSecond s.timebase.dayClock)).advance n = _
    rw [State.setDayClock_setSeconds, ih]
    rfl

theorem State.setTime_of_no_seconds (none : s.transit.seconds = 0) : s.setTime value = { s with
    timebase := { s.timebase with millisecond := 0, dayClock := value }
    transit := { s.transit with minuteChanges :=
      s.transit.minuteChanges + if value / 60 = s.timebase.dayClock / 60 then 0 else 1 } } := by
  have same : { s.transit with seconds := 0 } = s.transit := by rw [← none]
  have clear : s.setSeconds 0 = s := by rw [State.setSeconds, same]
  have advanced : s.advance s.transit.seconds = s := by rw [none]; rfl
  unfold State.setTime
  rw [advanced, clear, State.setDayClock_eq]

/-- R181: SET TIME takes the seconds that are still due one after another. -/
theorem State.setTime_of_seconds (some_ : s.transit.seconds = n + 1) :
    s.setTime value = State.setTime value ((s.setSeconds n).setDayClock (nextSecond s.timebase.dayClock)) := by
  have seconds : ((s.setSeconds n).setDayClock (nextSecond s.timebase.dayClock)).transit.seconds = n := by
    rw [State.setDayClock_eq]
    rfl
  have twice (t : State) : (t.setSeconds n).setSeconds 0 = t.setSeconds 0 := rfl
  unfold State.setTime
  rw [seconds, some_, State.setDayClock_setSeconds s n, State.advance_setSeconds, twice]
  rfl

theorem nextSecond_eq {d : Nat} (h : d ≤ 86399) : nextSecond d = if d = 86399 then 0 else d + 1 := by
  have day : Config.secondsPerDay = 86400 := rfl
  unfold nextSecond
  rw [day]
  split_ifs <;> omega

theorem Ribbon.count_eq (gate : Bool) (v : Ribbon) :
    v.count gate = { v with pacing := v.pacing - (if gate then 1 else 0) } := by
  cases gate <;> rfl

end Clock

theorem exec_dayClockAdvance {s : State} {n : Nat} (h : s.transit.seconds = n + 1) :
    exec .dayClockAdvance s = .next ((s.setSeconds n).setDayClock (nextSecond s.timebase.dayClock)) := by
  change execDayClockAdvance s = _
  rw [execDayClockAdvance, h]

/-- Settles O54: TICK, the day clock's advance and SET TIME. -/
theorem timebaseCounts : Obligations.TimebaseCounts := by
  refine ⟨fun s high => ?_, fun s low => ?_, fun s none => ?_, fun s n some_ range => ?_, fun s p w ops received words => ?_,
    fun s p w ops received words => ⟨fun out => ?_, fun inside none => ?_, fun u inside some_ taken => ?_⟩⟩
  · intro ms counted
    change execTick s = _
    rw [execTick, high, if_neg Bool.false_ne_true]
    simp only [Ribbon.count_eq]
    by_cases full : ms + 1 < 1000
    · have going : decide (1000 ≤ s.timebase.millisecond + 1) = false := decide_eq_false (Nat.not_le.mpr full)
      simp only [going, if_pos full]
      rfl
    · have ends : decide (1000 ≤ s.timebase.millisecond + 1) = true := decide_eq_true (Nat.not_lt.mp full)
      simp only [ends, if_neg full]
      rfl
  · change execTick s = _
    rw [execTick, low]
    rfl
  · change execDayClockAdvance s = _
    rw [execDayClockAdvance, none]
  · intro d e
    have next : nextSecond d = e := nextSecond_eq range
    have change : (if d / 60 = e / 60 then 0 else 1) = if e / 60 = d / 60 then 0 else 1 := if_congr eq_comm rfl rfl
    rw [exec_dayClockAdvance some_, next, State.setDayClock_eq, change]
    rfl
  · exact Request.exec_checked_refused received rfl (firstRefusal_fail (decide_eq_true words))
  all_goals have formed : decide (ops.length ≠ 2) = false := decide_eq_false (not_not.mpr words)
  · exact Request.exec_checked_refused received rfl ((firstRefusal_pass formed).trans (firstRefusal_fail (decide_eq_true out)))
  all_goals
    have passes : decide (Config.secondsPerDay ≤ operandPair ops 0) = false :=
      decide_eq_false (Nat.not_le.mpr (Nat.lt_succ_of_le inside))
    have acts (t : State) (h : t.receives p w .setTime ops) :
        exec (.setTime p w .now) t = .next ((t.setTime (operandPair ops 0)).answered p .done []) :=
      Request.exec_checked_done h rfl ((firstRefusal_pass formed).trans (firstRefusal_pass passes)) rfl
  · rw [acts s received, State.setTime_of_no_seconds s _ none]
  · obtain ⟨n, due⟩ := Nat.exists_eq_succ_of_ne_zero some_
    rw [exec_dayClockAdvance due] at taken
    cases taken
    have received' : State.receives ((s.setSeconds n).setDayClock (nextSecond s.timebase.dayClock)) p w .setTime ops := by
      rw [State.setDayClock_eq]
      exact received
    refine ⟨received', ?_⟩
    rw [acts s received, acts _ received', State.setTime_of_seconds s n _ due]

/-! ### Device reset -/

/-- Settles O55: the state after reset, block by block. -/
theorem deviceReset : Obligations.DeviceReset := by
  refine ⟨fun s => ⟨rfl, fun low => ?_, fun high => ?_, fun low p => ?_⟩, rfl, rfl, rfl, rfl, rfl, rfl, rfl, fun i => rfl,
    rfl, rfl, fun n => rfl, fun c => rfl, rfl, rfl, fun l => ⟨rfl, rfl, rfl, rfl, rfl, rfl, fun m => rfl⟩, fun r => ?_,
    fun n => ⟨rfl, rfl, rfl⟩, fun n => rfl, rfl, rfl, rfl, fun p => ?_, rfl, rfl, rfl, rfl, rfl, rfl, rfl, rfl, rfl, rfl⟩
  · change execResetRelease s = _
    rw [execResetRelease, low]
    rfl
  · change execResetRelease s = _
    rw [execResetRelease, high]
    rfl
  · rw [State.attention, low]
    rfl
  · unfold State.ribbon
    split <;> rfl
  · cases p <;> exact ⟨rfl, rfl, rfl⟩

end Sys2Proof.Machine
end

section
/-! GO LIVE and GO CONFIG (R178, R179). -/

namespace Sys2Proof.Machine

/-! ### Every link -/

theorem Display.exists_mapLinks (f : Link → Link) (d : Display) : ∃ ls, d.mapLinks f = { d with links := ls } :=
  ⟨_, rfl⟩

theorem Display.link_mapLinks_above (f : Link → Link) (d : Display) {l : Nat} (hl : 3 < l) :
    (d.mapLinks f).link l = d.link l := by
  have other {k : Nat} (hk : k ≤ 3) : l ≠ k := by omega
  unfold Display.mapLinks
  simp only [List.foldl]
  rw [Display.link_setLink_ne _ _ (other (by decide)), Display.link_setLink_ne _ _ (other (by decide)),
    Display.link_setLink_ne _ _ (other (by decide)), Display.link_setLink_ne _ _ (other (by decide))]

theorem Link.goLive_of_enabled {v : Link} (now : Time) (h : v.enabled = true) : v.goLive now =
    { v with state := .settling (some (now + 500)), resetPulses := v.resetPulses + 1 } := by
  rw [Link.goLive, if_pos h]
  rfl

theorem Link.goLive_of_disabled {v : Link} (now : Time) (h : v.enabled = false) : v.goLive now = v := by
  rw [Link.goLive, h, if_neg Bool.false_ne_true]

/-- R178: every link after GO LIVE. -/
theorem Display.link_goLive (d : Display) (now : Time) (l : Nat) :
    (l ≤ 3 → (d.link l).enabled = true → (d.mapLinks (Link.goLive now)).link l = { d.link l with
      state := .settling (some (now + 500)), resetPulses := (d.link l).resetPulses + 1 }) ∧
    (3 < l ∨ (d.link l).enabled = false → (d.mapLinks (Link.goLive now)).link l = d.link l) := by
  refine ⟨fun hl enabled => ?_, fun h => ?_⟩
  · rw [Display.link_mapLinks _ _ (Nat.lt_succ_of_le hl), Link.goLive_of_enabled now enabled]
  · by_cases hl : 3 < l
    · exact d.link_mapLinks_above _ hl
    · rw [d.link_mapLinks _ (Nat.lt_succ_of_le (Nat.not_lt.mp hl)), Link.goLive_of_disabled now (h.resolve_left hl)]

/-- R178: what GO LIVE changes. -/
theorem State.goLive_frame (s : State) : s.goLive = { s with
    mode := .live
    display := { s.display with links := s.goLive.display.links }
    tape :=
      { s.tape with
        ribbon0 := { s.tape.ribbon0 with state := if s.eligible 0 then .idle else .off }
        ribbon1 := { s.tape.ribbon1 with state := if s.eligible 1 then .idle else .off } } } := by
  obtain ⟨ls, same⟩ := s.display.exists_mapLinks (Link.goLive s.now)
  unfold State.goLive
  rw [same]
  rfl

/-- R179: what GO CONFIG changes. -/
theorem State.goConfig_frame (s : State) : s.goConfig = { s with
    mode := .config
    display := { s.display with
      cells := s.goConfig.display.cells, repaint := [], highlights := [], links := s.goConfig.display.links }
    tape := { s.tape with ribbon0 := s.tape.ribbon0.goConfig, ribbon1 := s.tape.ribbon1.goConfig } } := by
  obtain ⟨ls, same⟩ := s.display.exists_mapLinks fun v => if v.isOff then v else v.goConfig
  unfold State.goConfig
  rw [same]
  rfl

/-- R107: the modules of a link that goes to OFF. -/
theorem Link.module_goConfig {v : Link} (wf : Table.wf Module.reset v.modules = true) (m : Nat) :
    v.goConfig.module m = { v.module m with
      state := if (v.module m).state = .unconfigured then ModuleState.unconfigured else .down
      lastSent := none, owed := .nothing, restartPending := false } := by
  have rest : v.goConfig.module m = (v.module m).rest := Table.get_mapValues Module.reset Module.rest rfl wf m
  rw [rest, Module.rest]
  simp only [Module.configured, ne_eq, decide_not, Bool.not_eq_true', decide_eq_false_iff_not, ite_not]

/-- The module table of any link is in its form where every stored one is. -/
theorem Display.wf_modules {d : Display} (wf : ∀ e ∈ d.links, Table.wf Module.reset e.2.modules = true) (l : Nat) :
    Table.wf Module.reset (d.link l).modules = true := by
  obtain absent | stored := Table.get_mem Link.reset d.links l
  · unfold Display.link
    rw [absent]
    rfl
  · exact wf _ stored

theorem State.cell_goConfig {s : State} (wf : Table.wf Cell.vacant s.display.cells = true) (c : Nat) :
    s.goConfig.display.cell c = { s.display.cell c with queued := false, expiry := none } := by
  obtain ⟨ls, same⟩ := s.display.exists_mapLinks fun v => if v.isOff then v else v.goConfig
  unfold State.goConfig
  rw [same]
  exact Table.get_mapValues Cell.vacant (fun v => { v with queued := false, expiry := none }) rfl wf c

/-! ### GO LIVE -/

section Requests

variable {s : State}

/-- R178: some outlet, a link enabled or a ribbon eligible. -/
theorem State.hasOutlet_iff : s.hasOutlet = true ↔
    (∃ l, l ≤ 3 ∧ (s.display.link l).enabled = true) ∨ s.eligible 0 = true ∨ s.eligible 1 = true := by
  have links : ([0, 1, 2, 3].any fun l => (s.display.link l).enabled) = true ↔
      ∃ l, l ≤ 3 ∧ (s.display.link l).enabled = true := by
    have four (l : Nat) : l ∈ [0, 1, 2, 3] ↔ l ≤ 3 := by
      simp only [List.mem_cons, List.not_mem_nil, or_false]
      omega
    simp only [List.any_eq_true, four]
  rw [State.hasOutlet, Bool.or_eq_true, links]
  simp

theorem State.hasOutlet_eq_false : s.hasOutlet = false ↔
    (∀ l, l ≤ 3 → (s.display.link l).enabled = false) ∧ s.eligible 0 = false ∧ s.eligible 1 = false := by
  rw [← Bool.not_eq_true, State.hasOutlet_iff]
  simp

theorem goLiveEngine_of_live (live : s.mode = .live) : goLiveEngine [] s = done s := by
  rw [goLiveEngine, if_neg (by decide), if_pos live]

theorem goLiveEngine_of_config (config : s.mode = .config) :
    goLiveEngine [] s = if s.hasOutlet then done s.goLive else refuse .busy s := by
  rw [goLiveEngine, if_neg (by decide), if_neg (by rw [config]; nofun)]

/-! ### GO CONFIG -/

theorem Ribbon.busy_eq_false {v : Ribbon} : v.busy = false ↔ v.state = .off ∨ v.state = .idle := by
  unfold Ribbon.busy
  cases v.state <;> simp

theorem State.tapeHolds_eq_false : s.tapeHolds = false ↔ s.tape.ribbon0.queue = [] ∧ s.tape.ribbon1.queue = [] := by
  rw [← Bool.not_eq_true, State.tapeHolds_iff, not_or, not_not, not_not]

theorem goConfigEngine_of_config (config : s.mode = .config) : goConfigEngine [] s = done s := by
  rw [goConfigEngine, if_neg (by decide), if_pos config]

/-- Nothing stands in the way of GO CONFIG (R179). -/
def State.still (s : State) : Prop :=
  s.quote.session = .closed ∧ s.tape.ribbon0.queue = [] ∧ s.tape.ribbon1.queue = [] ∧
    (s.tape.ribbon0.state = .off ∨ s.tape.ribbon0.state = .idle) ∧
    (s.tape.ribbon1.state = .off ∨ s.tape.ribbon1.state = .idle)

theorem State.still_iff : s.still ↔
    s.quote.session = .closed ∧ (s.tapeHolds || s.tape.ribbon0.busy || s.tape.ribbon1.busy) = false := by
  rw [State.still, Bool.or_eq_false_iff, Bool.or_eq_false_iff, State.tapeHolds_eq_false, Ribbon.busy_eq_false,
    Ribbon.busy_eq_false, and_assoc, and_assoc]

theorem goConfigEngine_of_still (live : s.mode = .live) (still : s.still) : goConfigEngine [] s = done s.goConfig := by
  obtain ⟨closed, rest⟩ := State.still_iff.mp still
  rw [goConfigEngine, if_neg (by decide), if_neg (by rw [live]; nofun), if_neg (by rw [closed]; nofun), rest]
  rfl

theorem goConfigEngine_of_busy (live : s.mode = .live) (busy : ¬ s.still) : goConfigEngine [] s = refuse .busy s := by
  rw [goConfigEngine, if_neg (by decide), if_neg (by rw [live]; nofun)]
  cases session : s.quote.session with
  | opened => exact if_pos rfl
  | closed => exact if_pos (eq_true_of_ne_false fun rest => busy (State.still_iff.mpr ⟨session, rest⟩))

end Requests

/-- Settles O53: GO LIVE and GO CONFIG link by link, cell by cell. -/
theorem modeChanges : Obligations.ModeChanges := by
  refine ⟨fun s p w ops operands => ⟨fun received => ?_, fun received => ?_⟩, fun s p w => ?_⟩
  · exact Request.exec_refused received (if_pos (mt List.length_eq_zero_iff.mp operands))
  · exact Request.exec_refused received (if_pos (mt List.length_eq_zero_iff.mp operands))
  intro eligible quietRibbon
  have first : s.eligible 0 = eligible 0 := rfl
  have second : s.eligible 1 = eligible 1 := rfl
  refine ⟨fun received => ⟨fun live => ?_, fun config none zero one => ?_, fun config outlet => ?_⟩, fun received => ?_⟩
  · exact Request.exec_done received (goLiveEngine_of_live live)
  · have shut : s.hasOutlet = false := State.hasOutlet_eq_false.mpr ⟨none, zero, one⟩
    refine Request.exec_refused received ((goLiveEngine_of_config config).trans ?_)
    rw [shut]
    rfl
  · refine ⟨s.goLive, Request.exec_done received ((goLiveEngine_of_config config).trans
      (if_pos (State.hasOutlet_iff.mpr outlet))), s.goLive_frame, s.display.link_goLive s.now⟩
  intro quiet off
  refine ⟨fun config => ?_, fun live busy => ?_, fun live still links cells => ⟨s.goConfig, ?_, s.goConfig_frame, State.cell_goConfig cells,
    fun l hl => ?_⟩⟩
  · exact Request.exec_done received (goConfigEngine_of_config config)
  · exact Request.exec_refused received (goConfigEngine_of_busy live busy)
  · exact Request.exec_done received (goConfigEngine_of_still live still)
  · intro v
    have link : s.goConfig.display.link l = if v.isOff then v else v.goConfig :=
      Display.link_mapLinks (fun v => if v.isOff then v else v.goConfig) s.display (Nat.lt_succ_of_le hl)
    refine ⟨fun isOff => link.trans (if_pos (decide_eq_true isOff)), fun on => ?_⟩
    have goes : s.goConfig.display.link l = v.goConfig := link.trans (if_neg fun h => on (of_decide_eq_true h))
    rw [goes]
    exact ⟨rfl, Link.module_goConfig (Display.wf_modules links l)⟩

end Sys2Proof.Machine
end

section
/-! CONFIGURE (R85, R176, R177). -/

namespace Sys2Proof.Machine

theorem within_iff {low high n : Nat} : within low high n = true ↔ low ≤ n ∧ n ≤ high := decide_eq_true_iff

/-- A flag operand, as the items write it. -/
theorem flag_bne {n : Nat} (h : n ≤ 1) : (n != 0) = decide (n = 1) := by
  interval_cases n <;> rfl

/-! ### The checks of an item -/

section Checks

variable {s t : State} {p : PortId} {w : Word} {ops : List Word} {i : Item}

theorem configureCheck_of_unknown (h : Item.ofCode (operand ops 0) = none) : configureCheck ops s = some .malformed := by
  rw [configureCheck, h]

theorem configureCheck_malformed (code : Item.ofCode (operand ops 0) = some i)
    (bad : ¬ (ops.length = 4 ∧ i.malformed ops = false)) : configureCheck ops s = some .malformed := by
  rw [configureCheck, code]
  refine firstRefusal_fail (eq_true_of_ne_false fun good => bad ?_)
  rwa [Bool.or_eq_false_iff, decide_eq_false_iff_not, not_not] at good

/-- The checks of an item whose values can be read (R176 checks 3 to 5). -/
theorem configureCheck_of_formed (words : ops.length = 4) (code : Item.ofCode (operand ops 0) = some i)
    (formed : i.malformed ops = false) : configureCheck ops s = firstRefusal
      [(decide (s.mode = .live), .busy), (!i.inRange ops, .outOfRange), (i.guarded ops s.display, .inUse)] := by
  rw [configureCheck, code]
  exact firstRefusal_pass (Bool.or_eq_false_iff.mpr ⟨decide_eq_false (not_not.mpr words), formed⟩)

section Formed

variable (received : s.receives p w .configure ops) (words : ops.length = 4)
  (code : Item.ofCode (operand ops 0) = some i) (formed : i.malformed ops = false)
include received words code formed

theorem configure_busy (live : s.mode = .live) : exec (.configure p w .now) s = .next (s.answered p .busy []) :=
  Request.exec_checked_refused received rfl
    ((configureCheck_of_formed words code formed).trans (firstRefusal_fail (decide_eq_true live)))

theorem configure_outOfRange (config : s.mode = .config) (out : i.inRange ops = false) :
    exec (.configure p w .now) s = .next (s.answered p .outOfRange []) := by
  refine Request.exec_checked_refused received rfl ((configureCheck_of_formed words code formed).trans ?_)
  rw [firstRefusal_pass (decide_eq_false (by rw [config]; nofun)), firstRefusal_fail (by rw [out]; rfl)]

theorem configure_inUse (config : s.mode = .config) (range : i.inRange ops = true)
    (guarded : i.guarded ops s.display = true) : exec (.configure p w .now) s = .next (s.answered p .inUse []) := by
  refine Request.exec_checked_refused received rfl ((configureCheck_of_formed words code formed).trans ?_)
  rw [firstRefusal_pass (decide_eq_false (by rw [config]; nofun)), firstRefusal_pass (by rw [range]; rfl),
    firstRefusal_fail guarded]

theorem configure_done (config : s.mode = .config) (range : i.inRange ops = true)
    (free : i.guarded ops s.display = false) :
    exec (.configure p w .now) s = .next ((s.configure i ops).answered p .done []) := by
  refine Request.exec_checked_done received rfl ((configureCheck_of_formed words code formed).trans ?_) ?_
  · rw [firstRefusal_pass (decide_eq_false (by rw [config]; nofun)), firstRefusal_pass (by rw [range]; rfl),
      firstRefusal_pass free, firstRefusal_nil]
  · rw [code]
    rfl

/-- CONFIGURE of an item that no cell guards. -/
theorem configure_item {ok : Prop} (free : i.guarded ops s.display = false) (range : i.inRange ops = true ↔ ok)
    (acts : s.configure i ops = t) :
    (s.mode = .live → exec (.configure p w .now) s = .next (s.answered p .busy [])) ∧
    (s.mode = .config → (ok → exec (.configure p w .now) s = .next (t.answered p .done [])) ∧
      (¬ ok → exec (.configure p w .now) s = .next (s.answered p .outOfRange []))) := by
  refine ⟨configure_busy received words code formed, fun config => ⟨fun good => ?_, fun bad => ?_⟩⟩
  · rw [← acts]
    exact configure_done received words code formed config (range.mpr good) free
  · exact configure_outOfRange received words code formed config (eq_false_of_ne_true (mt range.mp bad))

end Formed

end Checks

/-! ### The values of each item -/

section Values

variable {ops : List Word}

theorem Item.malformed_link : Item.malformed ops .link = false ↔ operand ops 1 ≤ 3 ∧ operand ops 2 ≤ 1 := by
  rw [Item.malformed, Bool.or_eq_false_iff, decide_eq_false_iff_not, flagOperand_isNone, decide_eq_false_iff_not, not_lt,
    not_lt]

theorem Item.malformed_module : Item.malformed ops .module = false ↔
    operand ops 1 / 256 ≤ 3 ∧ operand ops 1 % 256 ≤ 31 ∧ operand ops 2 ≤ 1 := by
  rw [Item.malformed, Bool.or_eq_false_iff, Bool.or_eq_false_iff, decide_eq_false_iff_not, decide_eq_false_iff_not,
    flagOperand_isNone, decide_eq_false_iff_not, not_lt, not_lt, not_lt, and_assoc]
  rfl

theorem Item.malformed_ribbon : Item.malformed ops .ribbon = false ↔
    operand ops 1 / 256 ≤ 1 ∧ operand ops 1 % 256 ≤ 1 := by
  rw [Item.malformed, Bool.or_eq_false_iff, decide_eq_false_iff_not, decide_eq_false_iff_not, not_lt, not_lt]
  rfl

theorem Item.malformed_pairing : Item.malformed ops .pairing = false ↔ operand ops 1 ≤ 1 := by
  rw [Item.malformed, flagOperand_isNone, decide_eq_false_iff_not, not_lt]

theorem Item.inRange_link : Item.inRange ops .link = true ↔
    2 ≤ operand ops 3 / 256 ∧ operand ops 3 / 256 ≤ 30 ∧ operand ops 3 % 256 ∈ [20, 50, 100, 200] := by
  rw [Item.inRange, Bool.and_eq_true, within_iff, List.contains_iff_mem, and_assoc]
  rfl

theorem Item.inRange_module : Item.inRange ops .module = true ↔ operand ops 2 = 0 ∨
    1 ≤ operand ops 3 / 256 ∧ operand ops 3 / 256 ≤ 4 ∧ 8 ≤ operand ops 3 % 256 ∧ operand ops 3 % 256 ≤ 40 := by
  rw [Item.inRange, Bool.or_eq_true, Bool.and_eq_true, decide_eq_true_iff, within_iff, within_iff, and_assoc]
  rfl

theorem Item.inRange_ribbon : Item.inRange ops .ribbon = true ↔
    operand ops 2 ∈ [50, 60, 75, 80, 100, 120] ∧ operand ops 3 ∈ [50, 100, 200, 500, 1000] := by
  rw [Item.inRange, Bool.and_eq_true, isCharacterPeriod, List.contains_iff_mem, List.contains_iff_mem]

theorem Item.inRange_lateThresholds : Item.inRange ops .lateThresholds = true ↔
    10 ≤ operand ops 1 ∧ operand ops 1 ≤ 600 ∧ operand ops 1 < operand ops 2 ∧ operand ops 2 ≤ 900 := by
  rw [Item.inRange, Bool.and_eq_true, within_iff, within_iff, and_assoc]
  rfl

/-- R85: a BOUND cell on the module lies outside the geometry that the item would give it. -/
theorem Item.guarded_module (d : Display) : Item.guarded ops d .module = true ↔
    ∃ c ∈ d.boundCells, d.onModule (operand ops 1 / 256) (operand ops 1 % 256) c = true ∧
      (operand ops 2 = 0 ∨ operand ops 3 / 256 < (d.cell c).row ∨
        operand ops 3 % 256 < (d.cell c).column + (d.cell c).width - 1) := by
  rw [Item.guarded, Display.guards, List.any_eq_true]
  simp only [Bool.and_eq_true, Bool.or_eq_true, Bool.not_eq_true', bne_eq_false_iff_eq, decide_eq_true_iff, or_assoc]
  rfl

theorem Module.configure_eq {n : Nat} (flag : n ≤ 1) (rows columns : Nat) (e : Module) :
    e.configure (n != 0) rows columns = if n = 1 then ⟨.down, rows, columns, none, .nothing, false⟩
      else ⟨.unconfigured, e.rows, e.columns, none, .nothing, false⟩ := by
  interval_cases n <;> rfl

/-- R176: the codes of the items. -/
theorem Item.ofCode_iff (n : Nat) (i : Item) : Item.ofCode n = some i ↔
    (n, i) ∈ [(1, Item.link), (2, .module), (3, .probeInterval), (4, .highlightInterval), (5, .ribbon), (6, .pairing),
      (7, .lateThresholds), (8, .blockThreshold)] := by
  unfold Item.ofCode
  split <;> simp_all [eq_comm]

end Values

/-! ### The part after an item -/

section After

variable (s : State) {ops : List Word}

theorem State.configure_link (flag : operand ops 2 ≤ 1) : s.configure .link ops = { s with
    display := s.display.setLink (operand ops 1) { s.display.link (operand ops 1) with
      enabled := decide (operand ops 2 = 1), holdSeconds := operand ops 3 / 256, ackTimeout := operand ops 3 % 256 } } := by
  rw [← flag_bne flag]
  rfl

theorem State.configure_module (flag : operand ops 2 ≤ 1) : s.configure .module ops = { s with
    display := s.display.setLink (operand ops 1 / 256)
      ((s.display.link (operand ops 1 / 256)).setModule (operand ops 1 % 256)
        (if operand ops 2 = 1 then ⟨.down, operand ops 3 / 256, operand ops 3 % 256, none, .nothing, false⟩
        else ⟨.unconfigured, ((s.display.link (operand ops 1 / 256)).module (operand ops 1 % 256)).rows,
          ((s.display.link (operand ops 1 / 256)).module (operand ops 1 % 256)).columns, none, .nothing, false⟩)) } := by
  rw [← Module.configure_eq flag]
  rfl

theorem State.configure_ribbon (flag : operand ops 1 % 256 ≤ 1) : s.configure .ribbon ops =
    s.setRibbon (operand ops 1 / 256) { s.ribbon (operand ops 1 / 256) with
      enabled := decide (operand ops 1 % 256 = 1), period := operand ops 2, ackTimeout := operand ops 3 } := by
  rw [← flag_bne flag]
  rfl

theorem State.configure_pairing (flag : operand ops 1 ≤ 1) : s.configure .pairing ops =
    { s with items := { s.items with joined := decide (operand ops 1 = 1) } } := by
  rw [← flag_bne flag]
  rfl

end After

/-- Settles O52: CONFIGURE item by item. -/
theorem configureReplacesItems : Obligations.ConfigureReplacesItems := by
  refine ⟨fun s p w ops received => ?_, fun s p w ops received words => ?_⟩
  · intro a known bad
    cases code : Item.ofCode (operand ops 0) with
    | none => exact Request.exec_checked_refused received rfl (configureCheck_of_unknown code)
    | some i =>
      refine Request.exec_checked_refused received rfl (configureCheck_malformed code fun good => bad ⟨good.1, ?_⟩)
      have value := (Item.ofCode_iff _ i).mp code
      cases i with
      | link =>
        have one : operand ops 0 = 1 := by simpa using value
        simp only [known, one]
        exact Item.malformed_link.mp good.2
      | module =>
        have two : operand ops 0 = 2 := by simpa using value
        simp only [known, two]
        exact Item.malformed_module.mp good.2
      | ribbon =>
        have five : operand ops 0 = 5 := by simpa using value
        simp only [known, five]
        exact Item.malformed_ribbon.mp good.2
      | pairing =>
        have six : operand ops 0 = 6 := by simpa using value
        simp only [known, six]
        exact Item.malformed_pairing.mp good.2
      | probeInterval =>
        have three : operand ops 0 = 3 := by simpa using value
        simp only [known, three]
        decide
      | highlightInterval =>
        have four : operand ops 0 = 4 := by simpa using value
        simp only [known, four]
        decide
      | lateThresholds =>
        have seven : operand ops 0 = 7 := by simpa using value
        simp only [known, seven]
        decide
      | blockThreshold =>
        have eight : operand ops 0 = 8 := by simpa using value
        simp only [known, eight]
        decide
  · intro a hi lo takes refuses item v m
    have code {n : Nat} (i : Item) (value : operand ops 0 = n)
        (listed : (n, i) ∈ [(1, Item.link), (2, .module), (3, .probeInterval), (4, .highlightInterval), (5, .ribbon),
          (6, .pairing), (7, .lateThresholds), (8, .blockThreshold)]) : Item.ofCode (operand ops 0) = some i := by
      rw [value]
      exact (Item.ofCode_iff n i).mpr listed
    refine ⟨fun value link flag => ?_, fun value link module flag => ?_, fun value => ?_, fun value => ?_,
      fun value ribbon flag => ?_, fun value flag => ?_, fun value => ?_, fun value => ?_, fun value => ?_⟩
    · exact configure_item received words (code .link value (by decide)) (Item.malformed_link.mpr ⟨link, flag⟩) rfl
        Item.inRange_link (s.configure_link flag)
    · intro outside ok
      have coded := code .module value (by decide)
      have formed : Item.malformed ops .module = false := Item.malformed_module.mpr ⟨link, module, flag⟩
      have guarded : Item.guarded ops s.display .module = true ↔ outside := Item.guarded_module s.display
      refine ⟨configure_busy received words coded formed, fun config out => ?_, fun config range out => ?_,
        fun config range inside => ?_⟩
      · exact configure_outOfRange received words coded formed config (eq_false_of_ne_true (mt Item.inRange_module.mp out))
      · exact configure_inUse received words coded formed config (Item.inRange_module.mpr range) (guarded.mpr out)
      · rw [← s.configure_module flag]
        exact configure_done received words coded formed config (Item.inRange_module.mpr range)
          (eq_false_of_ne_true (mt guarded.mp inside))
    · exact configure_item received words (code .probeInterval value (by decide)) rfl rfl within_iff rfl
    · exact configure_item received words (code .highlightInterval value (by decide)) rfl rfl within_iff rfl
    · exact configure_item received words (code .ribbon value (by decide)) (Item.malformed_ribbon.mpr ⟨ribbon, flag⟩) rfl
        Item.inRange_ribbon (s.configure_ribbon flag)
    · exact configure_item received words (code .pairing value (by decide)) (Item.malformed_pairing.mpr flag) rfl
        (iff_of_true rfl trivial) (s.configure_pairing flag)
    · exact configure_item received words (code .lateThresholds value (by decide)) rfl rfl Item.inRange_lateThresholds rfl
    · exact configure_item received words (code .blockThreshold value (by decide)) rfl rfl within_iff rfl
    · refine Request.exec_checked_refused received rfl (configureCheck_of_unknown ?_)
      rw [Option.eq_none_iff_forall_ne_some]
      intro i coded
      have listed := (Item.ofCode_iff _ i).mp coded
      simp at listed
      omega

end Sys2Proof.Machine
end
